-- ==== Sys2Proof/Word.lean ====
section
/-! DEFINITION. Bytes, tables of fixed size, and the plainest arithmetic of the manual (00, "Units and number conventions"). -/

namespace Sys2Proof

/-- A byte of a transfer or of a frame. -/
abbrev Byte := BitVec 8

/-- The largest value of a 32-bit count: energy counters and 32-bit counts saturate here. -/
abbrev u32Max : Nat := 4294967295

/-- The largest value of a 16-bit count. -/
abbrev u16Max : Nat := 65535

/-- A rise that stops at `limit` ("saturating at"). -/
def satAdd (limit a b : Nat) : Nat := min limit (a + b)

/-- "Clamped to lo..hi" takes the nearer bound when a value falls outside (00). -/
def clampInt (lo hi x : Int) : Int := max lo (min hi x)

/-- Division rounded up, for a positive divisor. -/
def ceilDiv (a b : Nat) : Nat := (a + b - 1) / b

/-- A fixed number of like things. -/
structure Table (α : Type) (n : Nat) where
  data : List α
  size_eq : data.length = n
  deriving DecidableEq, Repr

/-- The entry at an index. -/
def Table.get {α : Type} {n : Nat} (t : Table α n) (i : Fin n) : α :=
  t.data[i.val]'(by rw [t.size_eq]; exact i.isLt)

/-- The table with one entry replaced. -/
def Table.set {α : Type} {n : Nat} (t : Table α n) (i : Fin n) (v : α) : Table α n :=
  ⟨t.data.set i.val v, by rw [List.length_set]; exact t.size_eq⟩

/-- The table with every entry the same. -/
def Table.replicate {α : Type} (n : Nat) (v : α) : Table α n :=
  ⟨List.replicate n v, List.length_replicate⟩

/-- Every entry changed by one function. -/
def Table.map {α β : Type} {n : Nat} (f : α → β) (t : Table α n) : Table β n :=
  ⟨t.data.map f, by rw [List.length_map]; exact t.size_eq⟩

/-- The table whose entry at `i` is `f i`. -/
def Table.ofFn {α : Type} {n : Nat} (f : Fin n → α) : Table α n :=
  ⟨(List.finRange n).map f, by simp⟩

/-- The lowest index at or above `start` (itself the index of the list's head) whose entry satisfies `p`. -/
def lowestFrom {α : Type} (p : Nat → α → Bool) : Nat → List α → Option Nat
  | _, [] => none
  | i, x :: xs => if p i x then some i else lowestFrom p (i + 1) xs

/-- The lowest index of a table whose entry satisfies `p`. -/
def Table.lowest {α : Type} {n : Nat} (p : Nat → α → Bool) (t : Table α n) : Option (Fin n) :=
  match lowestFrom p 0 t.data with
  | some i => if h : i < n then some ⟨i, h⟩ else none
  | none => none

end Sys2Proof
end

