-- ==== Sys2Proof/Config.lean ====
section
/-! DEFINITION. What the part fixes: constants the manual gives. The manual leaves no value of this part free, so there is no free value here. -/

namespace Sys2Proof.Config

/-- The part code of the ZC24 (R205). -/
def partCode : Nat := 0x2418

/-- The silicon revision the manual describes (R205). -/
def siliconRevision : Nat := 1

/-- How long a site line must hold a new level, in ms (R154). -/
def qualifyMs : Nat := 20

/-- The latest completion of a commit after its beginning, in ms (R173). -/
def commitMs : Nat := 250

/-- The largest credit of a record (R3). -/
def creditMax : Nat := 2000000

/-- The longest validity of an ISSUE, in minutes (R11). -/
def validityMax : Nat := 525600

/-- The largest power that the manual's computations carry, in W (00). -/
def powerMax : Nat := 1000000

/-- The grid weight of a draw (R109). -/
def gridWeight : Nat := 16

/-- Missed POLLs that make a node SILENT, and all-silent cycles that collapse the link (R137, R139). -/
def missLimit : Nat := 3

/-- The most report windows of a cycle (R134). -/
def windowsPerCycle : Nat := 4

/-- The most entries of a node's notice list (R132). -/
def noticeListMax : Nat := 8

end Sys2Proof.Config
end

