-- ==== Sys2Proof/Syntax.lean ====
section
/-! DEFINITION. The commands and events of the controller: one constructor of Instr for each row of spec/opcode_table.json, in the table's order, with the operands that the row's rule gives it. -/

namespace Sys2Proof

/-- A bay: bay number 1..24 is index 0..23 (R30). -/
abbrev Bay := Fin 24
/-- A node address: address 1..30 is index 0..29 (R122). -/
abbrev Addr := Fin 30
/-- An outlet of a pedestal: outlet index 1..4 is 0..3 (R31). -/
abbrev OutIx := Fin 4
/-- A slot of the credit table, 0..1023 (R1). -/
abbrev SlotNo := Fin 1024

/-- A receipt record named by its code or by its slot (R16). -/
inductive RecordKey where
  | code (code : Nat)
  | slot (slot : Nat)
  deriving DecidableEq, Repr

/-- The value of a setting item as SETTING_WRITE carries it (R167, R205): a number (of W, Wh, s, ms, 0.1 V,
a flag, a choice), a bay map, or a reserve window with its presence. -/
inductive SettingValue where
  | num (n : Int)
  | map (valid node outlet managed : Nat)
  | window (w : Option (Nat × Nat × Nat))
  deriving DecidableEq, Repr

/-- One outlet entry of a pedestal's STATUS (R120): the outlet's latest readings. -/
structure OutletReading where
  plugged : Bool
  /-- Vehicle request in W. -/
  request : Int
  /-- Measured power in W. -/
  measured : Int
  /-- Cumulative meter in energy units, wrapping at 2^32. -/
  meter : Nat
  vehicleDone : Bool
  customerPause : Bool
  /-- Module fault code, 0 = none. -/
  moduleFault : Nat
  deriving DecidableEq, Repr

/-- A battery's STATUS (R120). -/
structure BatteryReading where
  /-- Battery power in W, positive when discharging. -/
  power : Int
  /-- Energy content E in Wh. -/
  energy : Nat
  /-- Usable capacity in Wh. -/
  capacity : Nat
  chargeLimit : Int
  dischargeLimit : Int
  full : Bool
  empty : Bool
  faultCode : Nat
  deriving DecidableEq, Repr

/-- A canopy cap: a value in W, or uncapped (R100). -/
inductive Cap where
  | watts (w : Int)
  | uncapped
  deriving DecidableEq, Repr

/-- The contents of a STATUS, by the kind of the node (R120). -/
inductive StatusBody where
  | pedestal (entries : List OutletReading)
  | canopy (power : Int) (cap : Cap)
  | battery (b : BatteryReading)
  | supplyMeter (power : Int) (voltage : Nat)
  deriving DecidableEq, Repr

/-- The contents of a SET_ACK (R120): a pedestal's carries the outlet index, a battery's and a canopy's the value alone. -/
inductive AckBody where
  | outlet (ix : Nat) (value : Int)
  | battery (value : Int)
  | canopy (cap : Cap)
  deriving DecidableEq, Repr

/-- The five site lines (R154). -/
inductive LineId where
  | gl0
  | gl1
  | gl2
  | stopAll
  | keylock
  deriving DecidableEq, Repr

/-- One constructor per row of spec/opcode_table.json. Numbers that a site port frame carries stay numbers, so that a value out of
range reaches the refusal its rule gives it. -/
inductive Instr where
  /-- ISSUE (R11). -/
  | issue (code kind till tier credit validity singleUse : Nat)
  /-- AMEND (R12). -/
  | amend (code add : Nat) (newExpiry newTier : Option Nat)
  /-- VOID (R14). -/
  | void (code : Nat)
  /-- RETIRE (R16). -/
  | retire (key : RecordKey)
  /-- LOOKUP (R17). -/
  | lookup (code : Nat)
  /-- READ_SLOT (R17). -/
  | readSlot (slot : Nat)
  /-- FIND_NEXT (R18): the states are a set of one bit per state in the order of R1. -/
  | findNext (start : Nat) (states : Byte) (changedOnly : Nat)
  /-- OUTLET_READ (R57). -/
  | outletRead (bay : Nat)
  /-- OUTLET_ENABLE (R58). -/
  | outletEnable (bay : Nat)
  /-- OUTLET_DISABLE (R58). -/
  | outletDisable (bay : Nat)
  /-- OUTLET_STOP (R59). -/
  | outletStop (bay : Nat)
  /-- OUTLET_CLEAR (R60). -/
  | outletClear (bay : Nat)
  /-- OUTLET_SERVICE_START (R61). -/
  | outletServiceStart (bay cap : Nat)
  /-- POOL_READ (R87). -/
  | poolRead
  /-- BATTERY_READ (R102). -/
  | batteryRead
  /-- PAUSE_ALL (R160). -/
  | pauseAll
  /-- RESUME_ALL (R161). -/
  | resumeAll
  /-- NODE_READ (R143). -/
  | nodeRead (address : Nat)
  /-- LINK_RESTART (R141). -/
  | linkRestart
  /-- LINK_REQUEST (R146). -/
  | linkRequest
  /-- LINK_FRAME (R148). -/
  | linkFrame (address : Nat) (payload : List Byte)
  /-- LINK_RELEASE (R151). -/
  | linkRelease
  /-- SETUP_BEGIN (R169). -/
  | setupBegin
  /-- SETTING_WRITE (R170). -/
  | settingWrite (group item : Nat) (index : Option Nat) (value : SettingValue)
  /-- SETTING_READ (R171). -/
  | settingRead (group item : Nat) (index : Option Nat)
  /-- SETUP_END (R172). -/
  | setupEnd
  /-- SETUP_ABANDON (R174). -/
  | setupAbandon
  /-- LOCK_SET (R177): OPEN 0, KEYED 1, LOCKED 2; any other level is refused. -/
  | lockSet (level : Nat)
  /-- FUSE (R178). -/
  | fuse
  /-- START (R196). -/
  | start
  /-- STOP (R197). -/
  | stop
  /-- SET_TIME (R199). -/
  | setTime (value : Nat)
  /-- READ_TIME (R199). -/
  | readTime
  /-- IDENTIFY (R203). -/
  | identify
  /-- RESET (R201): the command. -/
  | reset
  /-- NOTICE_READ (R188). -/
  | noticeRead
  /-- NOTICE_CLEAR (R189): the sources are a set of one bit per source in the order of R186. -/
  | noticeClear (sources : Byte)
  /-- NOTICE_ENABLE (R190). -/
  | noticeEnable (sources : Byte)
  /-- FAULTS_READ (R193). -/
  | faultsRead
  /-- FAULTS_CLEAR (R193): the flags are a set of one bit per flag in the order of R191. -/
  | faultsClear (flags : BitVec 16)
  /-- UNKNOWN_COMMAND (R182): the bytes of a command transfer that fails a frame check. -/
  | unknownCommand (bytes : List Byte)
  /-- RESET_LINE (R201): release of the RESET line. -/
  | resetLine
  /-- POWER_ON (R202): the main supply rises into range. -/
  | powerOn
  /-- MAIN_SUPPLY_FALL (R202): `cellGood` is the level of VBAK, at or above 2.0 V, as the main supply falls. -/
  | mainSupplyFall (cellGood : Bool)
  /-- SITE_SECOND_TICK (R198). -/
  | siteSecondTick
  /-- EXPIRY_SWEEP (R26). -/
  | expirySweep
  /-- LINE_CHANGE (R154): the wire goes to its active or inactive level. -/
  | lineChange (line : LineId) (active : Bool)
  /-- GRID_LIMIT_QUALIFIED (R154): GL0, GL1 or GL2 has held its new level for 20 ms. -/
  | gridLimitQualified (line : Fin 3)
  /-- STOP_ASSERTED (R157). -/
  | stopAsserted
  /-- STOP_RELEASED (R159). -/
  | stopReleased
  /-- KEYLOCK_QUALIFIED (R164): as OPEN or as CLOSED. -/
  | keylockQualified (opened : Bool)
  /-- ALLOCATION_ROUND (R66). -/
  | allocationRound
  /-- DRAW (R23): the credit table takes the oldest draw formed and not yet taken. -/
  | draw
  /-- OVERDRAW_TIMER_EXPIRY (R47). -/
  | overdrawTimerExpiry (bay : Bay)
  /-- START_TIMER_EXPIRY (R42). -/
  | startTimerExpiry (bay : Bay)
  /-- FUNDING_WAIT_EXPIRY (R46). -/
  | fundingWaitExpiry (bay : Bay)
  /-- HOLD_OFF_EXPIRY (R49). -/
  | holdOffExpiry (bay : Bay)
  /-- PAUSE_MINIMUM_EXPIRY (R44). -/
  | pauseMinimumExpiry (bay : Bay)
  /-- SILENCE_HOLD_EXPIRY (R51). -/
  | silenceHoldExpiry (bay : Bay)
  /-- FRAME_SENT (R118): the controller's frame has been sent. -/
  | frameSent
  /-- STATUS (R129), with a correct check. -/
  | status (address : Addr) (body : StatusBody)
  /-- STATUS_TIMEOUT (R137). -/
  | statusTimeout
  /-- SET_ACK (R131), with a correct check. -/
  | setAck (address : Addr) (body : AckBody)
  /-- SET_ACK_TIMEOUT (R131). -/
  | setAckTimeout
  /-- IDENT (R126), with a correct check: kind code, outlet count, rating in W, 48-bit serial. -/
  | ident (address : Addr) (kind outletCount : Nat) (rating : Int) (serial : Nat)
  /-- IDENT_TIMEOUT (R125). -/
  | identTimeout
  /-- PRESENT (R19): a REPORT with a 64-bit code. -/
  | present (address : Addr) (outlet code : Nat)
  /-- PAID_AUTH (R38): a REPORT with an energy cap. -/
  | paidAuth (address : Addr) (outlet cap : Nat)
  /-- CUSTOMER_STOP (R38): a REPORT. -/
  | customerStop (address : Addr) (outlet : Nat)
  /-- WINDOW_TIMEOUT (R136). -/
  | windowTimeout
  /-- DISCARDED_FRAME (R119): a received frame that is no good reply, as its bytes. -/
  | discardedFrame (bytes : List Byte)
  /-- RAW_REPLY (R148): a frame with a correct check, from the kind byte to the last payload byte. -/
  | rawReply (address : Addr) (bytes : List Byte)
  /-- RAW_REPLY_TIMEOUT (R148). -/
  | rawReplyTimeout
  /-- PT_EXPIRED (R152). -/
  | ptExpired
  /-- COMMIT_COMPLETE (R173). -/
  | commitComplete
  /-- BACKUP_CELL_LOSS (R200). -/
  | backupCellLoss
  /-- RESET_LINE_ASSERTED (R201). -/
  | resetLineAsserted
  deriving DecidableEq, Repr

end Sys2Proof
end

