-- ==== Sys2Proof/Decode.lean ====
section
/-! DEFINITION. The command that a word of the opcode table spells. No row of spec/opcode_table.json gives bits, so no word spells a command; the bytes of command transfers and link frames (R182, R205, R206) are in Sys2Proof/Machine/Frames.lean. -/

namespace Sys2Proof

/-- No row of the table gives bits: no word spells a command. -/
def decodeTableWord (_nbits _w : Nat) : Option Instr := none

end Sys2Proof
end

