-- ==== Sys2Proof/Machine/State.lean ====
section
/-! DEFINITION. The state of the controller, block by block, as plain data; the reasons a step can stop; the state after reset. -/

namespace Sys2Proof.Machine

/-! ### Why a step stops -/

/-- No rule of the manual stops the controller: there is no fault, and no meaning answers one. (Safe: nothing is stopped.) -/
inductive Fault
  deriving DecidableEq, Repr

/-- The one refusal of the model. -/
inductive Refusal where
  /-- Raised by exec for a row that has no meaning yet. Safe: nothing can be proved of what such a row does. -/
  | notModelled (mnemonic : String)
  deriving DecidableEq, Repr

/-! ### Credit table (chapter 1) -/

/-- The six record states, in the order of R1. -/
inductive RecordState where
  | FREE | LIVE | BOUND | SPENT | LAPSED | VOIDED
  deriving DecidableEq, Repr

/-- RECEIPT or PASS (R2). -/
inductive RecordKind where
  | RECEIPT | PASS
  deriving DecidableEq, Repr

/-- Why a record is SPENT (R2). -/
inductive SpendReason where
  | CREDIT_ZERO | SINGLE_USE
  deriving DecidableEq, Repr

/-- A record's running account of energy and sessions (R2). -/
structure CreditStatement where
  solar : Nat
  battery : Nat
  grid : Nat
  creditFunded : Nat
  /-- Uncovered credit, in credit units. -/
  uncovered : Nat
  sessions : Nat
  lastBay : Option Bay
  lastUnbind : Option Nat
  interrupted : Bool
  deriving DecidableEq, Repr

/-- A statement of all zeros, as ISSUE makes it (R11). -/
def CreditStatement.zero : CreditStatement :=
  { solar := 0, battery := 0, grid := 0, creditFunded := 0, uncovered := 0, sessions := 0, lastBay := none, lastUnbind := none,
    interrupted := false }

/-- One record (R2). -/
structure Record where
  state : RecordState
  kind : RecordKind
  code : Nat
  till : Nat
  tier : Nat
  singleUse : Bool
  granted : Nat
  remaining : Nat
  drawn : Nat
  forfeited : Nat
  issueTime : Nat
  expiryTime : Nat
  boundBay : Option Bay
  bindingEnergy : Option Nat
  voidPending : Bool
  spendReason : Option SpendReason
  statement : CreditStatement
  changed : Bool
  deriving DecidableEq, Repr

/-- A FREE slot: "all fields other than the state are zero or absent" (R1). -/
def Record.free : Record :=
  { state := .FREE, kind := .RECEIPT, code := 0, till := 0, tier := 0, singleUse := false, granted := 0, remaining := 0, drawn := 0,
    forfeited := 0, issueTime := 0, expiryTime := 0, boundBay := none, bindingEnergy := none, voidPending := false,
    spendReason := none, statement := .zero, changed := false }

/-- The credit table (R1). The code index (R6) and the per-state counts (R5) are views of the slots: `CreditTable.findCode` and
`CreditTable.count` in Machine/Ops.lean. -/
structure CreditTable where
  slots : Table Record 1024
  deriving DecidableEq, Repr

/-! ### Outlet table (chapters 2 and 8) -/

/-- The fourteen outlet states, in the order of R33. -/
inductive OutletState where
  | UNMAPPED | METER_ONLY | OFFLINE | DISABLED | IDLE | PLUGGED | QUEUED | STARTING | CHARGING | PAUSED | ENDING | FAULT | HOLDOFF
  | LOCKED
  deriving DecidableEq, Repr

/-- Why an outlet is OFFLINE (R30). -/
inductive OfflineCause where
  | NOT_SEEN | SILENT | MAP_MISMATCH | LINK
  deriving DecidableEq, Repr

/-- The five pause reasons (R43). -/
inductive PauseReason where
  | BUDGET | SITE | SUPPLY | CUSTOMER | FUNDING
  deriving DecidableEq, Repr

/-- A pause-reason set: each reason at most once (R30). -/
structure Reasons where
  budget : Bool
  site : Bool
  supply : Bool
  customer : Bool
  funding : Bool
  deriving DecidableEq, Repr

/-- What pays for a session (R36), in the order of R207. -/
inductive FundingKind where
  | CREDIT | PAID | SERVICE
  deriving DecidableEq, Repr

/-- A session record (R36). -/
structure Session where
  kind : FundingKind
  boundSlot : Option SlotNo
  cap : Nat
  paidEnergy : Nat
  energy : Nat
  solar : Nat
  battery : Nat
  grid : Nat
  creditFunded : Nat
  unfunded : Nat
  uncovered : Nat
  queuedTime : Nat
  startTime : Option Nat
  admitted : Bool
  interrupted : Bool
  deriving DecidableEq, Repr

/-- The end reasons, numbered as R207 numbers them ("in the order of R40"). -/
inductive EndReason where
  | UNPLUGGED | VEHICLE_DONE | CUSTOMER_STOP | CAP_REACHED | FUNDING_ENDED | COMMAND | STOP_INPUT | FAULT | LINK_LOSS | LINK_DOWN
  | RESET
  deriving DecidableEq, Repr

/-- The last-session summary (R39). -/
structure Summary where
  session : Session
  reason : EndReason
  endTime : Nat
  deriving DecidableEq, Repr

/-- The causes of an outlet fault (R48), in the order of R207. -/
inductive FaultCause where
  | MODULE | START_TIMEOUT | START_OVERLOAD | OVERDRAW
  deriving DecidableEq, Repr

/-- An outlet timer: its remaining time in ms, and whether silence (R50) or a pass-through window (R52) has frozen it. -/
structure Timer where
  left : Nat
  frozenBySilence : Bool
  frozenByWindow : Bool
  deriving DecidableEq, Repr

/-- A pending target is a DECREASE or a RAISE (R53). -/
inductive TargetKind where
  | DECREASE | RAISE
  deriving DecidableEq, Repr

/-- A pending target (R53), in W. -/
structure PendingTarget where
  kind : TargetKind
  target : Nat
  deriving DecidableEq, Repr

/-- A meter baseline: the reading and its internal time stamp in ms (R35). -/
structure Baseline where
  reading : Nat
  stamp : Nat
  deriving DecidableEq, Repr

/-- One entry of the outlet table (R30). The bay's map and per-bay settings are those of the stored copy (R31, R32). -/
structure Outlet where
  state : OutletState
  offlineCause : Option OfflineCause
  beforeSilence : Option OutletState
  reasons : Reasons
  session : Option Session
  summary : Option Summary
  /-- In-force allocation, in W: the value last acknowledged. -/
  inForce : Int
  pending : Option PendingTarget
  raiseReleased : Bool
  overdraw : Option Timer
  startTimer : Option Timer
  fundingWait : Option Timer
  holdOff : Option Timer
  pauseMinimum : Option Timer
  silenceHold : Option Timer
  /-- Fault window list, oldest first (R48). -/
  faultList : List Nat
  lastFault : Option (FaultCause × Nat)
  baseline : Option Baseline
  unattributed : Nat
  lifetime : Nat
  changed : Bool
  deriving DecidableEq, Repr

/-- The side of a supply window that is OUT (R162). -/
inductive Side where
  | LOW | HIGH
  deriving DecidableEq, Repr

/-- The outlet table with the site hold and the supply window, which the outlet supervisor keeps too (R160, R162). -/
structure OutletTable where
  entries : Table Outlet 24
  /-- The site hold: true is STANDING (R160). -/
  siteHold : Bool
  /-- The supply window: none is IN, some side is OUT (R162). -/
  window : Option Side
  /-- The voltage of the last supply STATUS that evaluated the window, in 0.1 V (R165). -/
  lastVoltage : Option Nat
  deriving DecidableEq, Repr

/-! ### Power balance unit (chapters 3, 4 and 5) -/

/-- An entry of the admission queue (R73): `active` is ACTIVE, otherwise WITHDRAWN. -/
structure QueueEntry where
  bay : Bay
  priority : Nat
  active : Bool
  deriving DecidableEq, Repr

/-- The outcomes of the first pass (R41). -/
inductive PassOutcome where
  | MINIMUM | BUDGET | ADMITTED | WAITING
  deriving DecidableEq, Repr

/-- A reading as a round used it (R87): the value used, the reading's age in ms, whether it was fresh. -/
structure ReadingUse where
  value : Option Int
  age : Option Nat
  fresh : Bool
  deriving DecidableEq, Repr

/-- The record of the last round (R87). -/
structure RoundRecord where
  time : Nat
  /-- true is NORMAL, false is SAFE (R70). -/
  normal : Bool
  bank : Nat
  lImp : Nat
  pGrid : ReadingUse
  pPv : ReadingUse
  pPvRaw : ReadingUse
  pBat : ReadingUse
  sumOut : Int
  u : Int
  rSil : Int
  guardBand : Nat
  cCab : Nat
  cSafe : Nat
  decay : Nat
  stagger : Nat
  s : Option Int
  sEst : Int
  firstUsed : Bool
  bOff : Int
  cRaw : Int
  cTop : Int
  c : Int
  outcomes : Table (Option PassOutcome) 24
  deriving DecidableEq, Repr

/-- A draw formed and not yet taken (R110). -/
structure Draw where
  bay : Bay
  slot : Option SlotNo
  p : Nat
  b : Nat
  g : Nat
  d : Nat
  deriving DecidableEq, Repr

/-- The allocation side of the power balance unit (chapter 3), with the bank number kept from the last round (R156). -/
structure Pool where
  roundTimer : Option Nat
  sPrev : Int
  firstRound : Bool
  queue : List QueueEntry
  computed : Table Nat 24
  lastRound : Option RoundRecord
  roundCount : Nat
  keptBank : Option Nat
  /-- Draws handed to the credit table and not yet taken, oldest first (R110). -/
  draws : List Draw
  deriving DecidableEq, Repr

/-- The battery's delivery record (R99). -/
structure BatteryDelivery where
  computed : Int
  acked : Option Int
  pending : Option Int
  deriving DecidableEq, Repr

/-- The canopy's delivery record (R100). -/
structure CanopyDelivery where
  computed : Option Cap
  acked : Option Cap
  pending : Option Cap
  deriving DecidableEq, Repr

/-- The battery and canopy side of the power balance unit (chapter 4). -/
structure Storage where
  /-- The start minute of the reserve window in force (R89). -/
  windowStart : Option Nat
  floor : Nat
  gridCharge : Bool
  /-- The discharge permission: true is ALLOWED (R90). -/
  allowed : Bool
  /-- The last permission evaluation: true is clear, false is held (R102). -/
  lastClear : Option Bool
  bOff : Int
  pNeed : Option Int
  battery : BatteryDelivery
  canopy : CanopyDelivery
  netImport : Option Int
  deriving DecidableEq, Repr

/-! ### Link controller (chapters 6 and 7) -/

/-- Node states (R122). -/
inductive NodeState where
  | ABSENT | PRESENT | SILENT | IGNORED
  deriving DecidableEq, Repr

/-- Node kinds, in the order of R206. -/
inductive NodeKind where
  | PEDESTAL | CANOPY | BATTERY | SUPPLY_METER
  deriving DecidableEq, Repr

/-- Why a node is IGNORED (R121). -/
inductive IgnoreCause where
  | DUPLICATE_KIND | DUPLICATE_SERIAL | BAD_IDENT
  deriving DecidableEq, Repr

/-- A node's identity as its IDENT gave it (R122): the kind code, so that a kind that is none of the four can be recorded. -/
structure Identity where
  kindCode : Nat
  outletCount : Nat
  rating : Int
  serial : Nat
  deriving DecidableEq, Repr

/-- A node's latest STATUS with its arrival: site time in s and internal time stamp in ms (R122). -/
structure Arrival where
  body : StatusBody
  time : Nat
  stamp : Nat
  deriving DecidableEq, Repr

/-- What a NOTICE_TO_NODE tells (R120), in the order of R206. -/
inductive NodeNoticeKind where
  | FUNDING_ENDED | SESSION_ENDED
  deriving DecidableEq, Repr

/-- An entry of a notice list (R132). -/
structure NodeNotice where
  outlet : OutIx
  kind : NodeNoticeKind
  deriving DecidableEq, Repr

/-- One entry of the node table (R122). -/
structure Node where
  state : NodeState
  ignoreCause : Option IgnoreCause
  identity : Option Identity
  misses : Nat
  readings : Option Arrival
  reportUsed : Bool
  notices : List NodeNotice
  /-- Outstanding setpoints of a pedestal's outlets. -/
  outOutlet : Table (Option Int) 4
  outBattery : Option Int
  outCanopy : Option Cap
  deriving DecidableEq, Repr

/-- An ABSENT entry, every other field absent, zero or empty (R122). -/
def Node.absent : Node :=
  { state := .ABSENT, ignoreCause := none, identity := none, misses := 0, readings := none, reportUsed := false, notices := [],
    outOutlet := Table.replicate 4 none, outBattery := none, outCanopy := none }

/-- The five link states (R123). -/
inductive LinkState where
  | IDLE | DISCOVERING | RUNNING | PASS_THROUGH | DOWN
  deriving DecidableEq, Repr

/-- The answers to a REPORT, numbered as R206 numbers them. -/
inductive Answer where
  | ACCEPTED | NOT_MANAGED | SITE_BUSY | NOT_READY | ALREADY_FUNDED | UNKNOWN | VOIDED | SPENT | EXPIRED | IN_USE | TIER_LOW
  deriving DecidableEq, Repr

/-- A frame that the controller sends by itself (R120). -/
inductive Sent where
  | identReq (a : Addr)
  | poll (a : Addr)
  | setOutlet (a : Addr) (ix : OutIx) (w : Int)
  | setBattery (a : Addr) (w : Int)
  | setCanopy (a : Addr) (cap : Cap)
  | window
  | answer (a : Addr) (outlet : Nat) (code : Answer) (tier remaining : Nat)
  | notice (a : Addr) (n : NodeNotice)
  deriving DecidableEq, Repr

/-- The exchange in progress (R118): the frame, the T_reply read at the exchange, and, once the frame has been sent, the ms left of
the wait for its reply. -/
structure Exchange where
  sent : Sent
  tReply : Nat
  waiting : Option Nat
  deriving DecidableEq, Repr

/-- The step of R130 that a visit stands at: its POLL, the decreases or the raises with the outlets that the step, as it was reached,
has still to send, or the notices, which follow the battery's or canopy's one frame. -/
inductive Stage where
  | polled
  | decreases (todo : List OutIx)
  | raises (todo : List OutIx)
  | notices
  deriving DecidableEq, Repr

/-- The phase of the window record (R145). -/
inductive Phase where
  | NONE | GRANT_PENDING | HELD
  deriving DecidableEq, Repr

/-- The end of a window that waits for a raw exchange to complete (R151, R152, R153). -/
inductive WindowEnd where
  | RELEASE | EXPIRY | STOP
  deriving DecidableEq, Repr

/-- A raw exchange (R148). -/
structure RawExchange where
  address : Addr
  bytes : List Byte
  tReply : Nat
  waiting : Option Nat
  deriving DecidableEq, Repr

/-- The window record (R145). -/
structure WindowRecord where
  phase : Phase
  timer : Option Nat
  raw : Option RawExchange
  frameCount : Nat
  expired : Bool
  ending : Option WindowEnd
  deriving DecidableEq, Repr

/-- The link controller's state. -/
structure Link where
  state : LinkState
  nodes : Table Node 30
  exchange : Option Exchange
  stage : Stage
  /-- Outlets already sent a SETPOINT in this visit: "at most one SETPOINT per visit" (R130). -/
  sentOutlets : List OutIx
  /-- Windows opened and REPORTs received in the present cycle (R134). -/
  windows : Nat
  reports : Nat
  /-- Windows taken and REPORTs received in the last completed cycle (R143). -/
  lastWindows : Nat
  lastReports : Nat
  cycles : Nat
  allSilent : Nat
  probe : Addr
  /-- A LINK_RESTART waits for the exchange in progress (R141). -/
  restartWaiting : Bool
  /-- A STOP waits for the exchange in progress (R142). -/
  stopWaiting : Bool
  /-- The final cycle of STOP runs (R142). -/
  finalCycle : Bool
  window : WindowRecord
  deriving DecidableEq, Repr

/-! ### Settings block (chapter 9) -/

/-- A bay map entry (R167). -/
structure MapEntry where
  valid : Bool
  node : Addr
  outlet : OutIx
  managed : Bool
  deriving DecidableEq, Repr

/-- The per-bay settings (R32). -/
structure BaySettings where
  map : MapEntry
  pMax : Nat
  pMin : Nat
  priority : Nat
  minTier : Nat
  paidContinuation : Bool
  deriving DecidableEq, Repr

/-- A reserve window (R88). -/
structure ReserveWindow where
  start : Nat
  floor : Nat
  gridCharge : Bool
  deriving DecidableEq, Repr

/-- The pass region's settings (R7): `top` is end TOP. -/
structure Region where
  size : Nat
  top : Bool
  complement : Bool
  deriving DecidableEq, Repr

/-- The lock levels that are stored (R176). -/
inductive StoredLevel where
  | OPEN | KEYED | FUSED
  deriving DecidableEq, Repr

/-- The TARIFF items but for the lock level (R167). -/
structure Tariff where
  wPv : Nat
  wBat : Nat
  boosts : Table Nat 4
  deriving DecidableEq, Repr

/-- One copy of the settings (R166, R167). -/
structure Settings where
  banks : Table Nat 8
  guardBand : Nat
  cCab : Nat
  cSafe : Nat
  decay : Nat
  tRound : Nat
  tStale : Nat
  stagger : Nat
  tPmin : Nat
  eLim : Nat
  pDisSet : Nat
  pChgSet : Nat
  hBat : Nat
  windows : Table (Option ReserveWindow) 6
  bays : Table BaySettings 24
  marginPct : Nat
  marginAbs : Nat
  tOvd : Nat
  tStart : Nat
  tHold : Nat
  lockoutCount : Nat
  wFault : Nat
  tFund : Nat
  tRes : Nat
  tReply : Nat
  tPt : Nat
  region : Region
  vLow : Nat
  vHigh : Nat
  vHys : Nat
  tariff : Tariff
  level : StoredLevel
  deriving DecidableEq, Repr

/-- The working copy with the identity values written in this setup (R166, R179). -/
structure Working where
  settings : Settings
  siteNumber : Option Nat
  serial : Option Nat
  deriving DecidableEq, Repr

/-- The settings block. The setup flag is set exactly while a working copy exists (R166). -/
structure SettingsBlock where
  stored : Settings
  working : Option Working
  /-- COMMITTING, with the ms left to the latest completion; none is commit state NONE (R168, R173). -/
  commit : Option Nat
  latch : Bool
  fuseCell : Option Tariff
  siteCell : Option Nat
  serialCell : Option Nat
  /-- A commit was in flight when power was lost: the store will fail its check (R175). -/
  storeTorn : Bool
  deriving DecidableEq, Repr

/-! ### Site port (chapter 10) -/

/-- Status codes, in the order of R185. -/
inductive Status where
  | OK | CLAMPED | GRANTED | NO_REPLY
  | BAD_FRAME | UNKNOWN_COMMAND | BAD_PARAM | NOT_RUNNING | NOT_IN_SETUP | NOT_QUIET | BUSY | INVALID | NO_TIME | FULL | DUPLICATE
  | NOT_FOUND | WRONG_STATE | BOUND | LOCKED_TARIFF | KEY_CLOSED | WRITTEN | LINK_HELD | NOT_HELD | TOO_LATE | NOT_MANAGED | SITE_BUSY
  deriving DecidableEq, Repr

/-- The eight notice sources, in the order of R186. -/
inductive Source where
  | RECEIPT | OUTLET | NODE | LINK | SUPPLY | INPUT | SETTINGS | TIME
  deriving DecidableEq, Repr

/-- The causes of notices (R186), each named with its source. -/
inductive Cause where
  | receiptBind | receiptUnbind | receiptExhausted | receiptLapse | receiptRelocated | receiptDiscarded
  | outletSessionEnd | outletFault | outletLocked | outletMeter | outletAckMismatch | outletMapMismatch
  | nodeAttached | nodeSilent | nodeReturned | nodeDuplicateKind | nodeDuplicateSerial | nodeBadIdent | nodeChainFault
  | nodeAckMismatch
  | linkDiscovered | linkDown | linkPtExpired
  | supplyOutLow | supplyOutHigh | supplyBackIn
  | inputBank | inputStopAsserted | inputStopReleased | inputKeyOpened | inputKeyClosed
  | settingsCommitted | settingsLost
  | timeSet
  deriving DecidableEq, Repr

/-- One entry of the notice set (R186): the cause and count are present while raised. -/
structure NoticeEntry where
  raised : Option (Cause × Nat)
  enabled : Bool
  deriving DecidableEq, Repr

/-- The eleven fault flags, in the order of R191. -/
inductive FaultFlag where
  | METER_IMPLAUSIBLE | OVERDRAW | START_OVERLOAD | START_TIMEOUT | MODULE | NODE_SILENT | LINK_DOWN | SUPPLY_WINDOW | SETTINGS_LOST
  | RETENTION_LOST | BAD_FRAME
  deriving DecidableEq, Repr

/-- One entry of the fault summary (R191): `time` is the site time of the latest setting with its validity. -/
structure FaultEntry where
  set : Bool
  count : Nat
  time : Option (Nat × Bool)
  deriving DecidableEq, Repr

/-- The value of a setting item as SETTING_READ returns it (R171). -/
inductive ItemValue where
  | num (n : Nat)
  | map (m : MapEntry)
  | window (w : Option ReserveWindow)
  | identity (n : Option Nat)
  | lock (inForce : Nat) (stored : StoredLevel) (working : Option StoredLevel) (latch fused : Bool)
  deriving DecidableEq, Repr

/-- The link part of NODE_READ (R143, R145). -/
structure LinkPart where
  state : LinkState
  cycles : Nat
  allSilent : Nat
  probe : Addr
  lastWindows : Nat
  lastReports : Nat
  phase : Phase
  windowTimer : Option Nat
  frameCount : Nat
  expired : Bool
  deriving DecidableEq, Repr

/-- The site-line part of NOTICE_READ (R165). -/
structure LinePart where
  gl0 : Bool
  gl1 : Bool
  gl2 : Bool
  stopAll : Bool
  keylock : Bool
  bank : Nat
  keptBank : Option Nat
  siteHold : Bool
  window : Option Side
  lastVoltage : Option Nat
  deriving DecidableEq, Repr

/-- A queue entry as POOL_READ shows it (R87): with the effective priority it would have now. -/
structure QueueView where
  entry : QueueEntry
  priorityNow : Nat
  deriving DecidableEq, Repr

/-- POOL_READ's contents (R87). -/
structure PoolView where
  roundCount : Nat
  round : Option RoundRecord
  managed : Table Bool 24
  computed : Table Nat 24
  setpoint : Int
  cap : Option Cap
  queue : List QueueView
  deriving DecidableEq, Repr

/-- A node's reading as BATTERY_READ shows it (R102). -/
structure ReadingView where
  body : StatusBody
  age : Nat
  fresh : Bool
  deriving DecidableEq, Repr

/-- BATTERY_READ's contents (R102). -/
structure StorageView where
  batteryNode : Option (Addr × NodeState)
  batteryReading : Option ReadingView
  canopyNode : Option (Addr × NodeState)
  canopyReading : Option ReadingView
  storage : Storage
  roundCount : Nat
  deriving DecidableEq, Repr

/-- OUTLET_READ's contents (R57). -/
structure OutletView where
  bay : Bay
  settings : BaySettings
  outlet : Outlet
  reading : Option OutletReading
  age : Option Nat
  deriving DecidableEq, Repr

/-- The causes of a reset (R201, R202), in the order of R203. -/
inductive ResetCause where
  | POWER_ON | RESET_LINE | RESET_COMMAND
  deriving DecidableEq, Repr

/-- The fields of a response, by the command's rule. -/
inductive Body where
  /-- A refusal's code alone, or an OK without fields. -/
  | none
  | issued (slot : SlotNo) (issueTime expiryTime : Nat)
  | amended (accepted : Nat) (state : RecordState) (remaining expiryTime tier : Nat)
  | voided (forfeited : Nat) (state : RecordState) (voidPending : Bool)
  | record (slot : SlotNo) (r : Record)
  | found (slot : Option SlotNo) (state : Option RecordState) (code : Option Nat) (counts : List Nat)
  | outlet (v : OutletView)
  | outletState (s : OutletState)
  | count (n : Nat)
  | pool (v : PoolView)
  | storage (v : StorageView)
  | node (part : LinkPart) (address : Addr) (n : Node) (age : Option Nat)
  | granted (seconds : Nat)
  | reply (bytes : List Byte)
  | lowestBay (b : Bay)
  | written (group item : Nat) (v : SettingValue)
  | item (group item : Nat) (v : ItemValue)
  | invalid (group item : Nat) (index : Option Nat)
  | committing (b : Bool)
  | level (l : Nat)
  | nodes (present ignored : Nat)
  | time (count : Nat) (valid : Bool)
  | clock (count : Nat) (valid : Bool) (minute : Option Nat) (held : Bool)
  | identity (part revision : Nat) (site serial : Option Nat) (cause : ResetCause)
  | notices (set : Table NoticeEntry 8) (attn : Bool) (lines : Option LinePart)
  | faults (set : Table FaultEntry 11)
  deriving DecidableEq, Repr

/-- A response (R183): status code, code of the command it answers, fields. -/
structure Response where
  status : Status
  command : Nat
  body : Body
  deriving DecidableEq, Repr

/-- The response buffer (R183). PENDING remembers the code of the command it belongs to. -/
inductive Buffer where
  | EMPTY
  | PENDING (command : Nat)
  | READY (r : Response)
  deriving DecidableEq, Repr

/-- The site port. -/
structure Port where
  buffer : Buffer
  notices : Table NoticeEntry 8
  /-- The ATTN output: true is active (R187). -/
  attn : Bool
  faults : Table FaultEntry 11
  deriving DecidableEq, Repr

/-! ### Run control and the site lines (chapters 8 and 11) -/

/-- A site line (R154): the level on the wire, the qualified level, and the ms left of a running qualification. -/
structure Line where
  wire : Bool
  qualified : Bool
  left : Option Nat
  deriving DecidableEq, Repr

/-- The five site lines: active is ACTIVE, ASSERTED or OPEN (R154). -/
structure Lines where
  gl0 : Line
  gl1 : Line
  gl2 : Line
  stopAll : Line
  keylock : Line
  deriving DecidableEq, Repr

/-- Run control's state. -/
structure RunControl where
  /-- true is RUNNING, false is STOPPED (R195). -/
  running : Bool
  siteTime : Nat
  timeValid : Bool
  /-- The count of a site-minute boundary reached with valid time and not yet swept (R26). -/
  sweepAt : Option Nat
  /-- The model's own: ms since the last site second, for the idle step (log 4). -/
  subSecond : Nat
  /-- The internal millisecond count (R198). -/
  ms : Nat
  /-- The retention marker (R200). -/
  marker : Bool
  /-- The outcome of the last retention check: true is HELD (R200). -/
  held : Bool
  cause : ResetCause
  /-- The main supply is in its operating range (R202, R204). -/
  supplyOn : Bool
  /-- The RESET line is driven active (R201, R204). -/
  resetHeld : Bool
  /-- VBAK is at or above 2.0 V (R200, R204). -/
  cellGood : Bool
  deriving DecidableEq, Repr

/-- All the hardware: the blocks of the manual's block overview (00). -/
structure Controller where
  credit : CreditTable
  outlets : OutletTable
  pool : Pool
  storage : Storage
  link : Link
  settings : SettingsBlock
  port : Port
  lines : Lines
  run : RunControl
  deriving DecidableEq, Repr

/-- The machine: the hardware, and the commands that wait for it, first in, first out. -/
structure State where
  ctl : Controller
  pending : List Instr
  deriving DecidableEq, Repr

/-! ### Factory and reset values -/

/-- The empty pause-reason set. -/
def Reasons.empty : Reasons := { budget := false, site := false, supply := false, customer := false, funding := false }

/-- The factory map entry (R167). -/
def MapEntry.factory : MapEntry := { valid := false, node := 0, outlet := 0, managed := false }

/-- The factory per-bay settings (R32, R167). -/
def BaySettings.factory : BaySettings :=
  { map := .factory, pMax := 7360, pMin := 1380, priority := 16, minTier := 0, paidContinuation := false }

/-- The factory region (R167). -/
def Region.factory : Region := { size := 0, top := false, complement := false }

/-- The factory tariff: weights 16 and 16 (R109), boosts 0, 2, 4, 6 (R65). -/
def Tariff.factory : Tariff := { wPv := 16, wBat := 16, boosts := ⟨[0, 2, 4, 6], rfl⟩ }

/-- The factory settings (R32, R65, R88, R118, R145, R162, R167). -/
def Settings.factory : Settings :=
  { banks := Table.replicate 8 0, guardBand := 3000, cCab := 66000, cSafe := 11000, decay := 1000, tRound := 2, tStale := 6,
    stagger := 2, tPmin := 30, eLim := 0, pDisSet := 50000, pChgSet := 50000, hBat := 2000, windows := Table.replicate 6 none,
    bays := Table.replicate 24 .factory, marginPct := 5, marginAbs := 200, tOvd := 5, tStart := 30, tHold := 30, lockoutCount := 3,
    wFault := 600, tFund := 120, tRes := 60, tReply := 25, tPt := 5, region := .factory, vLow := 1950, vHigh := 2530, vHys := 40,
    tariff := .factory, level := .OPEN }

/-- An outlet entry right after a reset, before its map is looked at: UNMAPPED, changed set (R63). The last-session summary and the
lifetime energy are absent and 0, as a power-on reset with retention lost leaves them. -/
def Outlet.blank : Outlet :=
  { state := .UNMAPPED, offlineCause := none, beforeSilence := none, reasons := .empty, session := none, summary := none,
    inForce := 0, pending := none, raiseReleased := false, overdraw := none, startTimer := none, fundingWait := none,
    holdOff := none, pauseMinimum := none, silenceHold := none, faultList := [], lastFault := none, baseline := none,
    unattributed := 0, lifetime := 0, changed := true }

/-- The pool after a reset (R86, R165). -/
def Pool.initial : Pool :=
  { roundTimer := none, sPrev := 0, firstRound := true, queue := [], computed := Table.replicate 24 0, lastRound := none,
    roundCount := 0, keptBank := none, draws := [] }

/-- The battery and canopy state after a reset (R103). -/
def Storage.initial : Storage :=
  { windowStart := none, floor := 0, gridCharge := false, allowed := false, lastClear := none, bOff := 0, pNeed := none,
    battery := { computed := 0, acked := none, pending := none },
    canopy := { computed := none, acked := none, pending := none }, netImport := none }

/-- The window record after a reset (R145). -/
def WindowRecord.initial : WindowRecord :=
  { phase := .NONE, timer := none, raw := none, frameCount := 0, expired := false, ending := none }

/-- The link controller after a reset (R144). -/
def Link.initial : Link :=
  { state := .IDLE, nodes := Table.replicate 30 .absent, exchange := none, stage := .polled, sentOutlets := [], windows := 0,
    reports := 0, lastWindows := 0, lastReports := 0, cycles := 0, allSilent := 0, probe := 0, restartWaiting := false,
    stopWaiting := false, finalCycle := false, window := .initial }

/-- The notice set after a reset: "no source raised; all eight enabled" (R194). -/
def noticesInitial : Table NoticeEntry 8 := Table.replicate 8 { raised := none, enabled := true }

/-- A cleared fault entry (R193). -/
def FaultEntry.clear : FaultEntry := { set := false, count := 0, time := none }

/-- A line with nothing on the wire, at its qualified level after a reset (R154, R204: "unconnected"). -/
def Line.idle : Line := { wire := false, qualified := false, left := none }

/-- The index of RETENTION_LOST among the fault flags (R191). -/
def retentionLostIx : Fin 11 := 9

/-- A new part right after its first power-on reset (R202): retention lost, the store passing with the factory settings, the lines
unconnected, the backup cell good (log 5). -/
def Controller.reset : Controller :=
  { credit := { slots := Table.replicate 1024 .free }
    outlets := { entries := Table.replicate 24 .blank, siteHold := false, window := none, lastVoltage := none }
    pool := .initial
    storage := .initial
    link := .initial
    settings := { stored := .factory, working := none, commit := none, latch := false, fuseCell := none, siteCell := none,
                  serialCell := none, storeTorn := false }
    port := { buffer := .EMPTY, notices := noticesInitial, attn := false
              faults := (Table.replicate 11 .clear).set retentionLostIx { set := true, count := 1, time := some (0, false) } }
    lines := { gl0 := .idle, gl1 := .idle, gl2 := .idle, stopAll := .idle, keylock := .idle }
    run := { running := false, siteTime := 0, timeValid := false, sweepAt := none, subSecond := 0, ms := 0, marker := true,
             held := false, cause := .POWER_ON, supplyOn := true, resetHeld := false, cellGood := true } }

/-- The machine right after reset, with nothing waiting. -/
def State.reset : State := { ctl := .reset, pending := [] }

end Sys2Proof.Machine
end

