-- ==== Sys2Proof/Machine/Flags.lean ====
section
/-! DEFINITION. The flags that every block posts to: the notice set with ATTN (R186, R187), the fault summary (R191), and the response buffer (R183). -/

namespace Sys2Proof.Machine

/-- The place of a source in the notice set, in the order of R186. -/
def Source.ix : Source → Fin 8
  | .RECEIPT => 0
  | .OUTLET => 1
  | .NODE => 2
  | .LINK => 3
  | .SUPPLY => 4
  | .INPUT => 5
  | .SETTINGS => 6
  | .TIME => 7

/-- The source of a cause (R186). -/
def Cause.source : Cause → Source
  | .receiptBind | .receiptUnbind | .receiptExhausted | .receiptLapse | .receiptRelocated | .receiptDiscarded => .RECEIPT
  | .outletSessionEnd | .outletFault | .outletLocked | .outletMeter | .outletAckMismatch | .outletMapMismatch => .OUTLET
  | .nodeAttached | .nodeSilent | .nodeReturned | .nodeDuplicateKind | .nodeDuplicateSerial | .nodeBadIdent | .nodeChainFault
  | .nodeAckMismatch => .NODE
  | .linkDiscovered | .linkDown | .linkPtExpired => .LINK
  | .supplyOutLow | .supplyOutHigh | .supplyBackIn => .SUPPLY
  | .inputBank | .inputStopAsserted | .inputStopReleased | .inputKeyOpened | .inputKeyClosed => .INPUT
  | .settingsCommitted | .settingsLost => .SETTINGS
  | .timeSet => .TIME

/-- ATTN is active "while at least one source is both raised and enabled" (R187). -/
def attnOf (notices : Table NoticeEntry 8) : Bool :=
  notices.data.any fun e => e.raised.isSome && e.enabled

/-- A raising of one entry: the cause takes the old one's place, the count rises to at most 255 (R186). -/
def NoticeEntry.raise (cause : Cause) (e : NoticeEntry) : NoticeEntry :=
  { e with raised := some (cause, match e.raised with
                                  | none => 1
                                  | some (_, n) => satAdd 255 n 1) }

/-- The notice set replaced, with ATTN judged at the same event (R187). -/
def Port.putNotices (notices : Table NoticeEntry 8) (p : Port) : Port :=
  { p with notices := notices, attn := attnOf notices }

/-- A block raises a source with a cause (R186). -/
def Port.raise (cause : Cause) (p : Port) : Port :=
  p.putNotices (p.notices.set cause.source.ix ((p.notices.get cause.source.ix).raise cause))

/-- The place of a flag in the fault summary, in the order of R191. -/
def FaultFlag.ix : FaultFlag → Fin 11
  | .METER_IMPLAUSIBLE => 0
  | .OVERDRAW => 1
  | .START_OVERLOAD => 2
  | .START_TIMEOUT => 3
  | .MODULE => 4
  | .NODE_SILENT => 5
  | .LINK_DOWN => 6
  | .SUPPLY_WINDOW => 7
  | .SETTINGS_LOST => 8
  | .RETENTION_LOST => 9
  | .BAD_FRAME => 10

/-- The fault flag of the same name as an outlet fault's cause (R48). -/
def FaultCause.flag : FaultCause → FaultFlag
  | .MODULE => .MODULE
  | .START_TIMEOUT => .START_TIMEOUT
  | .START_OVERLOAD => .START_OVERLOAD
  | .OVERDRAW => .OVERDRAW

/-- A setting of one flag: "the flag becomes set, the count rises by one, and the site time and its validity are recorded" (R191). -/
def FaultEntry.mark (time : Nat) (valid : Bool) (e : FaultEntry) : FaultEntry :=
  { set := true, count := satAdd u16Max e.count 1, time := some (time, valid) }

/-- A fault flag is set at its event (R191). -/
def Port.setFault (flag : FaultFlag) (time : Nat) (valid : Bool) (p : Port) : Port :=
  { p with faults := p.faults.set flag.ix ((p.faults.get flag.ix).mark time valid) }

/-- A command taken "puts the buffer in PENDING at its taking" and discards what the buffer held (R183). -/
def Port.take (command : Nat) (p : Port) : Port := { p with buffer := .PENDING command }

/-- The owner makes the response of the command just taken (R183). -/
def Port.answer (command : Nat) (status : Status) (body : Body) (p : Port) : Port :=
  { p with buffer := .READY { status := status, command := command, body := body } }

/-- A response that waited on work is made: it goes into the buffer only while the buffer still belongs to its command; the response
of a superseded command "is discarded when the owner makes it" (R184). -/
def Port.answerLate (command : Nat) (status : Status) (body : Body) (p : Port) : Port :=
  if p.buffer = .PENDING command then p.answer command status body else p

/-- NOTICE_CLEAR: each named source loses its raised flag, its cause and its count (R189). -/
def Port.clearNotices (sources : Byte) (p : Port) : Port :=
  p.putNotices (Table.ofFn fun i => if sources.getLsbD i.val then { p.notices.get i with raised := none } else p.notices.get i)

/-- NOTICE_ENABLE: the named sources become enabled, every other disabled (R190). -/
def Port.enableNotices (sources : Byte) (p : Port) : Port :=
  p.putNotices (Table.ofFn fun i => { p.notices.get i with enabled := sources.getLsbD i.val })

/-- FAULTS_CLEAR: "each named flag is cleared, its count becomes 0, and its time is removed" (R193). -/
def Port.clearFaults (flags : BitVec 16) (p : Port) : Port :=
  { p with faults := Table.ofFn fun i => if flags.getLsbD i.val then .clear else p.faults.get i }

end Sys2Proof.Machine
end

