-- ==== Sys2Proof/Machine/Ops.lean ====
section
/-! DEFINITION. The operations that the meanings share: access to the tables, the credit table's unbind, the admission queue, targets and their release, pause reasons, session opening and end, funding withdrawal, faults of outlets. -/

namespace Sys2Proof.Machine

/-! ### When the controller takes events -/

/-- With the main supply off or the RESET line held the controller "takes no events" (R201, R202). -/
def Controller.taking (c : Controller) : Bool := c.run.supplyOn && !c.run.resetHeld

/-- The outcome of a change of the hardware: always a next state, the queue untouched. -/
def onController (f : Controller → Controller) (s : State) : Host.Outcome State Fault Refusal :=
  .next { s with ctl := f s.ctl }

/-- A change made only while the controller takes events (log 8). -/
def whenTaking (f : Controller → Controller) (c : Controller) : Controller := if c.taking then f c else c

/-- An event of the part. -/
def event (f : Controller → Controller) (s : State) : Host.Outcome State Fault Refusal := onController (whenTaking f) s

/-! ### The site port, seen from the blocks -/

/-- A block raises a notice (R186). -/
def Controller.raise (cause : Cause) (c : Controller) : Controller := { c with port := c.port.raise cause }

/-- A block sets a fault flag; the site port reads site time and its validity at the event (R191, R198). -/
def Controller.setFault (flag : FaultFlag) (c : Controller) : Controller :=
  { c with port := c.port.setFault flag c.run.siteTime c.run.timeValid }

/-- The response of the command just taken. -/
def Controller.answer (command : Nat) (status : Status) (body : Body) (c : Controller) : Controller :=
  { c with port := c.port.answer command status body }

/-- A response that waited (R184). -/
def Controller.answerLate (command : Nat) (status : Status) (body : Body) (c : Controller) : Controller :=
  { c with port := c.port.answerLate command status body }

/-- A site port command is taken, and its owner works with the buffer PENDING (R183). -/
def command (code : Nat) (f : Controller → Controller) (s : State) : Host.Outcome State Fault Refusal :=
  event (fun c => f { c with port := c.port.take code }) s

/-- A refusal's response "carries its code alone" (R185). -/
def Controller.refuse (command : Nat) (status : Status) (c : Controller) : Controller := c.answer command status .none

/-- A command carried out: OK with the fields of its rule (R185). -/
def Controller.ok (command : Nat) (body : Body) (c : Controller) : Controller := c.answer command .OK body

/-! ### Access to the tables -/

/-- An outlet's entry. -/
def Controller.outlet (c : Controller) (b : Bay) : Outlet := c.outlets.entries.get b

/-- Whether an outlet's changed flag is set by a change: "at each change of its state, offline cause or pause-reason set, at each
session opening and end, at each fault, and at each change of its funding kind" (R62). A fault changes the state. -/
def Outlet.moved (old new : Outlet) : Bool :=
  old.state != new.state || old.offlineCause != new.offlineCause || old.reasons != new.reasons
    || (old.session.map (·.kind)) != (new.session.map (·.kind))

/-- One entry changed, its changed flag set where R62 says so. -/
def Outlet.change (f : Outlet → Outlet) (o : Outlet) : Outlet := { f o with changed := (f o).changed || o.moved (f o) }

/-- An outlet's entry is changed. -/
def Controller.updOutlet (b : Bay) (f : Outlet → Outlet) (c : Controller) : Controller :=
  { c with outlets := { c.outlets with entries := c.outlets.entries.set b ((c.outlet b).change f) } }

/-- A record. -/
def Controller.record (c : Controller) (k : SlotNo) : Record := c.credit.slots.get k

/-- A record is changed. -/
def Controller.updRecord (k : SlotNo) (f : Record → Record) (c : Controller) : Controller :=
  { c with credit := { c.credit with slots := c.credit.slots.set k (f (c.record k)) } }

/-- A node table entry. -/
def Controller.node (c : Controller) (a : Addr) : Node := c.link.nodes.get a

/-- A node table entry is changed. -/
def Controller.updNode (a : Addr) (f : Node → Node) (c : Controller) : Controller :=
  { c with link := { c.link with nodes := c.link.nodes.set a (f (c.node a)) } }

/-- The settings in force are the stored copy (R166). -/
def Controller.inForce (c : Controller) : Settings := c.settings.stored

/-- A bay's settings in force (R32). -/
def Controller.bay (c : Controller) (b : Bay) : BaySettings := c.inForce.bays.get b

/-- The setup flag is set exactly while the working copy exists (R166, R168). -/
def SettingsBlock.setupFlag (s : SettingsBlock) : Bool := s.working.isSome

/-- A managed outlet: its map entry is valid and has the managed flag set (R31). -/
def Controller.managed (c : Controller) (b : Bay) : Bool := (c.bay b).map.valid && (c.bay b).map.managed

/-- The bay whose valid map entry names a node address and an outlet index (R31). -/
def Controller.bayAt (c : Controller) (a : Addr) (ix : OutIx) : Option Bay :=
  c.inForce.bays.lowest fun _ s => s.map.valid && s.map.node == a && s.map.outlet == ix

/-- The kind of a kind code (R206). -/
def kindOfCode : Nat → Option NodeKind
  | 0 => some .PEDESTAL
  | 1 => some .CANOPY
  | 2 => some .BATTERY
  | 3 => some .SUPPLY_METER
  | _ => none

/-- The kind of a node, from its identity. -/
def Node.kind (n : Node) : Option NodeKind := n.identity.bind fun i => kindOfCode i.kindCode

/-- A node's outlet count: a pedestal's declared count, and no outlets for any other kind (R120). -/
def Node.outlets (n : Node) : Nat :=
  match n.identity with
  | some i => if kindOfCode i.kindCode = some .PEDESTAL then i.outletCount else 0
  | none => 0

/-- A node that is PRESENT or SILENT. -/
def Node.known (n : Node) : Bool := n.state == .PRESENT || n.state == .SILENT

/-- The latest reading of a pedestal's outlet (R30). -/
def Node.outletReading (n : Node) (ix : OutIx) : Option OutletReading :=
  match n.readings with
  | some arr => match arr.body with
    | .pedestal es => es[ix.val]?
    | _ => none
  | none => none

/-- The latest reading of a bay's outlet. -/
def Controller.reading (c : Controller) (b : Bay) : Option OutletReading :=
  if (c.bay b).map.valid then (c.node (c.bay b).map.node).outletReading (c.bay b).map.outlet else none

/-- PLUGGED or IDLE "according to the plug state of its latest reading" (R49, R58, R60). -/
def Controller.plugState (c : Controller) (b : Bay) : OutletState :=
  if ((c.reading b).map (·.plugged)).getD false then .PLUGGED else .IDLE

/-- A change made to every bay in ascending order. -/
def forBays (f : Bay → Controller → Controller) (c : Controller) : Controller :=
  (List.finRange 24).foldl (fun c b => f b c) c

/-- The bays, ascending, that satisfy a test. -/
def baysWhere (p : Bay → Bool) : List Bay := (List.finRange 24).filter p

/-! ### The credit table -/

/-- The per-state counts: the number of slots in a state (R5). -/
def CreditTable.count (t : CreditTable) (s : RecordState) : Nat := t.slots.data.countP fun r => r.state == s

/-- The six counts in the order of R1. -/
def CreditTable.counts (t : CreditTable) : List Nat :=
  [t.count .FREE, t.count .LIVE, t.count .BOUND, t.count .SPENT, t.count .LAPSED, t.count .VOIDED]

/-- The code index: the slot of the non-FREE record holding a code; no record holds code 0 (R6). -/
def CreditTable.findCode (t : CreditTable) (code : Nat) : Option SlotNo :=
  if code = 0 then none else t.slots.lowest fun _ r => r.state != .FREE && r.code == code

/-- Whether a slot lies in the pass region (R7). -/
def Region.pass (r : Region) (slot : Nat) : Bool :=
  (if r.top then decide (1024 - r.size ≤ slot) else decide (slot < r.size)) != r.complement

/-- Whether a slot lies on a kind's side of the region: passes inside it, receipts outside (R8). -/
def Region.side (r : Region) (kind : RecordKind) (slot : Nat) : Bool := r.pass slot == (kind == .PASS)

/-- The slot a new record takes: the lowest FREE slot on its side, under the region being committed too while a commit is in
flight (R8). -/
def Controller.placement (c : Controller) (kind : RecordKind) : Option SlotNo :=
  c.credit.slots.lowest fun k r => r.state == .FREE && c.inForce.region.side kind k
    && (match c.settings.commit, c.settings.working with
        | some _, some w => w.settings.region.side kind k
        | _, _ => true)

/-- A record whose expiry time has passed at a count of site time (R19, R22, R26). -/
def Record.expiredAt (r : Record) (now : Nat) : Bool := decide (r.expiryTime ≤ now)

/-- What an unbind leaves of a record beside its state: bound bay, binding energy and void_pending gone, the last unbind time set when
site time is valid, the interrupted flag set at a reset, the changed flag set (R21). -/
def Record.release (valid : Bool) (now : Nat) (atReset : Bool) (r : Record) : Record :=
  { r with boundBay := none, bindingEnergy := none, voidPending := false, changed := true
           statement := { r.statement with lastUnbind := if valid then some now else r.statement.lastUnbind
                                           interrupted := r.statement.interrupted || atReset } }

/-- The unbind order: the new state is the first of the five that applies (R22). -/
def Record.unbind (valid : Bool) (now : Nat) (atReset : Bool) (r : Record) : Record :=
  let r' := r.release valid now atReset
  if r.voidPending then { r' with state := .VOIDED }
  else if r.remaining = 0 then { r' with state := .SPENT, spendReason := some .CREDIT_ZERO }
  else if r.singleUse && decide (0 < r.bindingEnergy.getD 0) then
    { r' with state := .SPENT, spendReason := some .SINGLE_USE, remaining := 0, forfeited := r.forfeited + r.remaining }
  else if valid && r.expiredAt now then { r' with state := .LAPSED }
  else { r' with state := .LIVE }

/-- A session without its bound slot, if the slot is the one named. -/
def Session.dropSlot (k : SlotNo) (ss : Session) : Session := if ss.boundSlot = some k then { ss with boundSlot := none } else ss

/-- An unbind: the record and the session of its bay change together, at one event (R20, R21). -/
def Controller.unbind (k : SlotNo) (atReset : Bool) (cause : Cause) (c : Controller) : Controller :=
  if (c.record k).state = .BOUND then
    let c' := match (c.record k).boundBay with
      | some b => c.updOutlet b fun o => { o with session := o.session.map (Session.dropSlot k) }
      | none => c
    (c'.updRecord k (Record.unbind c.run.timeValid c.run.siteTime atReset)).raise cause
  else c

/-- A LIVE record lapses (R19, R26): state and changed flag; the notice is the caller's. -/
def Record.lapse (r : Record) : Record := { r with state := .LAPSED, changed := true }

/-! ### Computed allocations and the admission queue -/

/-- A bay's computed allocation is set to 0 W: a departure (R83). -/
def Controller.depart (b : Bay) (c : Controller) : Controller :=
  { c with pool := { c.pool with computed := c.pool.computed.set b 0 } }

/-- The boost of a tier (R65). -/
def Settings.boost (s : Settings) (tier : Nat) : Nat := if h : tier < 4 then s.tariff.boosts.get ⟨tier, h⟩ else 0

/-- The effective priority of a session at a bay (R72). -/
def Controller.priorityOf (c : Controller) (b : Bay) (ss : Session) : Nat :=
  let base := (c.bay b).priority
  match ss.kind with
  | .SERVICE => 0
  | .PAID => base - c.inForce.boost 0
  | .CREDIT => match ss.boundSlot with
    | some k => base - c.inForce.boost (c.record k).tier
    | none => base - c.inForce.boost 0

/-- The effective priority of the session that a bay holds. -/
def Controller.priority (c : Controller) (b : Bay) : Nat :=
  match (c.outlet b).session with
  | some ss => c.priorityOf b ss
  | none => (c.bay b).priority

/-- A new entry stands "before the first entry whose entry priority is above its own" (R74). -/
def queueInsert (e : QueueEntry) : List QueueEntry → List QueueEntry
  | [] => [e]
  | x :: xs => if e.priority < x.priority then e :: x :: xs else x :: queueInsert e xs

/-- A bay's entry set ACTIVE or WITHDRAWN in its place (R75). -/
def queueSet (b : Bay) (active : Bool) (q : List QueueEntry) : List QueueEntry :=
  q.map fun e => if e.bay = b then { e with active := active } else e

/-- The queue replaced. -/
def Controller.putQueue (q : List QueueEntry) (c : Controller) : Controller := { c with pool := { c.pool with queue := q } }

/-- The bay's entry, or its return: an entry that stands is set ACTIVE, a missing one joins by R74 (R74, R75). -/
def Controller.enqueue (b : Bay) (c : Controller) : Controller :=
  if c.pool.queue.any fun e => e.bay == b then c.putQueue (queueSet b true c.pool.queue)
  else c.putQueue (queueInsert { bay := b, priority := c.priority b, active := true } c.pool.queue)

/-- The bay's withdrawal, its place kept (R75). -/
def Controller.withdraw (b : Bay) (c : Controller) : Controller := c.putQueue (queueSet b false c.pool.queue)

/-- The bay's removal (R76). -/
def Controller.dequeue (b : Bay) (c : Controller) : Controller := c.putQueue (c.pool.queue.filter fun e => e.bay != b)

/-! ### Targets and their release (section 2.10) -/

/-- A target marked against the in-force allocation: below it a DECREASE, above it a RAISE, equal to it nothing (R53). -/
def pendingFor (inForce : Int) (target : Nat) : Option PendingTarget :=
  if (target : Int) < inForce then some { kind := .DECREASE, target := target }
  else if inForce < (target : Int) then some { kind := .RAISE, target := target }
  else none

/-- A new target replaces the old one and clears the raise released flag (R53). -/
def Outlet.mark (target : Nat) (o : Outlet) : Outlet :=
  { o with pending := pendingFor o.inForce target, raiseReleased := false }

/-- A new target reaches an outlet; an OFFLINE or UNMAPPED one takes none (R33, R53). -/
def Controller.markTarget (b : Bay) (target : Nat) (c : Controller) : Controller :=
  if (c.outlet b).state = .OFFLINE ∨ (c.outlet b).state = .UNMAPPED then c else c.updOutlet b (Outlet.mark target)

/-- Whether an outlet holds a pending DECREASE. -/
def Outlet.decreasing (o : Outlet) : Bool := (o.pending.map (·.kind)) == some .DECREASE

/-- A pending RAISE has its raise released flag set (R54). -/
def Outlet.releaseRaise (o : Outlet) : Outlet :=
  if (o.pending.map (·.kind)) = some .RAISE then { o with raiseReleased := true } else o

/-- "Pending raises are released whenever no outlet holds a pending DECREASE" (R54). -/
def Controller.judgeRelease (c : Controller) : Controller :=
  if c.outlets.entries.data.any Outlet.decreasing then c
  else { c with outlets := { c.outlets with entries := c.outlets.entries.map Outlet.releaseRaise } }

/-! ### Timers -/

/-- A timer runs while nothing freezes it. -/
def Timer.running (t : Timer) : Bool := !t.frozenBySilence && !t.frozenByWindow

/-- A timer started to run for so many ms. -/
def Timer.start (ms : Nat) : Timer := { left := ms, frozenBySilence := false, frozenByWindow := false }

/-- Whether an optional timer is present and runs. -/
def timerRuns (t : Option Timer) : Bool := (t.map Timer.running).getD false

/-- The timers that an outlet going silent freezes: every timer but the silence hold (R50). -/
def Outlet.freezeSilent (frozen : Bool) (o : Outlet) : Outlet :=
  let f := fun (t : Timer) => { t with frozenBySilence := frozen }
  { o with overdraw := o.overdraw.map f, startTimer := o.startTimer.map f, fundingWait := o.fundingWait.map f
           holdOff := o.holdOff.map f, pauseMinimum := o.pauseMinimum.map f }

/-- The timers that a pass-through window freezes and resumes: start and overdraw (R52). -/
def Outlet.freezeWindow (frozen : Bool) (o : Outlet) : Outlet :=
  let f := fun (t : Timer) => { t with frozenByWindow := frozen }
  { o with overdraw := o.overdraw.map f, startTimer := o.startTimer.map f }

/-- Every timer cleared. -/
def Outlet.noTimers (o : Outlet) : Outlet :=
  { o with overdraw := none, startTimer := none, fundingWait := none, holdOff := none, pauseMinimum := none, silenceHold := none }

/-! ### Outlet states -/

/-- The four session states (R33). -/
def OutletState.inSession : OutletState → Bool
  | .QUEUED | .STARTING | .CHARGING | .PAUSED => true
  | _ => false

/-- The state that a rule acts on: for an OFFLINE outlet its state before silence (R43, R56). -/
def Outlet.acting (o : Outlet) : OutletState := if o.state = .OFFLINE then o.beforeSilence.getD .OFFLINE else o.state

/-- The state that a rule gives: an OFFLINE outlet takes it as its state before silence (R39, R43). -/
def Outlet.put (st : OutletState) (o : Outlet) : Outlet :=
  if o.state = .OFFLINE then { o with beforeSilence := some st } else { o with state := st }

/-- The states at whose entry the overdraw timer is kept (R47). -/
def OutletState.keepsOverdraw : OutletState → Bool
  | .CHARGING | .PAUSED | .ENDING => true
  | _ => false

/-- The states at whose entry no target of 0 W is delivered (R33): STARTING and CHARGING, OFFLINE and UNMAPPED, and METER_ONLY, which
is no managed outlet (R31). -/
def OutletState.takesNoZero : OutletState → Bool
  | .STARTING | .CHARGING | .OFFLINE | .UNMAPPED | .METER_ONLY => true
  | _ => false

/-- An outlet without a session enters a state: the overdraw timer by R47, the target of 0 W by R33. -/
def Controller.enter (b : Bay) (st : OutletState) (c : Controller) : Controller :=
  let c' := c.updOutlet b fun o => { o with state := st, overdraw := if st.keepsOverdraw then o.overdraw else none }
  if st.takesNoZero then c' else (c'.markTarget b 0).judgeRelease

/-! ### Notices to nodes -/

/-- A NOTICE_TO_NODE for a bay's outlet is appended to its pedestal's list; an equal entry is not appended again (R132). -/
def Controller.tellNode (b : Bay) (kind : NodeNoticeKind) (c : Controller) : Controller :=
  let m := (c.bay b).map
  let n := c.node m.node
  let e : NodeNotice := { outlet := m.outlet, kind := kind }
  if m.valid && n.known && n.kind == some .PEDESTAL && !(n.notices.contains e) then
    c.updNode m.node fun n => { n with notices := n.notices ++ [e] }
  else c

/-- At a session's opening every entry for the bay's outlet is removed (R132). -/
def Controller.dropNotices (b : Bay) (c : Controller) : Controller :=
  let m := (c.bay b).map
  if m.valid then c.updNode m.node fun n => { n with notices := n.notices.filter fun e => e.outlet != m.outlet } else c

/-! ### Pause reasons (section 2.6) -/

/-- Whether a set holds a reason. -/
def Reasons.has (r : PauseReason) (rs : Reasons) : Bool :=
  match r with
  | .BUDGET => rs.budget
  | .SITE => rs.site
  | .SUPPLY => rs.supply
  | .CUSTOMER => rs.customer
  | .FUNDING => rs.funding

/-- A set with a reason put in or taken out. -/
def Reasons.put (r : PauseReason) (v : Bool) (rs : Reasons) : Reasons :=
  match r with
  | .BUDGET => { rs with budget := v }
  | .SITE => { rs with site := v }
  | .SUPPLY => { rs with supply := v }
  | .CUSTOMER => { rs with customer := v }
  | .FUNDING => { rs with funding := v }

/-- A set with BUDGET alone. -/
def Reasons.budgetAlone : Reasons := { Reasons.empty with budget := true }

/-- A reason is added to the set of a session-holding outlet (R43). -/
def Controller.addReason (b : Bay) (r : PauseReason) (c : Controller) : Controller :=
  let o := c.outlet b
  if o.session.isNone || o.reasons.has r then c
  else match o.acting with
    | .QUEUED =>
      (((c.updOutlet b fun o => { o.put .PAUSED with reasons := o.reasons.put r true }).withdraw b).markTarget b 0).judgeRelease
    | .STARTING | .CHARGING =>
      (((c.updOutlet b fun o => { o.put .PAUSED with reasons := o.reasons.put r true, startTimer := none }).depart b).markTarget
        b 0).judgeRelease
    | .PAUSED => c.updOutlet b fun o => { o with reasons := o.reasons.put r true }
    | _ => c

/-- A reason is removed from a PAUSED outlet's set (R44). The return to QUEUED clears the overdraw timer (R47). A held session's queue
entry stays WITHDRAWN until its return (R43). -/
def Controller.removeReason (b : Bay) (r : PauseReason) (c : Controller) : Controller :=
  let o := c.outlet b
  let left := o.reasons.put r false
  if !o.reasons.has r then c
  else if left != .empty || o.acting != .PAUSED then c.updOutlet b fun o => { o with reasons := left }
  else if ((o.session.map (·.admitted)).getD false) then
    c.updOutlet b fun o => { o with reasons := .budgetAlone, pauseMinimum := none }
  else
    let c' := c.updOutlet b fun o => { o.put .QUEUED with reasons := left, overdraw := none }
    if o.state = .OFFLINE then c' else ((c'.enqueue b).markTarget b 0).judgeRelease

/-! ### Session end (R39) -/

/-- The tail of a session: unattributed energy, limited to what the session can still hold (R104, R114). -/
def tailOf (unattributed : Nat) (ss : Session) : Nat := min unattributed (u32Max - ss.energy)

/-- The tail is closed out as grid energy, unfunded for CREDIT and paid for PAID and SERVICE (R39, step 1). -/
def Session.closeTail (e : Nat) (ss : Session) : Session :=
  let ss' := { ss with grid := satAdd u32Max ss.grid e, energy := satAdd u32Max ss.energy e }
  match ss.kind with
  | .CREDIT => { ss' with unfunded := satAdd u32Max ss.unfunded e }
  | .PAID | .SERVICE => { ss' with paidEnergy := satAdd u32Max ss.paidEnergy e }

/-- Step 1 of R39 on the outlet. -/
def Outlet.closeTail (o : Outlet) : Outlet :=
  { o with session := o.session.map fun ss => ss.closeTail (tailOf o.unattributed ss), unattributed := 0 }

/-- The end reasons at which the session's interrupted flag is set (R36). -/
def EndReason.interrupts : EndReason → Bool
  | .LINK_LOSS | .LINK_DOWN | .RESET => true
  | _ => false

/-- The end reasons at which no SESSION_ENDED is handed to the node (R39, step 7). -/
def EndReason.untold : EndReason → Bool
  | .UNPLUGGED | .LINK_LOSS | .LINK_DOWN | .RESET => true
  | _ => false

/-- Steps 3 and 4 of R39 and the state of R40. -/
def Outlet.conclude (reason : EndReason) (now : Nat) (next : OutletState) (o : Outlet) : Outlet :=
  { o.put next with
    summary := match o.session with
      | some ss => some { session := { ss with interrupted := ss.interrupted || reason.interrupts }, reason := reason, endTime := now }
      | none => o.summary
    session := none
    reasons := .empty
    startTimer := none
    fundingWait := none
    pauseMinimum := none
    silenceHold := none
    overdraw := if next = .ENDING then o.overdraw else none }

/-- A session ends (R39). An outlet without a session is left as it is. -/
def Controller.endSession (b : Bay) (reason : EndReason) (next : OutletState) (c : Controller) : Controller :=
  match (c.outlet b).session with
  | none => c
  | some ss =>
    let c1 := c.updOutlet b Outlet.closeTail
    let c2 := match ss.boundSlot with
      | some k => c1.unbind k (reason == EndReason.RESET) .receiptUnbind
      | none => c1
    let c3 := c2.updOutlet b (Outlet.conclude reason c.run.siteTime next)
    let c4 := ((c3.dequeue b).depart b).markTarget b 0
    let c5 := if reason.untold then c4 else c4.tellNode b .SESSION_ENDED
    (c5.raise .outletSessionEnd).judgeRelease

/-- The state after a COMMAND or STOP_INPUT end: ENDING if admitted, otherwise PLUGGED (R40). -/
def Outlet.endingOrPlugged (o : Outlet) : OutletState :=
  if ((o.session.map (·.admitted)).getD false) then .ENDING else .PLUGGED

/-! ### Session opening (R37) -/

/-- A new session record (R37). -/
def Session.opened (kind : FundingKind) (slot : Option SlotNo) (cap now : Nat) : Session :=
  { kind := kind, boundSlot := slot, cap := cap, paidEnergy := 0, energy := 0, solar := 0, battery := 0, grid := 0, creditFunded := 0,
    unfunded := 0, uncovered := 0, queuedTime := now, startTime := none, admitted := false, interrupted := false }

/-- The standing reasons at an opening (R37). -/
def Controller.standing (b : Bay) (c : Controller) : Reasons :=
  { budget := false, site := c.outlets.siteHold, supply := c.outlets.window.isSome
    customer := ((c.reading b).map (·.customerPause)).getD false, funding := false }

/-- A session opens: QUEUED with a queue entry, or PAUSED with the standing reasons (R37). -/
def Controller.openSession (b : Bay) (kind : FundingKind) (slot : Option SlotNo) (cap : Nat) (c : Controller) : Controller :=
  let rs := c.standing b
  let c1 := (c.updOutlet b fun o =>
    { o with session := some (Session.opened kind slot cap c.run.siteTime), state := if rs = .empty then .QUEUED else .PAUSED
             reasons := rs }).dropNotices b
  let c2 := if rs = .empty then c1.enqueue b else c1
  (c2.markTarget b 0).judgeRelease

/-! ### Funding withdrawal (R45) -/

/-- A funding withdrawal for a bay whose session is CREDIT funded; the caller has matched the slot (R45, R112). -/
def Controller.withdrawFunding (b : Bay) (c : Controller) : Controller :=
  let c1 := c.tellNode b .FUNDING_ENDED
  if (c.bay b).paidContinuation then
    (c1.addReason b .FUNDING).updOutlet b fun o =>
      { o with fundingWait := some { Timer.start (c.inForce.tFund * 1000) with frozenBySilence := o.state == .OFFLINE } }
  else c1.endSession b .FUNDING_ENDED .ENDING

/-! ### Outlet faults (R48) -/

/-- Entries older than W_fault removed, now appended (R48, step 6). -/
def faultListAfter (now wFault : Nat) (l : List Nat) : List Nat := (l.filter fun t => decide (now - t ≤ wFault)) ++ [now]

/-- An outlet enters FAULT and leaves it within the event, for HOLDOFF or LOCKED (R48). -/
def Controller.fault (b : Bay) (cause : FaultCause) (c : Controller) : Controller :=
  let s := c.inForce
  let now := c.run.siteTime
  let c1 := c.endSession b .FAULT .FAULT
  let c2 := c1.updOutlet b fun o =>
    { o with lastFault := some (cause, now), faultList := faultListAfter now s.wFault o.faultList, overdraw := none, startTimer := none
             state := if s.lockoutCount ≤ (faultListAfter now s.wFault o.faultList).length then .LOCKED else .HOLDOFF
             holdOff := if s.lockoutCount ≤ (faultListAfter now s.wFault o.faultList).length then none
                        else some (Timer.start (s.tHold * 1000)) }
  let c3 := ((((c2.depart b).markTarget b 0).judgeRelease).setFault cause.flag).raise .outletFault
  if (c3.outlet b).state = .LOCKED then c3.raise .outletLocked else c3

end Sys2Proof.Machine
end

