-- ==== Sys2Proof/Machine/Operands.lean ====
section
/-! DEFINITION. The operand forms of the commands: command and status codes (R205), the bay and flag operands, and the items of the settings with their ranges (R167). -/

namespace Sys2Proof.Machine

/-! ### Codes (R205) -/

/-- The command code of a site port command; no code for an event. -/
def commandCode : Instr → Option Nat
  | .issue .. => some 0x10
  | .amend .. => some 0x11
  | .void .. => some 0x12
  | .retire .. => some 0x13
  | .lookup .. => some 0x14
  | .readSlot .. => some 0x15
  | .findNext .. => some 0x16
  | .outletRead .. => some 0x20
  | .outletEnable .. => some 0x21
  | .outletDisable .. => some 0x22
  | .outletStop .. => some 0x23
  | .outletClear .. => some 0x24
  | .outletServiceStart .. => some 0x25
  | .poolRead => some 0x30
  | .batteryRead => some 0x31
  | .pauseAll => some 0x32
  | .resumeAll => some 0x33
  | .nodeRead .. => some 0x40
  | .linkRestart => some 0x41
  | .linkRequest => some 0x42
  | .linkFrame .. => some 0x43
  | .linkRelease => some 0x44
  | .setupBegin => some 0x50
  | .settingWrite .. => some 0x51
  | .settingRead .. => some 0x52
  | .setupEnd => some 0x53
  | .setupAbandon => some 0x54
  | .lockSet .. => some 0x55
  | .fuse => some 0x56
  | .start => some 0x60
  | .stop => some 0x61
  | .setTime .. => some 0x62
  | .readTime => some 0x63
  | .identify => some 0x64
  | .reset => some 0x65
  | .noticeRead => some 0x70
  | .noticeClear .. => some 0x71
  | .noticeEnable .. => some 0x72
  | .faultsRead => some 0x73
  | .faultsClear .. => some 0x74
  | _ => none

/-- The status codes: completions from 0x00, refusals 0x10..0x25 in the order of R185. -/
def Status.code : Status → Nat
  | .OK => 0x00
  | .CLAMPED => 0x01
  | .GRANTED => 0x02
  | .NO_REPLY => 0x03
  | .BAD_FRAME => 0x10
  | .UNKNOWN_COMMAND => 0x11
  | .BAD_PARAM => 0x12
  | .NOT_RUNNING => 0x13
  | .NOT_IN_SETUP => 0x14
  | .NOT_QUIET => 0x15
  | .BUSY => 0x16
  | .INVALID => 0x17
  | .NO_TIME => 0x18
  | .FULL => 0x19
  | .DUPLICATE => 0x1A
  | .NOT_FOUND => 0x1B
  | .WRONG_STATE => 0x1C
  | .BOUND => 0x1D
  | .LOCKED_TARIFF => 0x1E
  | .KEY_CLOSED => 0x1F
  | .WRITTEN => 0x20
  | .LINK_HELD => 0x21
  | .NOT_HELD => 0x22
  | .TOO_LATE => 0x23
  | .NOT_MANAGED => 0x24
  | .SITE_BUSY => 0x25

/-- The value sent instead of a status while the buffer is EMPTY or PENDING: NOT_READY. -/
def notReadyCode : Nat := 0xFF

/-! ### Bays, addresses and outlet indexes as they are sent: counted from 1 -/

/-- The bay of a number 1..24. -/
def bayOf? (n : Nat) : Option Bay := if h : 1 ≤ n ∧ n ≤ 24 then some ⟨n - 1, by omega⟩ else none

/-- The node address of a number 1..30. -/
def addrOf? (n : Nat) : Option Addr := if h : 1 ≤ n ∧ n ≤ 30 then some ⟨n - 1, by omega⟩ else none

/-- The outlet index of a number 1..4. -/
def outIxOf? (n : Nat) : Option OutIx := if h : 1 ≤ n ∧ n ≤ 4 then some ⟨n - 1, by omega⟩ else none

/-- The slot of a number 0..1023. -/
def slotOf? (n : Nat) : Option SlotNo := if h : n < 1024 then some ⟨n, h⟩ else none

/-- The number of a record state, which is its bit in a set of states (R18, R205, R207). -/
def RecordState.bit : RecordState → Nat
  | .FREE => 0
  | .LIVE => 1
  | .BOUND => 2
  | .SPENT => 3
  | .LAPSED => 4
  | .VOIDED => 5

/-- A RECEIPT or PASS of its number (R207). -/
def recordKindOf? : Nat → Option RecordKind
  | 0 => some .RECEIPT
  | 1 => some .PASS
  | _ => none

/-- A flag of its byte. -/
def flagOf? : Nat → Option Bool
  | 0 => some false
  | 1 => some true
  | _ => none

/-! ### The items of the settings (R167) -/

/-- An item of a setting group with its index. -/
inductive Item where
  | bank (i : Fin 8)
  | guardBand | cCab | cSafe | decay | tRound | tStale | stagger | tPmin | eLim | pDisSet | pChgSet | hBat
  | window (i : Fin 6)
  | map (b : Bay)
  | pMax (b : Bay)
  | pMin (b : Bay)
  | priority (b : Bay)
  | minTier (b : Bay)
  | paidContinuation (b : Bay)
  | marginPct | marginAbs | tOvd | tStart | tHold | lockoutCount | wFault | tFund | tRes
  | tReply | tPt
  | regionSize | regionTop | regionComplement
  | vLow | vHigh | vHys
  | wPv | wBat
  | boost (i : Fin 4)
  | lockLevel
  | siteNumber | cabinetSerial
  deriving DecidableEq, Repr

/-- An item with an index: the index must be given and in range. -/
def indexed {n : Nat} (mk : Fin n → Item) : Option Nat → Option Item
  | some i => if h : i < n then some (mk ⟨i, h⟩) else none
  | none => none

/-- A per-bay item: the index is the bay 1..24. -/
def perBay (mk : Bay → Item) : Option Nat → Option Item
  | some i => (bayOf? i).map mk
  | none => none

/-- An item without an index: an index must not be given. -/
def plain (it : Item) : Option Nat → Option Item
  | none => some it
  | some _ => none

/-- The item that a group byte, an item byte and an index name, numbered in the order of the table of R167 (R205). -/
def itemOf (group item : Nat) (index : Option Nat) : Option Item :=
  match group, item with
  | 0, 0 => indexed .bank index
  | 0, 1 => plain .guardBand index
  | 0, 2 => plain .cCab index
  | 0, 3 => plain .cSafe index
  | 0, 4 => plain .decay index
  | 0, 5 => plain .tRound index
  | 0, 6 => plain .tStale index
  | 0, 7 => plain .stagger index
  | 0, 8 => plain .tPmin index
  | 0, 9 => plain .eLim index
  | 0, 10 => plain .pDisSet index
  | 0, 11 => plain .pChgSet index
  | 0, 12 => plain .hBat index
  | 0, 13 => indexed .window index
  | 1, 0 => perBay .map index
  | 1, 1 => perBay .pMax index
  | 1, 2 => perBay .pMin index
  | 1, 3 => perBay .priority index
  | 1, 4 => perBay .minTier index
  | 1, 5 => perBay .paidContinuation index
  | 1, 6 => plain .marginPct index
  | 1, 7 => plain .marginAbs index
  | 1, 8 => plain .tOvd index
  | 1, 9 => plain .tStart index
  | 1, 10 => plain .tHold index
  | 1, 11 => plain .lockoutCount index
  | 1, 12 => plain .wFault index
  | 1, 13 => plain .tFund index
  | 1, 14 => plain .tRes index
  | 2, 0 => plain .tReply index
  | 2, 1 => plain .tPt index
  | 3, 0 => plain .regionSize index
  | 3, 1 => plain .regionTop index
  | 3, 2 => plain .regionComplement index
  | 4, 0 => plain .vLow index
  | 4, 1 => plain .vHigh index
  | 4, 2 => plain .vHys index
  | 5, 0 => plain .wPv index
  | 5, 1 => plain .wBat index
  | 5, 2 => indexed .boost index
  | 5, 3 => plain .lockLevel index
  | 6, 0 => plain .siteNumber index
  | 6, 1 => plain .cabinetSerial index
  | _, _ => none

/-- An item of the TARIFF group, which the lock level governs (R176). -/
def Item.tariff : Item → Bool
  | .wPv | .wBat | .boost _ | .lockLevel => true
  | _ => false

/-- How SETTING_WRITE sends an item's value (R205). -/
inductive Shape where
  /-- A power: 4 bytes, signed. -/
  | power
  /-- 4 bytes, unsigned. -/
  | word
  /-- 2 bytes, unsigned. -/
  | half
  /-- 1 byte, unsigned. -/
  | byte
  /-- 6 bytes, unsigned. -/
  | serial
  | map
  | window
  deriving DecidableEq, Repr

/-- The shape of an item's value (R205). -/
def Item.shape : Item → Shape
  | .bank _ | .guardBand | .cCab | .cSafe | .decay | .eLim | .pDisSet | .pChgSet | .pMax _ | .pMin _ | .marginAbs => .power
  | .hBat | .siteNumber => .word
  | .tRound | .tStale | .tPmin | .tOvd | .tStart | .tHold | .wFault | .tFund | .tRes | .tReply | .tPt | .regionSize | .vLow | .vHigh
  | .vHys => .half
  | .stagger | .priority _ | .minTier _ | .paidContinuation _ | .marginPct | .lockoutCount | .regionTop | .regionComplement | .wPv
  | .wBat | .boost _ | .lockLevel => .byte
  | .cabinetSerial => .serial
  | .map _ => .map
  | .window _ => .window

/-- A number in a range, as a natural number. -/
def inRange (lo hi : Nat) (n : Int) : Option Nat := if (lo : Int) ≤ n ∧ n ≤ (hi : Int) then some n.toNat else none

/-- The range of an item's number (R7, R32, R65, R88, R109, R118, R145, R162, R167); the item's value when the number is in it. -/
def Item.number (n : Int) : Item → Option Nat
  | .bank _ => (inRange 0 1000000 n).bind fun v => if v % 100 = 0 then some v else none
  | .guardBand => inRange 0 50000 n
  | .cCab => inRange 0 1000000 n
  | .cSafe => inRange 0 100000 n
  | .decay => inRange 0 50000 n
  | .tRound => inRange 1 10 n
  | .tStale => inRange 1 30 n
  | .stagger => inRange 1 4 n
  | .tPmin => inRange 0 300 n
  | .eLim => inRange 0 1000000 n
  | .pDisSet => inRange 0 500000 n
  | .pChgSet => inRange 0 500000 n
  | .hBat => inRange 0 100000 n
  | .pMax _ => inRange 1380 50000 n
  | .pMin _ => inRange 1000 11000 n
  | .priority _ => inRange 0 31 n
  | .minTier _ => inRange 0 3 n
  | .paidContinuation _ => inRange 0 1 n
  | .marginPct => inRange 0 25 n
  | .marginAbs => inRange 0 2000 n
  | .tOvd => inRange 1 60 n
  | .tStart => inRange 5 120 n
  | .tHold => inRange 5 600 n
  | .lockoutCount => inRange 1 7 n
  | .wFault => inRange 60 3600 n
  | .tFund => inRange 10 600 n
  | .tRes => inRange 10 300 n
  | .tReply => inRange 5 100 n
  | .tPt => inRange 1 30 n
  | .regionSize => (inRange 0 1024 n).bind fun v => if v ∈ [0, 32, 64, 128, 256, 512, 1024] then some v else none
  | .regionTop => inRange 0 1 n
  | .regionComplement => inRange 0 1 n
  | .vLow => inRange 1800 2300 n
  | .vHigh => inRange 2300 2760 n
  | .vHys => inRange 0 200 n
  | .wPv => inRange 0 16 n
  | .wBat => inRange 0 16 n
  | .boost _ => inRange 0 15 n
  | .siteNumber => inRange 0 u32Max n
  | .cabinetSerial => inRange 0 281474976710655 n
  | .lockLevel | .map _ | .window _ => none

/-- The map entry of its four bytes, each in its range (R167). -/
def mapOf? (valid node outlet managed : Nat) : Option MapEntry := do
  let v ← flagOf? valid
  let a ← addrOf? node
  let o ← outIxOf? outlet
  let m ← flagOf? managed
  pure { valid := v, node := a, outlet := o, managed := m }

/-- The reserve window of its three fields, each in its range (R167). -/
def windowOf? (start floor gridCharge : Nat) : Option ReserveWindow := do
  let g ← flagOf? gridCharge
  if start ≤ 1439 ∧ floor ≤ 2000000 then pure { start := start, floor := floor, gridCharge := g } else none

/-- The per-bay settings of one bay changed. -/
def Settings.updBay (b : Bay) (f : BaySettings → BaySettings) (s : Settings) : Settings :=
  { s with bays := s.bays.set b (f (s.bays.get b)) }

/-- An item's number put into a copy. The items held elsewhere (map, window, lock level, identity) are not put here. -/
def Item.putNumber (v : Nat) (s : Settings) : Item → Settings
  | .bank i => { s with banks := s.banks.set i v }
  | .guardBand => { s with guardBand := v }
  | .cCab => { s with cCab := v }
  | .cSafe => { s with cSafe := v }
  | .decay => { s with decay := v }
  | .tRound => { s with tRound := v }
  | .tStale => { s with tStale := v }
  | .stagger => { s with stagger := v }
  | .tPmin => { s with tPmin := v }
  | .eLim => { s with eLim := v }
  | .pDisSet => { s with pDisSet := v }
  | .pChgSet => { s with pChgSet := v }
  | .hBat => { s with hBat := v }
  | .pMax b => s.updBay b fun x => { x with pMax := v }
  | .pMin b => s.updBay b fun x => { x with pMin := v }
  | .priority b => s.updBay b fun x => { x with priority := v }
  | .minTier b => s.updBay b fun x => { x with minTier := v }
  | .paidContinuation b => s.updBay b fun x => { x with paidContinuation := v == 1 }
  | .marginPct => { s with marginPct := v }
  | .marginAbs => { s with marginAbs := v }
  | .tOvd => { s with tOvd := v }
  | .tStart => { s with tStart := v }
  | .tHold => { s with tHold := v }
  | .lockoutCount => { s with lockoutCount := v }
  | .wFault => { s with wFault := v }
  | .tFund => { s with tFund := v }
  | .tRes => { s with tRes := v }
  | .tReply => { s with tReply := v }
  | .tPt => { s with tPt := v }
  | .regionSize => { s with region := { s.region with size := v } }
  | .regionTop => { s with region := { s.region with top := v == 1 } }
  | .regionComplement => { s with region := { s.region with complement := v == 1 } }
  | .vLow => { s with vLow := v }
  | .vHigh => { s with vHigh := v }
  | .vHys => { s with vHys := v }
  | .wPv => { s with tariff := { s.tariff with wPv := v } }
  | .wBat => { s with tariff := { s.tariff with wBat := v } }
  | .boost i => { s with tariff := { s.tariff with boosts := s.tariff.boosts.set i v } }
  | .window _ | .map _ | .lockLevel | .siteNumber | .cabinetSerial => s

/-- The working copy with an item written, and the value as written; none when the value is outside its range (R167, R170). -/
def Working.write (w : Working) (it : Item) (value : SettingValue) : Option Working :=
  match it, value with
  | .map b, .map valid node outlet managed =>
    (mapOf? valid node outlet managed).map fun m => { w with settings := w.settings.updBay b fun x => { x with map := m } }
  | .window i, .window none => some { w with settings := { w.settings with windows := w.settings.windows.set i none } }
  | .window i, .window (some (start, floor, g)) =>
    (windowOf? start floor g).map fun rw => { w with settings := { w.settings with windows := w.settings.windows.set i (some rw) } }
  | .siteNumber, .num n => (Item.siteNumber.number n).map fun v => { w with siteNumber := some v }
  | .cabinetSerial, .num n => (Item.cabinetSerial.number n).map fun v => { w with serial := some v }
  | it, .num n => (it.number n).map fun v => { w with settings := it.putNumber v w.settings }
  | _, _ => none

/-- The number of an item in a copy. -/
def Item.getNumber (s : Settings) : Item → Nat
  | .bank i => s.banks.get i
  | .guardBand => s.guardBand
  | .cCab => s.cCab
  | .cSafe => s.cSafe
  | .decay => s.decay
  | .tRound => s.tRound
  | .tStale => s.tStale
  | .stagger => s.stagger
  | .tPmin => s.tPmin
  | .eLim => s.eLim
  | .pDisSet => s.pDisSet
  | .pChgSet => s.pChgSet
  | .hBat => s.hBat
  | .pMax b => (s.bays.get b).pMax
  | .pMin b => (s.bays.get b).pMin
  | .priority b => (s.bays.get b).priority
  | .minTier b => (s.bays.get b).minTier
  | .paidContinuation b => (s.bays.get b).paidContinuation.toNat
  | .marginPct => s.marginPct
  | .marginAbs => s.marginAbs
  | .tOvd => s.tOvd
  | .tStart => s.tStart
  | .tHold => s.tHold
  | .lockoutCount => s.lockoutCount
  | .wFault => s.wFault
  | .tFund => s.tFund
  | .tRes => s.tRes
  | .tReply => s.tReply
  | .tPt => s.tPt
  | .regionSize => s.region.size
  | .regionTop => s.region.top.toNat
  | .regionComplement => s.region.complement.toNat
  | .vLow => s.vLow
  | .vHigh => s.vHigh
  | .vHys => s.vHys
  | .wPv => s.tariff.wPv
  | .wBat => s.tariff.wBat
  | .boost i => s.tariff.boosts.get i
  | .window _ | .map _ | .lockLevel | .siteNumber | .cabinetSerial => 0

/-! ### Lock levels (R176) -/

/-- The number of a level: OPEN, KEYED, LOCKED, FUSED from 0, in their rank. -/
def StoredLevel.number : StoredLevel → Nat
  | .OPEN => 0
  | .KEYED => 1
  | .FUSED => 3

/-- The number of LOCKED. -/
def lockedLevel : Nat := 2

/-- The number of FUSED. -/
def fusedLevel : Nat := 3

/-- The working level, while the setup flag is set. -/
def SettingsBlock.workingLevel (b : SettingsBlock) : Option StoredLevel := b.working.map (·.settings.level)

/-- The level in force (R176). -/
def SettingsBlock.level (b : SettingsBlock) : Nat :=
  if b.fuseCell.isSome || b.workingLevel == some .FUSED then fusedLevel
  else if b.latch then lockedLevel
  else (b.workingLevel.getD b.stored.level).number

/-- An item's value as SETTING_READ returns it: from the working copy while it exists, otherwise from the stored copy (R171). An
identity item reads from its cell, or as the working copy's pending value (R179). -/
def SettingsBlock.read (b : SettingsBlock) : Item → ItemValue
  | .map bay => .map ((b.working.map (·.settings)).getD b.stored |>.bays.get bay).map
  | .window i => .window ((b.working.map (·.settings)).getD b.stored |>.windows.get i)
  | .siteNumber => .identity (b.siteCell <|> b.working.bind (·.siteNumber))
  | .cabinetSerial => .identity (b.serialCell <|> b.working.bind (·.serial))
  | .lockLevel => .lock b.level b.stored.level b.workingLevel b.latch b.fuseCell.isSome
  | it => .num (it.getNumber ((b.working.map (·.settings)).getD b.stored))

end Sys2Proof.Machine
end

