-- ==== Sys2Proof/Machine/Credit.lean ====
section
/-! DEFINITION. The credit table's commands (sections 1.3, 1.6): ISSUE, AMEND, VOID, RETIRE, LOOKUP, READ_SLOT, FIND_NEXT and the expiry sweep. -/

namespace Sys2Proof.Machine

/-! ### ISSUE (R11) -/

/-- ISSUE's parameters lie in their ranges (R11, first line). -/
def issueParams (code till tier credit validity : Nat) (kind : RecordKind) (single : Bool) : Bool :=
  decide (code ≠ 0 ∧ code < 2 ^ 64 ∧ till ≤ 63 ∧ tier ≤ 3 ∧ 1 ≤ credit ∧ credit ≤ Config.creditMax ∧ 1 ≤ validity
    ∧ validity ≤ Config.validityMax) && !(kind == .PASS && (till != 0 || single))

/-- The record that ISSUE makes (R11). -/
def Record.issued (code till tier credit now expiry : Nat) (kind : RecordKind) (single : Bool) : Record :=
  { Record.free with
    state := .LIVE, kind := kind, code := code, till := till, tier := tier, singleUse := single, granted := credit
    remaining := credit, issueTime := now, expiryTime := expiry }

/-- ISSUE with its kind and flag read (R11). -/
def Controller.issue (cmd code till tier credit validity : Nat) (kind : RecordKind) (single : Bool) (c : Controller) : Controller :=
  let now := c.run.siteTime
  let expiry := now + validity * 60
  if !issueParams code till tier credit validity kind single then c.refuse cmd .BAD_PARAM
  else if !c.run.timeValid then c.refuse cmd .NO_TIME
  else if u32Max < expiry then c.refuse cmd .BAD_PARAM
  else if (c.credit.findCode code).isSome then c.refuse cmd .DUPLICATE
  else match c.placement kind with
    | none => c.refuse cmd .FULL
    | some k =>
      (c.updRecord k fun _ => Record.issued code till tier credit now expiry kind single).ok cmd (.issued k now expiry)

/-- ISSUE (R11). -/
def execIssue (code kind till tier credit validity singleUse : Nat) (s : State) : Host.Outcome State Fault Refusal :=
  command 0x10 (fun c =>
    match recordKindOf? kind, flagOf? singleUse with
    | some k, some single => c.issue 0x10 code till tier credit validity k single
    | _, _ => c.refuse 0x10 .BAD_PARAM) s

/-! ### AMEND (R12, R13) -/

/-- AMEND's credit, expiry and tier on a record, its state not yet judged (R12). -/
def Record.addCredit (accepted : Nat) (newExpiry newTier : Option Nat) (r : Record) : Record :=
  { r with granted := r.granted + accepted, remaining := r.remaining + accepted, expiryTime := newExpiry.getD r.expiryTime
           tier := newTier.getD r.tier }

/-- The state after an AMEND (the table of R13). -/
def Record.amendState (valid : Bool) (now accepted : Nat) (newExpiry : Option Nat) (r : Record) : Record :=
  match r.state with
  | .LAPSED => if newExpiry.isSome then { r with state := .LIVE } else r
  | .SPENT =>
    if accepted = 0 then r
    else if valid && r.expiredAt now then { r with state := .LAPSED, spendReason := none }
    else { r with state := .LIVE, spendReason := none }
  | _ => r

/-- The states in which AMEND is refused (R13). -/
def Record.amendRefused (r : Record) : Bool :=
  r.state == .VOIDED || (r.state == .SPENT && r.spendReason == some .SINGLE_USE) || (r.state == .BOUND && r.voidPending)

/-- The part of an add that AMEND accepts: the lesser of the add and 2,000,000 − granted (R12). -/
def Record.accepts (add : Nat) (r : Record) : Nat := min add (Config.creditMax - r.granted)

/-- AMEND (R12, R13). -/
def execAmend (code add : Nat) (newExpiry newTier : Option Nat) (s : State) : Host.Outcome State Fault Refusal :=
  command 0x11 (fun c =>
    let now := c.run.siteTime
    if Config.creditMax < add ∨ 3 < newTier.getD 0 then c.refuse 0x11 .BAD_PARAM
    else match c.credit.findCode code with
      | none => c.refuse 0x11 .NOT_FOUND
      | some k =>
        if (c.record k).amendRefused then c.refuse 0x11 .WRONG_STATE
        else if newExpiry.isSome && !c.run.timeValid then c.refuse 0x11 .NO_TIME
        else if (newExpiry.map fun t => decide (t ≤ now)).getD false then c.refuse 0x11 .BAD_PARAM
        else
          let a := (c.record k).accepts add
          let r := ((c.record k).addCredit a newExpiry newTier).amendState c.run.timeValid now a newExpiry
          (c.updRecord k fun _ => r).answer 0x11 (if a = add then .OK else .CLAMPED)
            (.amended a r.state r.remaining r.expiryTime r.tier)) s

/-! ### VOID (R14, R15) -/

/-- A record's remaining credit moves into forfeited (R14, R15). -/
def Record.forfeit (r : Record) : Record := { r with remaining := 0, forfeited := r.forfeited + r.remaining }

/-- VOID of a LIVE, SPENT or LAPSED record (R14). -/
def Record.voidNow (r : Record) : Record := { r.forfeit with state := .VOIDED, spendReason := none }

/-- VOID of a BOUND record: void_pending is set (R15). -/
def Record.voidBound (r : Record) : Record := { r.forfeit with voidPending := true }

/-- A funding withdrawal handed for a bay and the slot that its session held; ignored when the session is not CREDIT funded with that
slot (R45). -/
def Controller.handWithdrawal (b : Bay) (k : SlotNo) (c : Controller) : Controller :=
  match (c.outlet b).session with
  | some ss => if ss.kind = .CREDIT ∧ ss.boundSlot = some k then c.withdrawFunding b else c
  | none => c

/-- VOID (R14, R15). Its response carries void_pending in every case, clear where the record was not BOUND (log 21). -/
def execVoid (code : Nat) (s : State) : Host.Outcome State Fault Refusal :=
  command 0x12 (fun c =>
    match c.credit.findCode code with
    | none => c.refuse 0x12 .NOT_FOUND
    | some k =>
      let r := c.record k
      if r.kind = .PASS ∨ r.state = .VOIDED ∨ (r.state = .BOUND ∧ r.voidPending = true) then c.refuse 0x12 .WRONG_STATE
      else if r.state = .BOUND then
        let c1 := c.updRecord k Record.voidBound
        let c2 := match r.boundBay with
          | some b => c1.handWithdrawal b k
          | none => c1
        c2.ok 0x12 (.voided r.remaining .BOUND true)
      else (c.updRecord k Record.voidNow).ok 0x12 (.voided r.remaining .VOIDED false)) s

/-! ### RETIRE (R16) -/

/-- The slot that a key names, or the refusal: a slot above 1023 or nothing found (R16). -/
def Controller.keySlot (c : Controller) : RecordKey → Except Status SlotNo
  | .code code => match c.credit.findCode code with
    | some k => .ok k
    | none => .error .NOT_FOUND
  | .slot n => match slotOf? n with
    | none => .error .BAD_PARAM
    | some k => if (c.record k).state = .FREE then .error .NOT_FOUND else .ok k

/-- RETIRE (R16). -/
def execRetire (key : RecordKey) (s : State) : Host.Outcome State Fault Refusal :=
  command 0x13 (fun c =>
    match c.keySlot key with
    | .error status => c.refuse 0x13 status
    | .ok k =>
      let r := c.record k
      if r.state = .BOUND then c.refuse 0x13 .BOUND
      else if r.kind = .RECEIPT ∧ r.state = .LIVE then c.refuse 0x13 .WRONG_STATE
      else (c.updRecord k fun _ => Record.free).ok 0x13 (.record k r)) s

/-! ### LOOKUP, READ_SLOT (R17) and FIND_NEXT (R18) -/

/-- The read of a record: every field as it stands, and its changed flag cleared (R17). -/
def Controller.readRecord (cmd : Nat) (k : SlotNo) (c : Controller) : Controller :=
  (c.updRecord k fun r => { r with changed := false }).ok cmd (.record k (c.record k))

/-- LOOKUP (R17). -/
def execLookup (code : Nat) (s : State) : Host.Outcome State Fault Refusal :=
  command 0x14 (fun c => match c.credit.findCode code with
    | some k => c.readRecord 0x14 k
    | none => c.refuse 0x14 .NOT_FOUND) s

/-- READ_SLOT (R17). -/
def execReadSlot (slot : Nat) (s : State) : Host.Outcome State Fault Refusal :=
  command 0x15 (fun c => match slotOf? slot with
    | some k => c.readRecord 0x15 k
    | none => c.refuse 0x15 .BAD_PARAM) s

/-- The slot that FIND_NEXT finds (R18). -/
def CreditTable.findNext (t : CreditTable) (start : Nat) (states : Byte) (changedOnly : Bool) : Option SlotNo :=
  t.slots.lowest fun k r => decide (start ≤ k) && states.getLsbD r.state.bit && (!changedOnly || r.changed)

/-- FIND_NEXT (R18). A bit above the six states names no state (log 32). -/
def execFindNext (start : Nat) (states : Byte) (changedOnly : Nat) (s : State) : Host.Outcome State Fault Refusal :=
  command 0x16 (fun c => match flagOf? changedOnly with
    | none => c.refuse 0x16 .BAD_PARAM
    | some ch =>
      if 1023 < start ∨ states &&& 0x3F#8 = 0#8 then c.refuse 0x16 .BAD_PARAM
      else
        let found := c.credit.findNext start states ch
        c.ok 0x16 (.found found (found.map fun k => (c.record k).state) (found.map fun k => (c.record k).code) c.credit.counts)) s

/-! ### The expiry sweep (R26) -/

/-- The sweep on one record: a LIVE record whose expiry time is at or before now lapses (R26). -/
def Record.sweep (now : Nat) (r : Record) : Record := if r.state = .LIVE ∧ r.expiryTime ≤ now then r.lapse else r

/-- Whether the sweep lapses a record. -/
def Record.lapses (now : Nat) (r : Record) : Bool := r.state == .LIVE && r.expiredAt now

/-- The sweep at a site-minute boundary: the notice is raised once (R26). -/
def Controller.sweep (now : Nat) (c : Controller) : Controller :=
  let c' := { c with credit := { c.credit with slots := c.credit.slots.map (Record.sweep now) } }
  if c.credit.slots.data.any (Record.lapses now) then c'.raise .receiptLapse else c'

/-- EXPIRY_SWEEP: taken when a boundary has been reached and not yet swept (R26, log 13). -/
def execExpirySweep (s : State) : Host.Outcome State Fault Refusal :=
  event (fun c => match c.run.sweepAt with
    | none => c
    | some now => { (if c.run.timeValid then c.sweep now else c) with run := { c.run with sweepAt := none } }) s

end Sys2Proof.Machine
end

