-- ==== Sys2Proof/Machine/Storage.lean ====
section
/-! DEFINITION. Freshness of readings (R67), and the battery and canopy part of the power balance unit (chapter 4): reserve window, discharge permission, battery setpoint, canopy cap, their delivery records, BATTERY_READ. -/

namespace Sys2Proof.Machine

/-! ### Readings (R67, R68) -/

/-- The PRESENT or SILENT node of a kind: the supply meter, canopy or battery node (R68). -/
def Controller.singleton (c : Controller) (k : NodeKind) : Option Addr :=
  c.link.nodes.lowest fun _ n => n.known && n.kind == some k

/-- The latest reading of the node of a kind, with its arrival. -/
def Controller.arrival (c : Controller) (k : NodeKind) : Option Arrival := (c.singleton k).bind fun a => (c.node a).readings

/-- The age of an arrival in ms at this moment (R67). -/
def Controller.age (c : Controller) (arr : Arrival) : Nat := c.run.ms - arr.stamp

/-- An arrival is fresh: its age is at or below T_stale and the link is not DOWN (R67). -/
def Controller.fresh (c : Controller) (arr : Arrival) : Bool :=
  decide (c.age arr ≤ c.inForce.tStale * 1000) && c.link.state != .DOWN

/-- The canopy's output power. -/
def Arrival.canopyPower (arr : Arrival) : Int :=
  match arr.body with
  | .canopy power _ => power
  | _ => 0

/-- The battery's reading. -/
def Arrival.battery (arr : Arrival) : Option BatteryReading :=
  match arr.body with
  | .battery b => some b
  | _ => none

/-- The battery's reading when it is fresh. -/
def Controller.freshBattery (c : Controller) : Option BatteryReading :=
  (c.arrival .BATTERY).bind fun arr => if c.fresh arr then arr.battery else none

/-- The canopy's output power when its reading is fresh. -/
def Controller.freshCanopy (c : Controller) : Option Int :=
  (c.arrival .CANOPY).bind fun arr => if c.fresh arr then some arr.canopyPower else none

/-! ### Reserve window (R89) -/

/-- The stored entries that are present. -/
def Settings.reserve (s : Settings) : List ReserveWindow := s.windows.data.filterMap id

/-- The entry with the latest start minute. -/
def latestStart : List ReserveWindow → Option ReserveWindow
  | [] => none
  | w :: ws => match latestStart ws with
    | none => some w
    | some v => if v.start < w.start then some w else some v

/-- The entry in force at a minute of day (R89). -/
def windowAt (minute : Nat) (ws : List ReserveWindow) : Option ReserveWindow :=
  match latestStart (ws.filter fun w => decide (w.start ≤ minute)) with
  | some w => some w
  | none => latestStart ws

/-- The highest floor among the entries; 0 Wh for none. -/
def highestFloor (ws : List ReserveWindow) : Nat := (ws.map (·.floor)).foldl max 0

/-- The minute of day (R89). -/
def minuteOfDay (siteTime : Nat) : Nat := siteTime / 60 % 1440

/-- The selection of the reserve window at a round (R89). -/
def Storage.selectWindow (valid : Bool) (siteTime : Nat) (ws : List ReserveWindow) (st : Storage) : Storage :=
  match valid, windowAt (minuteOfDay siteTime) ws with
  | true, some w => { st with windowStart := some w.start, floor := w.floor, gridCharge := w.gridCharge }
  | _, _ => { st with windowStart := none, floor := if valid then 0 else highestFloor ws, gridCharge := false }

/-! ### Discharge permission and discharge offered (R90, R91, R92) -/

/-- The battery reading that makes the evaluation clear (R90). -/
def Controller.clearBattery (c : Controller) : Option BatteryReading :=
  match c.singleton .BATTERY with
  | some a => if (c.node a).state = .PRESENT then c.freshBattery.filter fun b => b.faultCode == 0 && !b.empty else none
  | none => none

/-- The permission after a clear evaluation (the table of R90). -/
def permissionAfter (before : Bool) (e floor hBat : Nat) : Bool :=
  if before then decide (floor < e) else decide (floor + hBat ≤ e ∧ floor < e)

/-- The evaluation of the permission, clear or held, and B_off right after it (R90 to R92). -/
def Storage.evaluate (s : Settings) (clear : Option BatteryReading) (st : Storage) : Storage :=
  match clear with
  | some b =>
    let allowed := permissionAfter st.allowed b.energy st.floor s.hBat
    { st with allowed := allowed, lastClear := some true
              bOff := if allowed then min (s.pDisSet : Int) (max 0 b.dischargeLimit) else 0 }
  | none => { st with allowed := false, lastClear := some false, bOff := 0 }

/-! ### Battery setpoint (R93 to R96) -/

/-- The discharge when P_need is above 0 W (R94). -/
def discharge (pNeed bOff forecast : Int) : Int := min pNeed (min bOff (max 0 forecast))

/-- The charge when P_need is 0 W or below, as a positive number (R95). `forecast` is S_est + ΣA + U − P_pv. -/
def charge (s : Settings) (gridCharge : Bool) (b : BatteryReading) (pNeed forecast : Int) : Int :=
  let base := min (-pNeed) (min (s.pChgSet : Int) (max 0 b.chargeLimit))
  if b.full then 0 else if gridCharge then base else min base (max 0 (-forecast))

/-- The battery whose setpoint R94 and R95 form: fresh reading, PRESENT, no fault code, and STOP_ALL not asserted (R96). -/
def Controller.drivenBattery (c : Controller) : Option BatteryReading :=
  match c.singleton .BATTERY with
  | some a =>
    if (c.node a).state = .PRESENT ∧ c.lines.stopAll.qualified = false then c.freshBattery.filter fun b => b.faultCode == 0 else none
  | none => none

/-- The computed battery setpoint (R94 to R96). -/
def batterySetpoint (s : Settings) (st : Storage) (battery : Option BatteryReading) (pNeed forecast : Int) : Int :=
  match battery with
  | none => 0
  | some b => if 0 < pNeed then discharge pNeed st.bOff forecast else -charge s st.gridCharge b pNeed forecast

/-! ### Delivery records (R99, R100) -/

/-- A round marks its battery setpoint (R99). Without a battery node it removes the pending setpoint, also at a round taken while the link
is DISCOVERING and the battery is not yet entered: of R99 and R101 (pending values wait) the model follows R99 there (log 48). -/
def BatteryDelivery.mark (nodeKnown : Bool) (computed : Int) (d : BatteryDelivery) : BatteryDelivery :=
  { d with computed := computed, pending := if nodeKnown && d.acked != some computed then some computed else none }

/-- A SET_ACK from the battery (R99). An echo that differs from the value sent removes the pending setpoint, also a newer one that a round
or STOP has marked meanwhile (log 40). -/
def BatteryDelivery.echo (sent echo : Int) (d : BatteryDelivery) : BatteryDelivery :=
  { d with acked := some echo, pending := if echo ≠ sent ∨ d.pending = some echo then none else d.pending }

/-- A round marks the canopy cap it has computed (R100). -/
def CanopyDelivery.mark (nodeKnown : Bool) (cap : Cap) (d : CanopyDelivery) : CanopyDelivery :=
  { d with computed := some cap, pending := if nodeKnown && d.acked != some cap then some cap else none }

/-- A SET_ACK from the canopy, by R99's rules (R100; log 40). -/
def CanopyDelivery.echo (sent echo : Cap) (d : CanopyDelivery) : CanopyDelivery :=
  { d with acked := some echo, pending := if echo ≠ sent ∨ d.pending = some echo then none else d.pending }

/-- A canopy STATUS reports the cap in force at the canopy (R100). DESIGN CHOICE: at two moments R101 has the canopy keep what it has, and
the model follows R100, which makes the computed cap pending: at a STATUS of STOP's final cycle, though STOP has removed the pending cap
(log 49), and at a STATUS before the first round after a discovery that follows IDLE or DOWN (log 50). -/
def CanopyDelivery.report (cap : Cap) (d : CanopyDelivery) : CanopyDelivery :=
  if d.acked = some cap then d
  else { d with acked := none, pending := d.pending <|> d.computed }

/-- The storage state replaced. -/
def Controller.updStorage (f : Storage → Storage) (c : Controller) : Controller := { c with storage := f c.storage }

/-- The acknowledged value of a battery or canopy is removed, at the node's entry or its return from SILENT (R99, R100). -/
def Controller.forgetAcked (k : Option NodeKind) (c : Controller) : Controller :=
  match k with
  | some .BATTERY => c.updStorage fun st => { st with battery := { st.battery with acked := none } }
  | some .CANOPY => c.updStorage fun st => { st with canopy := { st.canopy with acked := none } }
  | _ => c

/-- The storage state at an entry of the link to IDLE or DOWN (R101). The computed cap is kept, and a later canopy STATUS can mark it
(log 50). -/
def Storage.loseLink (st : Storage) : Storage :=
  { st with allowed := false, bOff := 0, battery := { st.battery with acked := none, pending := none }
            canopy := { st.canopy with acked := none, pending := none } }

/-- The storage state at STOP (R101). A canopy STATUS of the final cycle can mark the computed cap again (log 49). -/
def Storage.stop (st : Storage) : Storage :=
  { st with battery := { st.battery with computed := 0, pending := some 0 }, canopy := { st.canopy with pending := none } }

/-- Step 7 of a round: battery setpoint, canopy cap and their marks (R93 to R100). `sumA` is ΣA; the other figures are the round's. -/
def Controller.storageStep (sumA u sEst lImp pPv : Int) (c : Controller) : Controller :=
  let s := c.inForce
  let forecast := sEst + sumA + u - pPv
  let pNeed := sumA + u + sEst + s.guardBand - lImp - pPv
  let setpoint := batterySetpoint s c.storage c.drivenBattery pNeed forecast
  let c1 := c.updStorage fun st =>
    { st with pNeed := some pNeed, battery := st.battery.mark (c.singleton .BATTERY).isSome setpoint }
  match c.freshCanopy with
  | none => c1
  | some _ =>
    let n := forecast - setpoint
    let cap : Cap := if n < -(s.eLim : Int) then .watts (max 0 (pPv - (-(s.eLim : Int) - n))) else .uncapped
    c1.updStorage fun st => { st with netImport := some n, canopy := st.canopy.mark (c.singleton .CANOPY).isSome cap }

/-! ### BATTERY_READ (R102) -/

/-- A node with its state. -/
def Controller.nodeView (c : Controller) (k : NodeKind) : Option (Addr × NodeState) :=
  (c.singleton k).map fun a => (a, (c.node a).state)

/-- A node's reading with its age and freshness. -/
def Controller.readingView (c : Controller) (k : NodeKind) : Option ReadingView :=
  (c.arrival k).map fun arr => { body := arr.body, age := c.age arr, fresh := c.fresh arr }

/-- BATTERY_READ (R102). -/
def execBatteryRead (s : State) : Host.Outcome State Fault Refusal :=
  command 0x31 (fun c => c.ok 0x31 (.storage
    { batteryNode := c.nodeView .BATTERY, batteryReading := c.readingView .BATTERY, canopyNode := c.nodeView .CANOPY
      canopyReading := c.readingView .CANOPY, storage := c.storage, roundCount := c.pool.roundCount })) s

end Sys2Proof.Machine
end

