-- ==== Sys2Proof/Machine/Draws.lean ====
section
/-! DEFINITION. Attribution of energy and the draws against credit (chapter 5, section 1.5). -/

namespace Sys2Proof.Machine

/-! ### Attribution (R104 to R109) -/

/-- Whether a round attributes energy to a bay: a managed outlet that holds a session (R104). -/
def Controller.attributed (c : Controller) (b : Bay) : Bool := c.managed b && (c.outlet b).session.isSome

/-- M: the latest measured power of every attributed outlet that is not OFFLINE (R105). -/
def Controller.measuredTotal (c : Controller) : Int :=
  ((baysWhere fun b => c.attributed b && (c.outlet b).state != .OFFLINE).map fun b =>
    ((c.reading b).map (·.measured)).getD 0).sum

/-- pv_tot (R105). -/
def pvTot (m pPv sEst : Int) : Int := min m (max 0 (pPv - sEst))

/-- bat_tot (R105). -/
def batTot (m pvTot pBatAtt : Int) : Int := min (m - pvTot) (max 0 pBatAtt)

/-- A share of an increment: e × part ÷ M, rounded down; 0 when M is 0 W (R106). -/
def share (e : Nat) (part m : Int) : Nat := if m = 0 then 0 else (((e : Int) * part).fdiv m).toNat

/-- The draw in credit units of a split increment (R109). -/
def drawOf (t : Tariff) (p b g : Nat) : Nat := ceilDiv (Config.gridWeight * g + t.wBat * b + t.wPv * p) 16

/-- A session takes a split increment into its parts, its energy and one funding field (R107, R108). -/
def Session.take (p b g e : Nat) (ss : Session) : Session :=
  let ss' := { ss with solar := satAdd u32Max ss.solar p, battery := satAdd u32Max ss.battery b, grid := satAdd u32Max ss.grid g
                       energy := satAdd u32Max ss.energy e }
  match ss.kind with
  | .CREDIT => { ss' with unfunded := satAdd u32Max ss.unfunded e }
  | .PAID | .SERVICE => { ss' with paidEnergy := satAdd u32Max ss.paidEnergy e }

/-- Whether a session has reached its cap (R113). -/
def Session.capReached (ss : Session) : Bool := ss.kind != .CREDIT && ss.cap != 0 && decide (ss.cap ≤ ss.paidEnergy)

/-- A draw handed to the credit table (R110). -/
def Controller.handDraw (d : Draw) (c : Controller) : Controller := { c with pool := { c.pool with draws := c.pool.draws ++ [d] } }

/-- The attribution of one bay at a round's totals (R104 to R113). -/
def Controller.attribute (m pv bat : Int) (b : Bay) (c : Controller) : Controller :=
  match (c.outlet b).session with
  | none => c
  | some ss =>
    if !c.managed b then c
    else
      let e := tailOf (c.outlet b).unattributed ss
      let p := share e pv m
      let q := share e bat m
      let g := e - p - q
      let c1 := c.updOutlet b fun o => { o with session := some (ss.take p q g e), unattributed := 0 }
      if ss.kind = .CREDIT then
        c1.handDraw { bay := b, slot := ss.boundSlot, p := p, b := q, g := g, d := drawOf c.inForce.tariff p q g }
      else if (ss.take p q g e).capReached then c1.endSession b .CAP_REACHED .ENDING
      else c1

/-- Step 8 of a round (R66, R104): the totals are formed once, then every bay is attributed in ascending order. -/
def Controller.attributionStep (pPv sEst : Int) (c : Controller) : Controller :=
  let m := c.measuredTotal
  let pv := pvTot m pPv sEst
  let bat := batTot m pv ((c.freshBattery.map (·.power)).getD 0)
  forBays (Controller.attribute m pv bat) c

/-! ### Draws (R23 to R25, R110 to R112) -/

/-- What a draw adds to a record's statement and binding energy (R23, R24). -/
def Record.addDraw (p b g e uncovered : Nat) (r : Record) : Record :=
  { r with
    bindingEnergy := r.bindingEnergy.map fun x => satAdd u32Max x e
    statement := { r.statement with
      solar := satAdd u32Max r.statement.solar p, battery := satAdd u32Max r.statement.battery b
      grid := satAdd u32Max r.statement.grid g, creditFunded := satAdd u32Max r.statement.creditFunded e
      uncovered := satAdd u32Max r.statement.uncovered uncovered } }

/-- A draw's credit is taken from a record: d below remaining in full, otherwise all that remains (R23, R24). -/
def Record.applyDraw (d : Nat) (r : Record) : Record :=
  { r with remaining := r.remaining - min d r.remaining, drawn := r.drawn + min d r.remaining }

/-- An increment moves from unfunded to credit-funded energy, with the uncovered credit (R111). -/
def Session.fund (e uncovered : Nat) (ss : Session) : Session :=
  { ss with unfunded := ss.unfunded - e, creditFunded := satAdd u32Max ss.creditFunded e
            uncovered := satAdd u32Max ss.uncovered uncovered }

/-- Whether a bay holds a CREDIT session with this bound slot (R111). -/
def Controller.holdsSlot (c : Controller) (b : Bay) (k : SlotNo) : Bool :=
  match (c.outlet b).session with
  | some ss => ss.kind == .CREDIT && ss.boundSlot == some k
  | none => false

/-- Whether a draw finds its record BOUND with its bay, void_pending clear (R23 to R25). -/
def Controller.drawApplies (c : Controller) (b : Bay) (k : SlotNo) : Bool :=
  (c.record k).state == .BOUND && (c.record k).boundBay == some b && !(c.record k).voidPending

/-- The credit table takes one draw, and its answer reaches the session at the same event (R23 to R25, R111, R112). -/
def Controller.takeDraw (dr : Draw) (c : Controller) : Controller :=
  match dr.slot with
  | none => c
  | some k =>
    if !c.drawApplies dr.bay k then c
    else
      let r := c.record k
      let e := dr.p + dr.b + dr.g
      let uncovered := dr.d - min dr.d r.remaining
      let held := c.holdsSlot dr.bay k
      let c1 := c.updRecord k fun r => (r.applyDraw dr.d).addDraw dr.p dr.b dr.g e uncovered
      let c2 := if held then c1.updOutlet dr.bay fun o => { o with session := o.session.map (Session.fund e uncovered) } else c1
      if dr.d < r.remaining then c2
      else
        let c3 := c2.unbind k false .receiptExhausted
        if held then c3.withdrawFunding dr.bay else c3

/-- The oldest draw formed and not yet taken is taken. -/
def Controller.takeOldestDraw (c : Controller) : Controller :=
  match c.pool.draws with
  | [] => c
  | d :: ds => ({ c with pool := { c.pool with draws := ds } } : Controller).takeDraw d

/-- Every draw not yet taken is taken, oldest first: the credit table does so before a bind request (R110). -/
def Controller.takeAllDraws (c : Controller) : Controller :=
  c.pool.draws.foldl (fun c d => c.takeDraw d) { c with pool := { c.pool with draws := [] } }

/-- DRAW (R23 to R25, R110). -/
def execDraw (s : State) : Host.Outcome State Fault Refusal := event Controller.takeOldestDraw s

end Sys2Proof.Machine
end

