-- ==== Sys2Proof/Machine/Outlets.lean ====
section
/-! DEFINITION. The outlet supervisor (chapter 2): STATUS entries, meter, faults and timers of an outlet, silence and link loss, round results, the outlet commands and the timers' expiries. -/

namespace Sys2Proof.Machine

/-! ### Meter (R35) -/

/-- The increment between two readings, modulo 2^32 (R35). -/
def meterIncrement (old new : Nat) : Nat := (new + 4294967296 - old) % 4294967296

/-- The plausibility limit: P_max × elapsed × 50 ÷ 14,400,000, rounded up (R35). -/
def meterLimit (pMax elapsed : Nat) : Nat := ceilDiv (pMax * elapsed * 50) 14400000

/-- The meter step of a STATUS entry at a time stamp (R35). -/
def Controller.meter (b : Bay) (reading stamp : Nat) (c : Controller) : Controller :=
  match (c.outlet b).baseline with
  | none => c.updOutlet b fun o => { o with baseline := some { reading := reading, stamp := stamp } }
  | some base =>
    let inc := meterIncrement base.reading reading
    if inc ≤ meterLimit (c.bay b).pMax (stamp - base.stamp) then
      c.updOutlet b fun o =>
        { o with baseline := some { reading := reading, stamp := stamp }, lifetime := satAdd u32Max o.lifetime inc
                 unattributed := if o.session.isSome then o.unattributed + inc else o.unattributed }
    else
      ((c.updOutlet b fun o => { o with baseline := some { reading := reading, stamp := stamp } }).setFault
        .METER_IMPLAUSIBLE).raise .outletMeter

/-! ### Power checks (R42, R47) -/

/-- The overdraw margin: in-force × margin_pct ÷ 100, rounded down, plus margin_abs (R32). -/
def Settings.margin (s : Settings) (inForce : Int) : Int := (inForce * s.marginPct).fdiv 100 + s.marginAbs

/-- The overdraw check of a STATUS (R47). -/
def Controller.overdrawCheck (b : Bay) (measured : Int) (c : Controller) : Controller :=
  let inForce := (c.outlet b).inForce
  c.updOutlet b fun o =>
    { o with overdraw := if inForce + c.inForce.margin inForce < measured then some (o.overdraw.getD (Timer.start (c.inForce.tOvd * 1000)))
                         else none }

/-- The check of a STARTING outlet at a STATUS (R42). -/
def Controller.startCheck (b : Bay) (measured : Int) (c : Controller) : Controller :=
  let inForce := (c.outlet b).inForce
  if inForce + 2 * c.inForce.margin inForce < measured then c.fault b .START_OVERLOAD
  else if ((c.bay b).pMin / 2 : Nat) ≤ measured then c.updOutlet b fun o => { o with state := .CHARGING, startTimer := none }
  else c

/-! ### The steps of a STATUS entry (R34) -/

/-- The state an OFFLINE outlet without a state before silence takes at its node's return (R51). -/
def Controller.heardState (c : Controller) (b : Bay) (plugged : Bool) : OutletState :=
  if !(c.bay b).map.managed then .METER_ONLY else if plugged then .PLUGGED else .IDLE

/-- An outlet leaves OFFLINE: frozen timers resume, the silence hold is cleared (R51). -/
def Outlet.restore (st : OutletState) (o : Outlet) : Outlet :=
  { o.freezeSilent false with state := st, offlineCause := none, beforeSilence := none, silenceHold := none }

/-- Step 1 of R34: an OFFLINE outlet, but for MAP_MISMATCH, leaves OFFLINE at the first good STATUS (R51); the target of 0 W is R33's
(log 10). -/
def Controller.heard (b : Bay) (plugged : Bool) (c : Controller) : Controller :=
  let o := c.outlet b
  if o.state = .OFFLINE ∧ o.offlineCause ≠ some .MAP_MISMATCH then
    let st := o.beforeSilence.getD (c.heardState b plugged)
    let c1 := c.updOutlet b (Outlet.restore st)
    let c2 := if st = .QUEUED then c1.enqueue b else c1
    if st.takesNoZero then c2 else (c2.markTarget b 0).judgeRelease
  else c

/-- Step 5 of R34: the customer-pause flag. -/
def Controller.customerPause (b : Bay) (pause : Bool) (c : Controller) : Controller :=
  if pause then c.addReason b .CUSTOMER else c.removeReason b .CUSTOMER

/-- Step 6 of R34: vehicle-done, in an admitted session that runs or is paused. -/
def Controller.vehicleDone (b : Bay) (done : Bool) (c : Controller) : Controller :=
  let o := c.outlet b
  let admitted := (o.session.map (·.admitted)).getD false
  if done && (o.state == .STARTING || o.state == .CHARGING || (o.state == .PAUSED && admitted)) then
    c.endSession b .VEHICLE_DONE .ENDING
  else c

/-- Step 7 of R34: the start checks or the overdraw check. -/
def Controller.powerStep (b : Bay) (measured : Int) (c : Controller) : Controller :=
  match (c.outlet b).state with
  | .STARTING => c.startCheck b measured
  | .CHARGING | .PAUSED | .ENDING => c.overdrawCheck b measured
  | _ => c

/-- Steps 4 to 7 of R34 in a session state. -/
def Controller.sessionEntry (b : Bay) (e : OutletReading) (c : Controller) : Controller :=
  if !e.plugged then c.endSession b .UNPLUGGED .IDLE
  else ((c.customerPause b e.customerPause).vehicleDone b e.vehicleDone).powerStep b e.measured

/-- The states in which a module fault acts (R34, step 3). -/
def OutletState.takesModuleFault : OutletState → Bool
  | .IDLE | .PLUGGED | .QUEUED | .STARTING | .CHARGING | .PAUSED | .ENDING => true
  | _ => false

/-- Steps 2 to 7 of R34, on an outlet that is heard. -/
def Controller.heardEntry (b : Bay) (e : OutletReading) (c : Controller) : Controller :=
  let c1 := c.meter b e.meter c.run.ms
  let st := (c1.outlet b).state
  if st.takesModuleFault && e.moduleFault != 0 then c1.fault b .MODULE
  else match st with
    | .IDLE => if e.plugged then c1.enter b .PLUGGED else c1
    | .PLUGGED => if e.plugged then c1 else c1.enter b .IDLE
    | .QUEUED | .STARTING | .CHARGING | .PAUSED => c1.sessionEntry b e
    | .ENDING => if e.plugged then c1.powerStep b e.measured else c1.enter b .IDLE
    | _ => c1

/-- A STATUS entry for a mapped bay, after the return of its outlet: with MAP_MISMATCH the STATUS is ignored (R34). -/
def Controller.outletEntry (b : Bay) (e : OutletReading) (c : Controller) : Controller :=
  match (c.outlet b).state with
  | .OFFLINE | .UNMAPPED => c
  | _ => c.heardEntry b e

/-! ### Silence and link loss (R50, R52), map changes (R31, R126) -/

/-- An outlet goes OFFLINE with cause SILENT (R50). -/
def Outlet.fallSilent (tRes : Nat) (o : Outlet) : Outlet :=
  { o.freezeSilent true with
    state := .OFFLINE, offlineCause := some .SILENT, beforeSilence := some o.state, pending := none, raiseReleased := false
    session := o.session.map fun ss => { ss with interrupted := true }
    silenceHold := if o.session.isSome then some (Timer.start (tRes * 1000)) else none }

/-- One bay of a node that falls silent (R50); the release is judged by the caller. -/
def Controller.bayFallsSilent (b : Bay) (c : Controller) : Controller :=
  let o := c.outlet b
  if o.state = .UNMAPPED ∨ o.state = .OFFLINE then c
  else
    let c1 := c.updOutlet b (Outlet.fallSilent c.inForce.tRes)
    let c2 := c1.depart b
    if o.state = .QUEUED then c2.withdraw b else c2

/-- The silence of a node reaches every bay mapped to it (R50). -/
def Controller.nodeFallsSilent (a : Addr) (c : Controller) : Controller :=
  (forBays (fun b c => if (c.bay b).map.valid && (c.bay b).map.node == a then c.bayFallsSilent b else c) c).judgeRelease

/-- A state before silence that a link loss keeps: DISABLED or LOCKED (R52). -/
def keptBeforeSilence : Option OutletState → Option OutletState
  | some .DISABLED => some .DISABLED
  | some .LOCKED => some .LOCKED
  | _ => none

/-- An outlet without a session at a link loss (R52). -/
def Outlet.loseLink (o : Outlet) : Outlet :=
  { o.noTimers with
    state := .OFFLINE
    offlineCause := if o.state = .OFFLINE ∧ o.offlineCause = some .MAP_MISMATCH then some .MAP_MISMATCH else some .LINK
    beforeSilence := keptBeforeSilence (if o.state = .OFFLINE then o.beforeSilence else some o.state)
    inForce := 0, pending := none, raiseReleased := false }

/-- One mapped bay at an entry of the link to DOWN, IDLE or DISCOVERING (R52). A held session ends with LINK_DOWN. -/
def Controller.bayLosesLink (b : Bay) (c : Controller) : Controller :=
  if (c.bay b).map.valid then
    (((if (c.outlet b).session.isSome then c.endSession b .LINK_DOWN .OFFLINE else c).updOutlet b Outlet.loseLink).depart b)
  else c

/-- Every mapped bay at a link loss (R52), and the release judged (R54). -/
def Controller.linkLoss (c : Controller) : Controller := (forBays Controller.bayLosesLink c).judgeRelease

/-- A bay whose map entry a commit changed (R31). -/
def Outlet.remap (valid : Bool) (o : Outlet) : Outlet :=
  { o.noTimers with
    state := if valid then .OFFLINE else .UNMAPPED
    offlineCause := if valid then some .NOT_SEEN else none
    beforeSilence := none, baseline := none, pending := none, raiseReleased := false, faultList := [], inForce := 0 }

/-! ### Round results (R41) -/

/-- The effect of an outcome on an outlet's state (the table of R41). -/
def Outlet.takeOutcome (s : Settings) (now : Nat) (inWindow : Bool) (outcome : Option PassOutcome) (o : Outlet) : Outlet :=
  match outcome, o.state with
  | some .ADMITTED, .QUEUED =>
    { o with state := .STARTING, session := o.session.map fun ss => { ss with admitted := true, startTime := some now }
             startTimer := some { Timer.start (s.tStart * 1000) with frozenByWindow := inWindow } }
  | some .MINIMUM, .PAUSED =>
    if o.reasons = .budgetAlone then { o with state := .CHARGING, reasons := .empty, pauseMinimum := none } else o
  | some .BUDGET, .STARTING | some .BUDGET, .CHARGING =>
    { o with state := .PAUSED, reasons := o.reasons.put .BUDGET true, startTimer := none
             pauseMinimum := some (Timer.start (s.tPmin * 1000)) }
  | _, _ => o

/-- The result for one bay: its outcome, then its computed allocation as the new target (R41, R53). Unmanaged and OFFLINE outlets take
none. The release is judged by the caller, after all marks (R54). -/
def Controller.takeResult (b : Bay) (alloc : Nat) (outcome : Option PassOutcome) (c : Controller) : Controller :=
  if !c.managed b || (c.outlet b).state == .OFFLINE then c
  else (c.updOutlet b (Outlet.takeOutcome c.inForce c.run.siteTime (c.link.state == .PASS_THROUGH) outcome)).markTarget b alloc

/-! ### SET_ACK echoes (R55) -/

/-- An outlet takes the echo of a SETPOINT: it becomes the in-force allocation, and the pending target is marked again (R55). -/
def Outlet.takeEcho (echo : Int) (o : Outlet) : Outlet :=
  match o.pending with
  | none => { o with inForce := echo }
  | some p => { o with inForce := echo, pending := pendingFor echo p.target
                       raiseReleased := false }

/-- A SET_ACK for a bay's outlet: the echo, a notice at a mismatch, and the release judged (R54, R55). -/
def Controller.outletEcho (b : Bay) (sent echo : Int) (c : Controller) : Controller :=
  let c1 := (c.updOutlet b (Outlet.takeEcho echo)).judgeRelease
  if echo ≠ sent then c1.raise .outletAckMismatch else c1

/-! ### Answers to PAID_AUTH and CUSTOMER_STOP (R38) -/

/-- Whether new funding is refused SITE_BUSY: the setup flag is set or STOP_ALL is asserted (R19, R38, R61). -/
def Controller.siteBusy (c : Controller) : Bool := c.settings.setupFlag || c.lines.stopAll.qualified

/-- An accepted PAID_AUTH during a funding wait (R46). -/
def Controller.switchToPaid (b : Bay) (cap : Nat) (c : Controller) : Controller :=
  let c1 := match (c.outlet b).session.bind (·.boundSlot) with
    | some k => c.unbind k false .receiptUnbind
    | none => c
  (c1.updOutlet b fun o =>
    { o with session := o.session.map fun ss => { ss with kind := .PAID, cap := cap, paidEnergy := 0 }
             fundingWait := none }).removeReason b .FUNDING

/-- PAID_AUTH for a bay: the answer and the effect, the first that applies (R38). In STOPPED no session can open (R197), and SITE_BUSY
takes the place of the ACCEPTED that would open one (log 11). -/
def Controller.paidAuthAt (b : Bay) (cap : Nat) (c : Controller) : Answer × Controller :=
  let o := c.outlet b
  if o.state = .METER_ONLY then (.NOT_MANAGED, c)
  else if c.siteBusy then (.SITE_BUSY, c)
  else if o.state = .PAUSED ∧ o.reasons.funding = true ∧ o.fundingWait.isSome = true then (.ACCEPTED, c.switchToPaid b cap)
  else if o.state = .PLUGGED then if c.run.running then (.ACCEPTED, c.openSession b .PAID none cap) else (.SITE_BUSY, c)
  else if o.state.inSession then (.ALREADY_FUNDED, c)
  else (.NOT_READY, c)

/-- CUSTOMER_STOP for a bay (R38). -/
def Controller.customerStopAt (b : Bay) (c : Controller) : Answer × Controller :=
  let o := c.outlet b
  if o.state = .METER_ONLY ∨ o.state = .UNMAPPED then (.NOT_MANAGED, c)
  else if o.state.inSession && o.session.isSome then (.ACCEPTED, c.endSession b .CUSTOMER_STOP .ENDING)
  else (.NOT_READY, c)

/-! ### Outlet commands (section 2.11) -/

/-- The refusals that come before a command's own checks (R56). -/
def Controller.outletRefusal (c : Controller) (b : Bay) : Option Status :=
  let o := c.outlet b
  if !c.run.running then some .NOT_RUNNING
  else if o.state = .UNMAPPED ∨ o.state = .METER_ONLY then some .NOT_MANAGED
  else if o.state = .OFFLINE ∧ (c.bay b).map.managed = false then some .NOT_MANAGED
  else none

/-- An outlet command on a bay: the refusals of R56, then its own checks, then its effect. `own` answers a refusal, or the new state
with the fields of the response. -/
def outletCommand (cmd bay : Nat) (own : Bay → Controller → Except Status (Controller × Body)) (s : State) :
    Host.Outcome State Fault Refusal :=
  command cmd (fun c => match bayOf? bay with
    | none => c.refuse cmd .BAD_PARAM
    | some b => match c.outletRefusal b with
      | some status => c.refuse cmd status
      | none => match own b c with
        | .error status => c.refuse cmd status
        | .ok (c', body) => c'.ok cmd body) s

/-- The age of a bay's latest reading in ms (R57). -/
def Controller.readingAge (c : Controller) (b : Bay) : Option Nat :=
  if (c.reading b).isSome then (c.node (c.bay b).map.node).readings.map fun arr => c.run.ms - arr.stamp else none

/-- OUTLET_READ (R57). R56's exception of OUTLET_READ is taken to cover the whole of its NOT_MANAGED line, so a bay that is OFFLINE with an
unmanaged map entry is read too (log 37). -/
def execOutletRead (bay : Nat) (s : State) : Host.Outcome State Fault Refusal :=
  command 0x20 (fun c => match bayOf? bay with
    | none => c.refuse 0x20 .BAD_PARAM
    | some b =>
      let c' := { c with outlets := { c.outlets with entries := c.outlets.entries.set b { c.outlet b with changed := false } } }
      c'.ok 0x20 (.outlet { bay := b, settings := c.bay b, outlet := c.outlet b, reading := c.reading b, age := c.readingAge b })) s

/-- OUTLET_ENABLE's own part (R58). -/
def Controller.enableOutlet (b : Bay) (c : Controller) : Except Status (Controller × Body) :=
  let o := c.outlet b
  if o.state = .DISABLED then .ok (c.enter b (c.plugState b), .none)
  else if o.state = .OFFLINE ∧ o.beforeSilence = some .DISABLED then
    .ok (c.updOutlet b fun o => { o with beforeSilence := none }, .none)
  else .error .WRONG_STATE

/-- OUTLET_ENABLE (R58). -/
def execOutletEnable (bay : Nat) (s : State) : Host.Outcome State Fault Refusal :=
  outletCommand 0x21 bay Controller.enableOutlet s

/-- An outlet taken out of service: a held session ends with COMMAND, the hold-off timer is cleared (R58); the overdraw timer by R47
(log 18). -/
def Controller.disableOutlet (b : Bay) (c : Controller) : Except Status (Controller × Body) :=
  match (c.outlet b).acting with
  | .DISABLED | .LOCKED => .error .WRONG_STATE
  | _ =>
    let c1 := (c.endSession b .COMMAND .DISABLED).updOutlet b fun o => { o.put .DISABLED with holdOff := none, overdraw := none }
    .ok ((c1.markTarget b 0).judgeRelease, .none)

/-- OUTLET_DISABLE (R58). -/
def execOutletDisable (bay : Nat) (s : State) : Host.Outcome State Fault Refusal :=
  outletCommand 0x22 bay Controller.disableOutlet s

/-- OUTLET_STOP's own part (R59). -/
def Controller.stopOutlet (b : Bay) (c : Controller) : Except Status (Controller × Body) :=
  let o := c.outlet b
  if o.session.isSome then .ok (c.endSession b .COMMAND o.endingOrPlugged, .none) else .error .WRONG_STATE

/-- OUTLET_STOP (R59). -/
def execOutletStop (bay : Nat) (s : State) : Host.Outcome State Fault Refusal :=
  outletCommand 0x23 bay Controller.stopOutlet s

/-- OUTLET_CLEAR's own part (R60). -/
def Controller.clearOutlet (b : Bay) (c : Controller) : Except Status (Controller × Body) :=
  let o := c.outlet b
  if o.state = .LOCKED then .ok ((c.updOutlet b fun o => { o with faultList := [] }).enter b (c.plugState b), .none)
  else if o.state = .OFFLINE ∧ o.beforeSilence = some .LOCKED then
    .ok (c.updOutlet b fun o => { o with faultList := [], beforeSilence := none }, .none)
  else .error .WRONG_STATE

/-- OUTLET_CLEAR (R60). -/
def execOutletClear (bay : Nat) (s : State) : Host.Outcome State Fault Refusal :=
  outletCommand 0x24 bay Controller.clearOutlet s

/-- OUTLET_SERVICE_START's own part (R61). -/
def Controller.serviceStart (cap : Nat) (b : Bay) (c : Controller) : Except Status (Controller × Body) :=
  if c.siteBusy then .error .SITE_BUSY
  else if (c.outlet b).state ≠ .PLUGGED then .error .WRONG_STATE
  else
    let c' := c.openSession b .SERVICE none cap
    .ok (c', .outletState (c'.outlet b).state)

/-- OUTLET_SERVICE_START (R61). -/
def execOutletServiceStart (bay cap : Nat) (s : State) : Host.Outcome State Fault Refusal :=
  outletCommand 0x25 (if cap ≤ u32Max then bay else 0) (Controller.serviceStart cap) s

/-! ### Expiries of outlet timers

Each is taken whenever its timer is present and runs (log 2). -/

/-- OVERDRAW_TIMER_EXPIRY (R47). -/
def execOverdrawTimerExpiry (bay : Bay) (s : State) : Host.Outcome State Fault Refusal :=
  event (fun c => if timerRuns (c.outlet bay).overdraw then c.fault bay .OVERDRAW else c) s

/-- START_TIMER_EXPIRY (R42). -/
def execStartTimerExpiry (bay : Bay) (s : State) : Host.Outcome State Fault Refusal :=
  event (fun c => if timerRuns (c.outlet bay).startTimer then c.fault bay .START_TIMEOUT else c) s

/-- FUNDING_WAIT_EXPIRY (R46). -/
def execFundingWaitExpiry (bay : Bay) (s : State) : Host.Outcome State Fault Refusal :=
  event (fun c => if timerRuns (c.outlet bay).fundingWait then c.endSession bay .FUNDING_ENDED .ENDING else c) s

/-- HOLD_OFF_EXPIRY (R49). -/
def execHoldOffExpiry (bay : Bay) (s : State) : Host.Outcome State Fault Refusal :=
  event (fun c =>
    if timerRuns (c.outlet bay).holdOff then
      (c.updOutlet bay fun o => { o with holdOff := none }).enter bay (c.plugState bay)
    else c) s

/-- PAUSE_MINIMUM_EXPIRY (R44). -/
def execPauseMinimumExpiry (bay : Bay) (s : State) : Host.Outcome State Fault Refusal :=
  event (fun c =>
    if timerRuns (c.outlet bay).pauseMinimum then c.updOutlet bay fun o => { o with pauseMinimum := none } else c) s

/-- SILENCE_HOLD_EXPIRY (R51): the held session ends with LINK_LOSS, the state before silence and the frozen timers go. -/
def execSilenceHoldExpiry (bay : Bay) (s : State) : Host.Outcome State Fault Refusal :=
  event (fun c =>
    if timerRuns (c.outlet bay).silenceHold then
      (c.endSession bay .LINK_LOSS .OFFLINE).updOutlet bay fun o => { o.noTimers with beforeSilence := none }
    else c) s

end Sys2Proof.Machine
end

