-- ==== Sys2Proof/Machine/Lines.lean ====
section
/-! DEFINITION. Site lines, the stop-all line and the site hold (chapter 8). -/

namespace Sys2Proof.Machine

/-- A line's record. -/
def Lines.get (l : Lines) : LineId → Line
  | .gl0 => l.gl0
  | .gl1 => l.gl1
  | .gl2 => l.gl2
  | .stopAll => l.stopAll
  | .keylock => l.keylock

/-- A line's record replaced. -/
def Lines.set (l : Lines) (i : LineId) (v : Line) : Lines :=
  match i with
  | .gl0 => { l with gl0 := v }
  | .gl1 => { l with gl1 := v }
  | .gl2 => { l with gl2 := v }
  | .stopAll => { l with stopAll := v }
  | .keylock => { l with keylock := v }

/-- A level on the wire: its qualification runs for 20 ms while it differs from the qualified level, and an excursion that returns is
not taken (R154). -/
def Line.change (active : Bool) (l : Line) : Line :=
  { l with
    wire := active
    left := if active = l.qualified then none
            else if l.wire = active then some (l.left.getD Config.qualifyMs)
            else some Config.qualifyMs }

/-- The wire follows its level while the controller takes no events; nothing qualifies (log 8). -/
def Line.follow (active : Bool) (l : Line) : Line := { l with wire := active }

/-- The level on the wire becomes the qualified level (R154). -/
def Line.qualify (l : Line) : Line := { l with qualified := l.wire, left := none }

/-- Whether a line has a new level to qualify. -/
def Line.differs (l : Line) : Bool := l.wire != l.qualified

/-- LINE_CHANGE (R154). -/
def execLineChange (line : LineId) (active : Bool) (s : State) : Host.Outcome State Fault Refusal :=
  onController (fun c =>
    let l := c.lines.get line
    { c with lines := c.lines.set line (if c.taking then l.change active else l.follow active) }) s

/-- A line is qualified at its new level, and what that level does follows (R154, log 2). -/
def Controller.qualify (line : LineId) (f : Controller → Controller) (c : Controller) : Controller :=
  if (c.lines.get line).differs then f { c with lines := c.lines.set line (c.lines.get line).qualify } else c

/-- The line of a grid-limit number. -/
def gridLine (i : Fin 3) : LineId := if i = 0 then .gl0 else if i = 1 then .gl1 else .gl2

/-- GRID_LIMIT_QUALIFIED: the next round reads the level (R154, R155). -/
def execGridLimitQualified (line : Fin 3) (s : State) : Host.Outcome State Fault Refusal :=
  event (Controller.qualify (gridLine line) id) s

/-- A session ends at STOP_ALL or at STOP: ENDING if admitted, otherwise PLUGGED (R40, R157, R197). -/
def Controller.endForStop (reason : EndReason) (b : Bay) (c : Controller) : Controller :=
  c.endSession b reason (c.outlet b).endingOrPlugged

/-- STOP_ASSERTED: every session ends with STOP_INPUT (R157), in ascending bay number, so the notices of one pedestal join its list in that
order (log 41). -/
def execStopAsserted (s : State) : Host.Outcome State Fault Refusal :=
  event (fun c =>
    if c.lines.stopAll.wire then
      c.qualify .stopAll fun c => (forBays (Controller.endForStop .STOP_INPUT) c).raise .inputStopAsserted
    else c) s

/-- STOP_RELEASED: no session is restarted (R159). -/
def execStopReleased (s : State) : Host.Outcome State Fault Refusal :=
  event (fun c =>
    if c.lines.stopAll.wire then c else c.qualify .stopAll fun c => c.raise .inputStopReleased) s

/-- KEYLOCK_QUALIFIED (R164). -/
def execKeylockQualified (opened : Bool) (s : State) : Host.Outcome State Fault Refusal :=
  event (fun c =>
    if c.lines.keylock.wire = opened then
      c.qualify .keylock fun c => c.raise (if opened then .inputKeyOpened else .inputKeyClosed)
    else c) s

/-! ### The site hold (R160, R161) -/

/-- The bays that PAUSE_ALL adds SITE to: they hold a session without it (R160). -/
def Controller.siteAdds (c : Controller) : List Bay :=
  baysWhere fun b => (c.outlet b).session.isSome && !(c.outlet b).reasons.site

/-- The bays that RESUME_ALL removes SITE from (R161). -/
def Controller.siteRemoves (c : Controller) : List Bay := baysWhere fun b => (c.outlet b).reasons.site

/-- The site hold replaced. -/
def Controller.putSiteHold (v : Bool) (c : Controller) : Controller := { c with outlets := { c.outlets with siteHold := v } }

/-- PAUSE_ALL (R160). -/
def execPauseAll (s : State) : Host.Outcome State Fault Refusal :=
  command 0x32 (fun c =>
    (forBays (fun b c => c.addReason b .SITE) (c.putSiteHold true)).ok 0x32 (.count c.siteAdds.length)) s

/-- RESUME_ALL (R161). The bays are taken in ascending number, so sessions that were opened under the hold, and have no queue entry yet,
join the queue in that order (log 41). -/
def execResumeAll (s : State) : Host.Outcome State Fault Refusal :=
  command 0x33 (fun c =>
    (forBays (fun b c => c.removeReason b .SITE) (c.putSiteHold false)).ok 0x33 (.count c.siteRemoves.length)) s

end Sys2Proof.Machine
end

