-- ==== Sys2Proof/Machine/Rounds.lean ====
section
/-! DEFINITION. The allocation round (chapter 3, R64 to R87; the bank of R155 and R156), and POOL_READ. -/

namespace Sys2Proof.Machine

/-! ### Inputs (R68, R69, R155) -/

/-- The bank number that the qualified levels of GL0, GL1 and GL2 select (R155). -/
def Lines.bank (l : Lines) : Nat := l.gl0.qualified.toNat + 2 * l.gl1.qualified.toNat + 4 * l.gl2.qualified.toNat

/-- The stored value of a bank number (R155). -/
def Settings.lImp (s : Settings) (bank : Nat) : Nat := if h : bank < 8 then s.banks.get ⟨bank, h⟩ else 0

/-- A reading as a round uses it: its age and freshness, and the value it gives when stale or missing (R68, R87). -/
def Controller.use (c : Controller) (k : NodeKind) (value : Arrival → Int) (stale : Option Int → Option Int) : ReadingUse :=
  match c.arrival k with
  | none => { value := stale none, age := none, fresh := false }
  | some arr =>
    if c.fresh arr then { value := some (value arr), age := some (c.age arr), fresh := true }
    else { value := stale (some (value arr)), age := some (c.age arr), fresh := false }

/-- The supply meter's grid power. -/
def Arrival.gridPower (arr : Arrival) : Int :=
  match arr.body with
  | .supplyMeter power _ => power
  | _ => 0

/-- The battery's power. -/
def Arrival.batteryPower (arr : Arrival) : Int := (arr.battery.map (·.power)).getD 0

/-- ΣP_out over the bays with a valid map entry that satisfy a test (R69). -/
def Controller.powerOut (c : Controller) (p : Bay → Bool) : Int :=
  ((baysWhere fun b => (c.bay b).map.valid && p b).map fun b => ((c.reading b).map (·.measured)).getD 0).sum

/-- R_sil: the in-force allocations of managed OFFLINE outlets with a silence hold timer (R69). -/
def Controller.silentPower (c : Controller) : Int :=
  ((baysWhere fun b => c.managed b && (c.outlet b).state == .OFFLINE && (c.outlet b).silenceHold.isSome).map fun b =>
    (c.outlet b).inForce).sum

/-! ### Shop load and pool (R70, R71) -/

/-- The shop load estimate of a round (R70); `s` is the raw shop load, formed in NORMAL mode only. -/
def shopLoad (firstRound : Bool) (sPrev : Int) (decay : Nat) (s : Option Int) : Int :=
  match s with
  | none => sPrev
  | some v => if firstRound then v else max v (sPrev - decay)

/-- C_top: the feeder limit, and C_safe in SAFE mode (R71). -/
def poolTop (normal : Bool) (cCab cSafe : Nat) (u rSil : Int) : Int :=
  if normal then max 0 ((cCab : Int) - u - rSil) else min (max 0 ((cCab : Int) - u - rSil)) cSafe

/-- C: C_raw clamped to 0..C_top (R71). -/
def poolOf (cRaw cTop : Int) : Int := clampInt 0 cTop cRaw

/-- The record of a round as its inputs, estimate and pool make it, before the walk (steps 1 and 3 of R66). In a SAFE round P_grid is not
used (R68), and its value is recorded as absent, with the age of the reading that is not fresh (log 46). -/
def Controller.roundRecord (c : Controller) : RoundRecord :=
  let s := c.inForce
  let bank := c.lines.bank
  let pGrid := c.use .SUPPLY_METER Arrival.gridPower fun _ => none
  let pPv := c.use .CANOPY Arrival.canopyPower fun _ => some 0
  let pPvRaw := c.use .CANOPY Arrival.canopyPower fun held => some (held.getD 0)
  let pBat := c.use .BATTERY Arrival.batteryPower fun held => some (held.getD 0)
  let sumOut := c.powerOut fun _ => true
  let u := c.powerOut fun b => !(c.bay b).map.managed
  let rSil := c.silentPower
  let raw := if pGrid.fresh then some (clampInt 0 1000000 (pGrid.value.getD 0 + pPvRaw.value.getD 0 + pBat.value.getD 0 - sumOut))
             else none
  let sEst := shopLoad c.pool.firstRound c.pool.sPrev s.decay raw
  let cRaw := (s.lImp bank : Int) + pPv.value.getD 0 + c.storage.bOff - sEst - s.guardBand - u - rSil
  let cTop := poolTop pGrid.fresh s.cCab s.cSafe u rSil
  { time := c.run.siteTime, normal := pGrid.fresh, bank := bank, lImp := s.lImp bank, pGrid := pGrid, pPv := pPv, pPvRaw := pPvRaw
    pBat := pBat, sumOut := sumOut, u := u, rSil := rSil, guardBand := s.guardBand, cCab := s.cCab, cSafe := s.cSafe
    decay := s.decay, stagger := s.stagger, s := raw, sEst := sEst, firstUsed := pGrid.fresh && c.pool.firstRound
    bOff := c.storage.bOff, cRaw := cRaw, cTop := cTop, c := poolOf cRaw cTop, outcomes := Table.replicate 24 none }

/-! ### First pass (R77 to R79) -/

/-- A place on the first-pass list: bay, effective priority, running outlet or candidate, whether it is STARTING, its minimum m (R77). -/
structure PassEntry where
  bay : Bay
  priority : Nat
  running : Bool
  starting : Bool
  minimum : Nat
  deriving DecidableEq, Repr

/-- Whether an outlet stands in the running set (R77). -/
def Controller.runs (c : Controller) (b : Bay) : Bool :=
  let o := c.outlet b
  c.managed b && (o.state == .STARTING || o.state == .CHARGING
    || (o.state == .PAUSED && o.reasons == .budgetAlone && o.pauseMinimum.isNone))

/-- A bay's place on the list. -/
def Controller.passEntry (c : Controller) (running : Bool) (b : Bay) : PassEntry :=
  { bay := b, priority := c.priority b, running := running, starting := (c.outlet b).state == .STARTING, minimum := (c.bay b).pMin }

/-- A place put before the first place of the same or a lower rank. -/
def passInsert (e : PassEntry) : List PassEntry → List PassEntry
  | [] => [e]
  | x :: xs => if e.priority ≤ x.priority then e :: x :: xs else x :: passInsert e xs

/-- Places ordered by effective priority, equal ones kept in the order they had. -/
def passSort (l : List PassEntry) : List PassEntry := l.foldr passInsert []

/-- The first-pass list: at equal priority running outlets by bay, then candidates in queue order (R77). -/
def Controller.firstPassList (c : Controller) : List PassEntry :=
  passSort ((baysWhere c.runs).map (c.passEntry true)
    ++ ((c.pool.queue.filter (·.active)).map (·.bay)).map (c.passEntry false))

/-- The outlets in STARTING, and those OFFLINE with STARTING before silence (R79). -/
def Controller.startCount (c : Controller) : Nat :=
  (baysWhere fun b => (c.outlet b).acting == .STARTING).length

/-- The walk of the first pass with the quantity Q and the start count; each bay's outcome, and the Q left (R78, R79). -/
def walk (stagger : Nat) : Nat → Nat → List PassEntry → List (PassEntry × PassOutcome) × Nat
  | q, _, [] => ([], q)
  | q, n, e :: es =>
    if e.running then
      if e.minimum ≤ q then
        let r := walk stagger (q - e.minimum) n es
        ((e, .MINIMUM) :: r.1, r.2)
      else
        let r := walk stagger q (if e.starting then n - 1 else n) es
        ((e, .BUDGET) :: r.1, r.2)
    else if e.minimum ≤ q ∧ n < stagger then
      let r := walk stagger (q - e.minimum) (n + 1) es
      ((e, .ADMITTED) :: r.1, r.2)
    else
      let r := walk stagger q n es
      ((e, .WAITING) :: r.1, r.2)

/-! ### Second pass (R80, R81) -/

/-- A bay's extra: its latest request clamped to m..P_max, less m; 0 without a reading (R80). -/
def Controller.extra (c : Controller) (b : Bay) : Nat :=
  match c.reading b with
  | none => 0
  | some r => (clampInt (c.bay b).pMin (c.bay b).pMax r.request - (c.bay b).pMin).toNat

/-- A bay with its extra, put in order of extra, ties by bay (R81). -/
def extraInsert (x : Bay × Nat) : List (Bay × Nat) → List (Bay × Nat)
  | [] => [x]
  | y :: ys => if x.2 < y.2 ∨ (x.2 = y.2 ∧ x.1 ≤ y.1) then x :: y :: ys else y :: extraInsert x ys

/-- The bays sorted ascending by number. -/
def bayInsert (x : Bay) : List Bay → List Bay
  | [] => [x]
  | y :: ys => if x ≤ y then x :: y :: ys else y :: bayInsert x ys

/-- The last step of a water-fill: the share for each, and 1 W more for the first ones in ascending bay number (R81). -/
def shareOut (shareW remainder : Nat) (bays : List Bay) : List (Bay × Nat) :=
  (bays.foldr bayInsert []).zipIdx.map fun x => (x.1, if x.2 < remainder then shareW + 1 else shareW)

/-- The water-fill of a group sorted by extra (R81). -/
def waterFill : Nat → List (Bay × Nat) → List (Bay × Nat)
  | _, [] => []
  | q, x :: xs =>
    let n := xs.length + 1
    if x.2 ≤ q / n then x :: waterFill (q - x.2) xs
    else shareOut (q / n) (q - q / n * n) ((x :: xs).map (·.1))

/-- The sum of a group's extras. -/
def extrasSum (g : List (Bay × Nat)) : Nat := (g.map (·.2)).sum

/-- A level's group shares Q: its extras whole when Q covers them, otherwise a water-fill that takes Q to 0 W (R80). -/
def shareLevel (q : Nat) (g : List (Bay × Nat)) : List (Bay × Nat) × Nat :=
  if extrasSum g ≤ q then (g, q - extrasSum g) else (waterFill q (g.foldr extraInsert []), 0)

/-- The second pass over the priority levels given, ascending (R80). -/
def secondPass (group : Nat → List (Bay × Nat)) : Nat → List Nat → List (Bay × Nat)
  | _, [] => []
  | q, level :: levels =>
    let r := shareLevel q (group level)
    r.1 ++ secondPass group r.2 levels

/-- An outcome that gives the minimum. -/
def PassOutcome.given : PassOutcome → Bool
  | .MINIMUM | .ADMITTED => true
  | .BUDGET | .WAITING => false

/-- The value found for a bay in a list of pairs. -/
def bayValue {α : Type} (b : Bay) (l : List (Bay × α)) : Option α := (l.find? fun x => x.1 == b).map (·.2)

/-- Outcomes and computed allocations of a round with the pool C (R78 to R82). -/
def Controller.allocate (c : Controller) (pool : Nat) : Table (Option PassOutcome) 24 × Table Nat 24 :=
  let walked := walk c.inForce.stagger pool c.startCount c.firstPassList
  let given := walked.1.filter fun x => x.2.given
  let group := fun level => (given.filter fun x => x.1.priority == level).map fun x => (x.1.bay, c.extra x.1.bay)
  let extras := secondPass group walked.2 (List.range 32)
  (Table.ofFn fun b => bayValue b (walked.1.map fun x => (x.1.bay, x.2)),
   Table.ofFn fun b => match bayValue b (given.map fun x => (x.1.bay, x.1.minimum)) with
     | some m => m + (bayValue b extras).getD 0
     | none => 0)

/-! ### The round (R66) -/

/-- The bank of a round is kept; a change from the kept one raises the INPUT notice (R156). -/
def Controller.bankStep (c : Controller) : Controller :=
  let bank := c.lines.bank
  let c' := { c with pool := { c.pool with keptBank := some bank } }
  if c.pool.keptBank.isSome && c.pool.keptBank != some bank then c'.raise .inputBank else c'

/-- Step 2: the reserve window, the permission and B_off (R89 to R92). -/
def Controller.permissionStep (c : Controller) : Controller :=
  c.updStorage fun st =>
    (st.selectWindow c.run.timeValid c.run.siteTime c.inForce.reserve).evaluate c.inForce c.clearBattery

/-- Step 6: admitted bays leave the queue, the computed allocations stand, and the outlet supervisor takes the whole result; the release
is judged after all marks (R41, R54, R82). -/
def Controller.resultStep (outcomes : Table (Option PassOutcome) 24) (allocs : Table Nat 24) (c : Controller) : Controller :=
  let c1 := c.putQueue (c.pool.queue.filter fun e => outcomes.get e.bay != some .ADMITTED)
  let c2 := { c1 with pool := { c1.pool with computed := allocs } }
  (forBays (fun b c => c.takeResult b (allocs.get b) (outcomes.get b)) c2).judgeRelease

/-- Step 9 and the history: S_prev, the first-round flag, the record and the round count (R70, R87). -/
def Controller.recordStep (r : RoundRecord) (c : Controller) : Controller :=
  { c with pool := { c.pool with
      sPrev := r.sEst, firstRound := c.pool.firstRound && !r.normal, lastRound := some r
      roundCount := satAdd u32Max c.pool.roundCount 1 } }

/-- One allocation round, whole (R66). -/
def Controller.round (c : Controller) : Controller :=
  let c1 := c.bankStep.permissionStep
  let r := c1.roundRecord
  let alloc := c1.allocate r.c.toNat
  let c2 := c1.resultStep alloc.1 alloc.2
  let sumA : Int := (alloc.2.data.sum : Nat)
  let c3 := c2.storageStep sumA r.u r.sEst r.lImp (r.pPv.value.getD 0)
  let c4 := c3.attributionStep (r.pPv.value.getD 0) r.sEst
  c4.recordStep { r with outcomes := alloc.1 }

/-- The round timer starts with T_round (R64). -/
def Controller.startRoundTimer (c : Controller) : Controller :=
  { c with pool := { c.pool with roundTimer := some (c.inForce.tRound * 1000) } }

/-- ALLOCATION_ROUND: an expiry of the round timer, taken while the timer is present (log 2); it restarts after the round (R64). -/
def execAllocationRound (s : State) : Host.Outcome State Fault Refusal :=
  event (fun c => if c.pool.roundTimer.isSome then c.round.startRoundTimer else c) s

/-- The pool at STOP and at the entry of the link to DOWN (R85). -/
def Pool.halt (p : Pool) : Pool :=
  { p with roundTimer := none, queue := [], computed := Table.replicate 24 0, firstRound := true }

/-! ### POOL_READ (R87) -/

/-- POOL_READ (R87). The battery setpoint and the canopy cap are read from the delivery records, "as last computed": 0 W before the first
round, and 0 W after STOP (log 43). -/
def execPoolRead (s : State) : Host.Outcome State Fault Refusal :=
  command 0x30 (fun c => c.ok 0x30 (.pool
    { roundCount := c.pool.roundCount, round := c.pool.lastRound, managed := Table.ofFn c.managed, computed := c.pool.computed
      setpoint := c.storage.battery.computed, cap := c.storage.canopy.computed
      queue := c.pool.queue.map fun e => { entry := e, priorityNow := c.priority e.bay } })) s

end Sys2Proof.Machine
end

