-- ==== Sys2Proof/Machine/Link.lean ====
section
/-! DEFINITION. The link controller (chapter 6): exchanges, entries to the link states, discovery, the poll cycle, silence and collapse, NODE_READ and LINK_RESTART; the grant and the end of a pass-through window (R147, R153). -/

namespace Sys2Proof.Machine

/-! ### Sending and the exchange (R118) -/

/-- The link replaced. -/
def Controller.updLink (f : Link → Link) (c : Controller) : Controller := { c with link := f c.link }

/-- An exchange begins: its frame is being sent, T_reply is read (R118). -/
def Controller.send (f : Sent) (c : Controller) : Controller :=
  c.updLink fun l => { l with exchange := some { sent := f, tReply := c.inForce.tReply, waiting := none } }

/-- The frame whose reply is awaited at this moment. -/
def Link.awaited (l : Link) : Option Sent :=
  match l.exchange with
  | some ex => if ex.waiting.isSome then some ex.sent else none
  | none => none

/-- A frame that ends its exchange when it has been sent: ANSWER and NOTICE_TO_NODE (R118, R120). -/
def Sent.unanswered : Sent → Bool
  | .answer .. | .notice .. => true
  | _ => false

/-- The GRANT output: driven at each report window (R134, R204), until the ANSWER to its REPORT begins, where there is one (log 42). It
stands as the exchange does while the part takes no events (log 8). -/
def Link.grantOut (l : Link) : Bool :=
  match l.exchange with
  | some ex => ex.sent == .window
  | none => false

/-- The LINK_DIR output: the controller sends (R204). It stands as the exchange does while the part takes no events (log 8). -/
def Link.driving (l : Link) : Bool :=
  (match l.exchange with
   | some ex => ex.waiting.isNone
   | none => false)
  || (match l.window.raw with
      | some raw => raw.waiting.isNone
      | none => false)

/-! ### Entries to the link states -/

/-- What every entry to DISCOVERING, DOWN or IDLE leaves of the link: no exchange, nothing waiting, no window, the expired flag clear
(R145). -/
def Link.quiet (st : LinkState) (l : Link) : Link :=
  { l with state := st, exchange := none, stage := .polled, sentOutlets := [], restartWaiting := false, stopWaiting := false
           finalCycle := false, window := { l.window with phase := .NONE, timer := none, raw := none, expired := false
                                                          ending := none } }

/-- The node table emptied (R124). -/
def Link.emptied (l : Link) : Link := { l with nodes := Table.replicate 30 .absent }

/-- Entry to IDLE, with STOP's response (R124, R142, R197; R52, R101). -/
def Controller.enterIdle (c : Controller) : Controller :=
  let c1 := (c.updLink fun l => (l.quiet .IDLE).emptied).linkLoss
  (c1.updStorage Storage.loseLink).answerLate 0x61 .OK .none

/-- Entry to DOWN (R140). -/
def Controller.enterDown (c : Controller) : Controller :=
  let c1 := ((c.updLink (Link.quiet .DOWN)).setFault .LINK_DOWN).raise .linkDown
  let c2 := c1.linkLoss
  { c2 with pool := c2.pool.halt, storage := c2.storage.loseLink }

/-- Entry to DISCOVERING: the outlets lose the link when it was RUNNING; the table is emptied, and address 1 is asked (R123 to R125). -/
def Controller.enterDiscovering (c : Controller) : Controller :=
  let wasRunning := c.link.state == .RUNNING
  let c1 := c.updLink fun l => (l.quiet .DISCOVERING).emptied
  (if wasRunning then c1.linkLoss else c1).send (.identReq 0)

/-! ### The poll cycle (R128 to R136) -/

/-- A window opens (R134). -/
def Controller.openWindow (c : Controller) : Controller :=
  (c.updLink fun l => { l with windows := l.windows + 1 }).send .window

/-- Step 4 of a cycle begins: every report-used flag is cleared (R128). -/
def Controller.startWindows (c : Controller) : Controller :=
  (c.updLink fun l => { l with nodes := l.nodes.map fun n => { n with reportUsed := false }, windows := 0, reports := 0 }).openWindow

/-- The address after another, with 30 followed by 1 (R133). -/
def probeNext (a : Addr) : Addr := if h : a.val + 1 < 30 then ⟨a.val + 1, h⟩ else 0

/-- The first ABSENT address from the pointer upward, with 30 followed by 1 (R133). -/
def Link.probeTarget (l : Link) : Option Addr :=
  match l.nodes.lowest fun i n => decide (l.probe.val ≤ i) && n.state == .ABSENT with
  | some a => some a
  | none => l.nodes.lowest fun _ n => n.state == .ABSENT

/-- Step 3 of a cycle: the attach probe, or at once the windows when no entry is ABSENT (R133). -/
def Controller.probeStep (c : Controller) : Controller :=
  match c.link.probeTarget with
  | some a => (c.updLink fun l => { l with probe := probeNext a }).send (.identReq a)
  | none => c.startWindows

/-- The all-silent count after the visits of a cycle (R139). -/
def Link.allSilentAfter (l : Link) : Nat :=
  if l.nodes.data.any Node.known && !(l.nodes.data.any fun n => n.state == .PRESENT) then l.allSilent + 1 else 0

/-- Step 2 of a cycle: the collapse check (R139). -/
def Controller.collapseStep (c : Controller) : Controller :=
  let c1 := c.updLink fun l => { l with allSilent := l.allSilentAfter }
  if Config.missLimit ≤ c1.link.allSilent then c1.enterDown else c1.probeStep

/-- What follows the last visit: the collapse check, or after the final cycle the entry to IDLE (R128, R142). -/
def Controller.afterVisits (c : Controller) : Controller := if c.link.finalCycle then c.enterIdle else c.collapseStep

/-- The visit to the lowest known node at or above an address comes due, with its POLL (R128, R129). -/
def Controller.visitFrom (start : Nat) (c : Controller) : Controller :=
  match c.link.nodes.lowest fun i n => decide (start ≤ i) && n.known with
  | some a => (c.updLink fun l => { l with stage := .polled, sentOutlets := [] }).send (.poll a)
  | none => c.afterVisits

/-- A cycle begins with the lowest-addressed visit (R128). -/
def Controller.beginCycle (c : Controller) : Controller := c.visitFrom 0

/-- The windows end: the cycle ends, and the next begins (R136, R143). -/
def Controller.endCycle (c : Controller) : Controller :=
  (c.updLink fun l =>
    { l with cycles := satAdd u32Max l.cycles 1, lastWindows := l.windows, lastReports := l.reports }).beginCycle

/-- After a window's REPORT and ANSWER: the next window, or after the fourth the end of the cycle (R134, R136). -/
def Controller.afterWindow (c : Controller) : Controller :=
  if Config.windowsPerCycle ≤ c.link.windows then c.endCycle else c.openWindow

/-! ### The frames of a visit (R130 to R132) -/

/-- Whether the bay of a node's outlet holds a pending DECREASE, or a pending RAISE with its raise released flag set (R130). -/
def Controller.hasTarget (c : Controller) (a : Addr) (kind : TargetKind) (ix : OutIx) : Bool :=
  match c.bayAt a ix with
  | none => false
  | some b =>
    let o := c.outlet b
    (o.pending.map (·.kind)) == some kind && (kind == .DECREASE || o.raiseReleased) && decide (ix.val < (c.node a).outlets)

/-- The outlets that a step of a visit is to send, ascending, judged when the step is reached (R130; log 36). -/
def Controller.stepOutlets (c : Controller) (a : Addr) (kind : TargetKind) : List OutIx :=
  (List.finRange 4).filter (c.hasTarget a kind)

/-- Whether an outlet of a step is sent when its turn comes: its bay still has a target to send, whichever it is by then, and it has been
sent none in this visit (R130; log 36). -/
def Controller.owed (c : Controller) (a : Addr) (ix : OutIx) : Bool :=
  ((c.bayAt a ix).bind fun b => (c.outlet b).pending).isSome && !(c.link.sentOutlets.contains ix)

/-- The value of an outlet's SETPOINT: the pending target clamped to P_max (R53, R130). -/
def Controller.targetValue (c : Controller) (a : Addr) (ix : OutIx) : Int :=
  match c.bayAt a ix with
  | none => 0
  | some b => (min (((c.outlet b).pending.map (·.target)).getD 0) (c.bay b).pMax : Nat)

/-- A SETPOINT to an outlet is sent and recorded as outstanding (R131). -/
def Controller.sendOutlet (a : Addr) (ix : OutIx) (stage : Stage) (c : Controller) : Controller :=
  let v := c.targetValue a ix
  ((c.updNode a fun n => { n with outOutlet := n.outOutlet.set ix (some v) }).updLink fun l =>
    { l with stage := stage, sentOutlets := ix :: l.sentOutlets }).send (.setOutlet a ix v)

/-- Step 4 of a visit: the oldest notice is removed as it is sent; without one the visit ends (R130, R132). -/
def Controller.noticeStep (a : Addr) (c : Controller) : Controller :=
  match (c.node a).notices with
  | n :: rest =>
    ((c.updNode a fun m => { m with notices := rest }).updLink fun l => { l with stage := .notices }).send (.notice a n)
  | [] => c.visitFrom (a.val + 1)

/-- Step 3 of a visit: the battery's pending setpoint or the canopy's pending cap (R130). -/
def Controller.singleStep (a : Addr) (c : Controller) : Controller :=
  match (c.node a).kind with
  | some .BATTERY => match c.storage.battery.pending with
    | some w =>
      ((c.updNode a fun n => { n with outBattery := some w }).updLink fun l => { l with stage := .notices }).send (.setBattery a w)
    | none => c.noticeStep a
  | some .CANOPY => match c.storage.canopy.pending with
    | some cap =>
      ((c.updNode a fun n => { n with outCanopy := some cap }).updLink fun l => { l with stage := .notices }).send (.setCanopy a cap)
    | none => c.noticeStep a
  | _ => c.noticeStep a

/-- Step 2 of a visit goes on: the outlets it has still to send, and step 3 after the last (R130). -/
def Controller.raiseStep (a : Addr) (c : Controller) : List OutIx → Controller
  | [] => c.singleStep a
  | ix :: todo => if c.owed a ix then c.sendOutlet a ix (.raises todo) else c.raiseStep a todo

/-- Step 2 of a visit is reached (R130). -/
def Controller.reachRaises (a : Addr) (c : Controller) : Controller := c.raiseStep a (c.stepOutlets a .RAISE)

/-- Step 1 of a visit goes on: the outlets it has still to send, and step 2 after the last (R130). -/
def Controller.decreaseStep (a : Addr) (c : Controller) : List OutIx → Controller
  | [] => c.reachRaises a
  | ix :: todo => if c.owed a ix then c.sendOutlet a ix (.decreases todo) else c.decreaseStep a todo

/-- Step 1 of a visit is reached, after its good STATUS (R130). -/
def Controller.reachDecreases (a : Addr) (c : Controller) : Controller := c.decreaseStep a (c.stepOutlets a .DECREASE)

/-- The next frame of the visit to a node, or the next visit (R130). -/
def Controller.visitNext (a : Addr) (c : Controller) : Controller :=
  match c.link.stage with
  | .polled => c.reachDecreases a
  | .decreases todo => c.decreaseStep a todo
  | .raises todo => c.raiseStep a todo
  | .notices => c.noticeStep a

/-! ### The end of an exchange -/

/-- The final cycle of STOP begins (R142). -/
def Controller.startFinalCycle (c : Controller) : Controller :=
  (c.updLink fun l => { l with stopWaiting := false, restartWaiting := false, finalCycle := true }).beginCycle

/-- The grant of a pass-through window (R147). -/
def Controller.grant (c : Controller) : Controller :=
  let c1 := c.updLink fun l =>
    { l with state := .PASS_THROUGH
             window := { phase := .HELD, timer := some (c.inForce.tPt * 1000), raw := none, frameCount := 0, expired := false
                         ending := none } }
  (forBays (fun b c => c.updOutlet b (Outlet.freezeWindow true)) c1).answerLate 0x42 .GRANTED (.granted c.inForce.tPt)

/-- The exchange in progress is complete: the final cycle of a waiting STOP, a waiting LINK_RESTART, or a pending grant comes first;
otherwise the cycle goes on (R141, R142, R147). Where the exchange would end the cycle's windows they come first too, and that cycle is not
counted (log 15). -/
def Controller.exchangeDone (go : Controller → Controller) (c : Controller) : Controller :=
  let c1 := c.updLink fun l => { l with exchange := none }
  if c1.link.stopWaiting then c1.startFinalCycle
  else if c1.link.restartWaiting then c1.enterDiscovering
  else if c1.link.window.phase = .GRANT_PENDING then c1.grant
  else go c1

/-- A pass-through window ends and the frozen timers resume; what follows is the caller's (R153). -/
def Controller.closeWindow (c : Controller) : Controller :=
  let c1 := c.updLink fun l =>
    { l with state := .RUNNING, window := { l.window with phase := .NONE, timer := none, raw := none, ending := none } }
  forBays (fun b c => c.updOutlet b (Outlet.freezeWindow false)) c1

/-! ### Discovery and the entry of nodes (R121, R125 to R127, R133) -/

/-- Whether another known node satisfies a test. -/
def Link.otherKnown (l : Link) (a : Addr) (p : Node → Bool) : Bool :=
  (l.nodes.lowest fun i n => decide (i ≠ a.val) && n.known && p n).isSome

/-- Why a node is IGNORED: the first cause of the table of R121 that applies. -/
def Link.ignoreCause (l : Link) (a : Addr) (id : Identity) : Option IgnoreCause :=
  let kind := kindOfCode id.kindCode
  if kind.isSome && kind != some .PEDESTAL && l.otherKnown a (fun n => n.kind == kind) then some .DUPLICATE_KIND
  else if l.otherKnown a (fun n => (n.identity.map (·.serial)) == some id.serial) then some .DUPLICATE_SERIAL
  else if kind.isNone || (kind == some .PEDESTAL && !(decide (1 ≤ id.outletCount ∧ id.outletCount ≤ 4))) then some .BAD_IDENT
  else none

/-- The notice of an ignore cause (R121). -/
def IgnoreCause.notice : IgnoreCause → Cause
  | .DUPLICATE_KIND => .nodeDuplicateKind
  | .DUPLICATE_SERIAL => .nodeDuplicateSerial
  | .BAD_IDENT => .nodeBadIdent

/-- Whether a bay's outlet can be found at a node: not IGNORED, a PEDESTAL, and enough outlets (R126). -/
def Node.carries (n : Node) (ix : OutIx) : Bool := n.state != .IGNORED && n.kind == some .PEDESTAL && decide (ix.val < n.outlets)

/-- The map check of a bay against the node it names (R126). -/
def Controller.mapCheck (b : Bay) (c : Controller) : Controller :=
  let m := (c.bay b).map
  if (c.node m.node).carries m.outlet then
    c.updOutlet b fun o =>
      if o.state = .OFFLINE ∧ o.offlineCause = some .MAP_MISMATCH then { o with offlineCause := some .NOT_SEEN } else o
  else (c.updOutlet b fun o => { o with state := .OFFLINE, offlineCause := some .MAP_MISMATCH }).raise .outletMapMismatch

/-- A node is entered from a good IDENT (R121, R126). -/
def Controller.enterNode (a : Addr) (id : Identity) (c : Controller) : Controller :=
  let cause := c.link.ignoreCause a id
  let c1 := c.updNode a fun _ =>
    { Node.absent with state := if cause.isSome then .IGNORED else .PRESENT, ignoreCause := cause, identity := some id }
  let c2 := match cause with
    | some ic => c1.raise ic.notice
    | none => c1.forgetAcked (kindOfCode id.kindCode)
  forBays (fun b c => if (c.bay b).map.valid && (c.bay b).map.node == a then c.mapCheck b else c) c2

/-- The number of nodes in a state. -/
def Link.countNodes (l : Link) (st : NodeState) : Nat := l.nodes.data.countP fun n => n.state == st

/-- The end of a discovery: the link enters RUNNING (R126, R127, R196). -/
def Controller.endDiscovery (c : Controller) : Controller :=
  let c1 := forBays (fun b c =>
    let m := (c.bay b).map
    if m.valid && (c.outlet b).offlineCause == some .MAP_MISMATCH && (c.node m.node).state == .ABSENT then
      c.updOutlet b fun o => { o with offlineCause := some .NOT_SEEN }
    else c) c
  let c2 := (c1.updLink fun l =>
    { l with state := .RUNNING, probe := 0, allSilent := 0, lastWindows := 0, lastReports := 0, cycles := 0 }).raise .linkDiscovered
  let c3 := if c2.run.running then c2
    else ({ c2 with run := { c2.run with running := true } } : Controller).answerLate 0x60 .OK
      (.nodes (c2.link.countNodes .PRESENT) (c2.link.countNodes .IGNORED))
  (if c3.pool.roundTimer.isNone then c3.startRoundTimer else c3).beginCycle

/-- What follows the exchange of an IDENT_REQ: in discovery the next address or the end; at an attach probe the windows (R125, R133). -/
def Controller.afterIdent (a : Addr) (c : Controller) : Controller :=
  if c.link.state = .DISCOVERING then
    if h : a.val + 1 < 30 then c.send (.identReq ⟨a.val + 1, h⟩) else c.endDiscovery
  else c.startWindows

/-- What the entry of a node as PRESENT does beside the entry: the all-silent count becomes 0 (R139), and at an attach probe the NODE
notice is raised with ATTACHED (R133). -/
def Controller.attached (a : Addr) (c : Controller) : Controller :=
  if (c.node a).state = .PRESENT then
    let c1 := c.updLink fun l => { l with allSilent := 0 }
    if c.link.state = .DISCOVERING then c1 else c1.raise .nodeAttached
  else c

/-- IDENT (R125, R126, R133). An IDENT that no exchange awaits from its address changes nothing (R119, log 22). -/
def execIdent (address : Addr) (kind outletCount : Nat) (rating : Int) (serial : Nat) (s : State) : Host.Outcome State Fault Refusal :=
  event (fun c =>
    if c.link.awaited = some (.identReq address) then
      ((c.enterNode address { kindCode := kind, outletCount := outletCount, rating := rating, serial := serial }).attached
        address).exchangeDone (Controller.afterIdent address)
    else c) s

/-- IDENT_TIMEOUT (R125, R133). -/
def execIdentTimeout (s : State) : Host.Outcome State Fault Refusal :=
  event (fun c => match c.link.awaited with
    | some (.identReq a) => c.exchangeDone (Controller.afterIdent a)
    | _ => c) s

/-! ### STATUS (R129, R137, R138; R162, R163) -/

/-- The contents a STATUS must have for the kind of its node (R119, R120). -/
def Node.accepts (n : Node) : StatusBody → Bool
  | .pedestal es => n.kind == some .PEDESTAL && es.length == n.outlets
  | .canopy _ _ => n.kind == some .CANOPY
  | .battery _ => n.kind == some .BATTERY
  | .supplyMeter _ _ => n.kind == some .SUPPLY_METER

/-- The window state after a voltage (the table of R162). -/
def windowAfter (s : Settings) (v : Nat) : Option Side → Option Side
  | none => if v < s.vLow then some .LOW else if s.vHigh < v then some .HIGH else none
  | some side =>
    if s.vLow + s.vHys ≤ v ∧ v + s.vHys ≤ s.vHigh then none
    else match side with
      | .LOW => if s.vHigh < v then some .HIGH else some .LOW
      | .HIGH => if v < s.vLow then some .LOW else some .HIGH

/-- The SUPPLY notice of a side. -/
def Side.cause : Side → Cause
  | .LOW => .supplyOutLow
  | .HIGH => .supplyOutHigh

/-- The supply window at a good STATUS of the supply meter, and what its change does (R162, R163). The bays are taken in ascending number
(log 41). -/
def Controller.supplyStep (v : Nat) (c : Controller) : Controller :=
  let before := c.outlets.window
  let after := windowAfter c.inForce v before
  let c1 := { c with outlets := { c.outlets with window := after, lastVoltage := some v } }
  match before, after with
  | none, some side => ((forBays (fun b c => c.addReason b .SUPPLY) c1).setFault .SUPPLY_WINDOW).raise side.cause
  | some _, none => (forBays (fun b c => c.removeReason b .SUPPLY) c1).raise .supplyBackIn
  | some x, some y => if x = y then c1 else c1.raise y.cause
  | none, none => c1

/-- A bay's entry of a STATUS, with what is done to the bay. -/
def Controller.eachEntry (a : Addr) (es : List OutletReading) (f : Bay → OutletReading → Controller → Controller) (c : Controller) :
    Controller :=
  (List.finRange 4).foldl (fun c ix => match es[ix.val]?, c.bayAt a ix with
    | some e, some b => f b e c
    | _, _ => c) c

/-- A pedestal's entries reach their bays: at a return from SILENT every bay first takes its state (R138), then each entry is taken by
R34 (R129). -/
def Controller.pedestalStatus (a : Addr) (es : List OutletReading) (returned : Bool) (c : Controller) : Controller :=
  let c1 := if returned then c.eachEntry a es fun b e c => c.heard b e.plugged else c
  c1.eachEntry a es fun b e c => (c.heard b e.plugged).outletEntry b e

/-- The readings of a good STATUS are stored, the miss count becomes 0, a SILENT node becomes PRESENT (R129, R138). -/
def Node.take (body : StatusBody) (time stamp : Nat) (n : Node) : Node :=
  { n with state := if n.state = .SILENT then .PRESENT else n.state, misses := 0
           readings := some { body := body, time := time, stamp := stamp } }

/-- The return of a SILENT node (R138). -/
def Controller.nodeReturns (k : Option NodeKind) (c : Controller) : Controller :=
  ((c.updLink fun l => { l with allSilent := 0 }).raise .nodeReturned).forgetAcked k

/-- A good STATUS is taken (R129). -/
def Controller.takeStatus (a : Addr) (body : StatusBody) (c : Controller) : Controller :=
  let returned := (c.node a).state == .SILENT
  let c1 := c.updNode a (Node.take body c.run.siteTime c.run.ms)
  let c2 := if returned then c1.nodeReturns (c1.node a).kind else c1
  match body with
  | .pedestal es => c2.pedestalStatus a es returned
  | .canopy _ cap => c2.updStorage fun st => { st with canopy := st.canopy.report cap }
  | .battery _ => c2
  | .supplyMeter _ v => c2.supplyStep v

/-- STATUS (R129); one that is no good reply to the POLL in progress changes nothing (R119, log 22). -/
def execStatus (address : Addr) (body : StatusBody) (s : State) : Host.Outcome State Fault Refusal :=
  event (fun c =>
    if c.link.awaited = some (.poll address) ∧ (c.node address).accepts body = true then
      (c.takeStatus address body).exchangeDone (Controller.visitNext address)
    else c) s

/-- A missed POLL (R137). In the final cycle a silence is not handed to the outlet supervisor (R142). -/
def Controller.miss (a : Addr) (c : Controller) : Controller :=
  let n := c.node a
  let misses := min Config.missLimit (n.misses + 1)
  if misses = Config.missLimit ∧ n.state = .PRESENT then
    let c1 := ((c.updNode a fun n => { n with misses := misses, state := .SILENT }).raise .nodeSilent).setFault .NODE_SILENT
    if n.kind = some .PEDESTAL ∧ c.link.finalCycle = false then c1.nodeFallsSilent a else c1
  else c.updNode a fun n => { n with misses := misses }

/-- STATUS_TIMEOUT: the miss is counted, and the visit ends (R129, R137). -/
def execStatusTimeout (s : State) : Host.Outcome State Fault Refusal :=
  event (fun c => match c.link.awaited with
    | some (.poll a) => (c.miss a).exchangeDone (Controller.visitFrom (a.val + 1))
    | _ => c) s

/-! ### SET_ACK (R131) -/

/-- The echo of an outlet's SETPOINT reaches the bay, with the value recorded as sent; none when a commit removed it (R131). -/
def Controller.outletAck (a : Addr) (ix : OutIx) (echo : Int) (c : Controller) : Option Controller :=
  ((c.node a).outOutlet.get ix).map fun sent =>
    let c1 := c.updNode a fun n => { n with outOutlet := n.outOutlet.set ix none }
    match c1.bayAt a ix with
    | some b => c1.outletEcho b sent echo
    | none => c1

/-- The echo of a battery's SETPOINT (R99, R131). -/
def Controller.batteryAck (a : Addr) (echo : Int) (c : Controller) : Option Controller :=
  (c.node a).outBattery.map fun sent =>
    let c1 := (c.updNode a fun n => { n with outBattery := none }).updStorage fun st =>
      { st with battery := st.battery.echo sent echo }
    if echo ≠ sent then c1.raise .nodeAckMismatch else c1

/-- The echo of a canopy's SETPOINT (R100, R131). -/
def Controller.canopyAck (a : Addr) (echo : Cap) (c : Controller) : Option Controller :=
  (c.node a).outCanopy.map fun sent =>
    let c1 := (c.updNode a fun n => { n with outCanopy := none }).updStorage fun st => { st with canopy := st.canopy.echo sent echo }
    if echo ≠ sent then c1.raise .nodeAckMismatch else c1

/-- What a good SET_ACK does; none when the frame is no good reply to the SETPOINT in progress (R119, R131). -/
def Controller.takeAck (a : Addr) (body : AckBody) (c : Controller) : Option Controller :=
  match c.link.awaited, body with
  | some (.setOutlet a' ix _), .outlet n echo => if a' = a ∧ outIxOf? n = some ix then c.outletAck a ix echo else none
  | some (.setBattery a' _), .battery echo => if a' = a then c.batteryAck a echo else none
  | some (.setCanopy a' _), .canopy cap => if a' = a then c.canopyAck a cap else none
  | _, _ => none

/-- SET_ACK (R131); one that is no good reply changes nothing (R119, log 22). -/
def execSetAck (address : Addr) (body : AckBody) (s : State) : Host.Outcome State Fault Refusal :=
  event (fun c => match c.takeAck address body with
    | some c' => c'.exchangeDone (Controller.visitNext address)
    | none => c) s

/-- The outstanding setpoint that a SETPOINT in progress recorded is removed (R131). -/
def Sent.forget (f : Sent) (n : Node) : Node :=
  match f with
  | .setOutlet _ ix _ => { n with outOutlet := n.outOutlet.set ix none }
  | .setBattery _ _ => { n with outBattery := none }
  | .setCanopy _ _ => { n with outCanopy := none }
  | _ => n

/-- The address a SETPOINT was sent to. -/
def Sent.setpointTo : Sent → Option Addr
  | .setOutlet a _ _ | .setBattery a _ | .setCanopy a _ => some a
  | _ => none

/-- SET_ACK_TIMEOUT: the outstanding setpoint is removed, and the visit goes on (R131). -/
def execSetAckTimeout (s : State) : Host.Outcome State Fault Refusal :=
  event (fun c => match c.link.awaited with
    | some f => match f.setpointTo with
      | some a => (c.updNode a f.forget).exchangeDone (Controller.visitNext a)
      | none => c
    | none => c) s

/-! ### FRAME_SENT and discarded frames (R118, R119) -/

/-- What follows a frame that ends its exchange when sent. -/
def Sent.follow : Sent → Controller → Controller
  | .notice a _ => Controller.visitNext a
  | _ => Controller.afterWindow

/-- FRAME_SENT: the wait for the reply begins, or the exchange ends (R118, R148). -/
def execFrameSent (s : State) : Host.Outcome State Fault Refusal :=
  event (fun c => match c.link.exchange with
    | some ex =>
      if ex.waiting.isSome then c
      else if ex.sent.unanswered then c.exchangeDone ex.sent.follow
      else c.updLink fun l => { l with exchange := some { ex with waiting := some ex.tReply } }
    | none => match c.link.window.raw with
      | some raw =>
        if raw.waiting.isSome then c
        else c.updLink fun l => { l with window := { l.window with raw := some { raw with waiting := some raw.tReply } } }
      | none => c) s

/-- DISCARDED_FRAME: "changes no state other than that of the exchange that was waiting", which goes on waiting (R119). -/
def execDiscardedFrame (_bytes : List Byte) (s : State) : Host.Outcome State Fault Refusal := event (fun c => c) s

/-! ### Commands of the link (R141, R143) -/

/-- LINK_RESTART (R141). A waiting STOP counts as its final cycle. -/
def execLinkRestart (s : State) : Host.Outcome State Fault Refusal :=
  command 0x41 (fun c => match c.link.state with
    | .PASS_THROUGH => c.refuse 0x41 .LINK_HELD
    | .DISCOVERING => c.refuse 0x41 .BUSY
    | .IDLE => c.refuse 0x41 .NOT_RUNNING
    | .DOWN => c.enterDiscovering.ok 0x41 .none
    | .RUNNING =>
      if c.link.window.phase = .GRANT_PENDING then c.refuse 0x41 .LINK_HELD
      else if c.link.restartWaiting || c.link.stopWaiting || c.link.finalCycle then c.refuse 0x41 .BUSY
      else if c.link.exchange.isNone then c.enterDiscovering.ok 0x41 .none
      else (c.updLink fun l => { l with restartWaiting := true }).ok 0x41 .none) s

/-- The link part of NODE_READ (R143, R145). -/
def Link.part (l : Link) : LinkPart :=
  { state := l.state, cycles := l.cycles, allSilent := l.allSilent, probe := l.probe, lastWindows := l.lastWindows
    lastReports := l.lastReports, phase := l.window.phase, windowTimer := l.window.timer, frameCount := l.window.frameCount
    expired := l.window.expired }

/-- NODE_READ (R143). -/
def execNodeRead (address : Nat) (s : State) : Host.Outcome State Fault Refusal :=
  command 0x40 (fun c => match addrOf? address with
    | none => c.refuse 0x40 .BAD_PARAM
    | some a => c.ok 0x40 (.node c.link.part a (c.node a) ((c.node a).readings.map c.age))) s

end Sys2Proof.Machine
end

