-- ==== Sys2Proof/Machine/PassThrough.lean ====
section
/-! DEFINITION. Maintenance pass-through (chapter 7): LINK_REQUEST, LINK_FRAME, LINK_RELEASE, the raw exchange, and the window's expiry. -/

namespace Sys2Proof.Machine

/-- The window record replaced. -/
def Controller.updWindow (f : WindowRecord → WindowRecord) (c : Controller) : Controller :=
  c.updLink fun l => { l with window := f l.window }

/-- LINK_REQUEST (R146). A STOP that waits for the exchange counts as its final cycle. -/
def execLinkRequest (s : State) : Host.Outcome State Fault Refusal :=
  command 0x42 (fun c => match c.link.state with
    | .PASS_THROUGH => c.refuse 0x42 .LINK_HELD
    | .DISCOVERING => c.refuse 0x42 .BUSY
    | .IDLE | .DOWN => c.refuse 0x42 .NOT_RUNNING
    | .RUNNING =>
      if c.link.window.phase = .GRANT_PENDING then c.refuse 0x42 .LINK_HELD
      else if c.link.restartWaiting || c.link.stopWaiting || c.link.finalCycle then c.refuse 0x42 .BUSY
      else if c.link.exchange.isNone then c.grant
      else c.updWindow fun w => { w with phase := .GRANT_PENDING }) s

/-- Whether LINK_FRAME finds a window to use: HELD, and not ended by an expiry that waits for a raw exchange (R148, R152, log 9). -/
def WindowRecord.usable (w : WindowRecord) : Bool := w.phase == .HELD && !w.expired

/-- LINK_FRAME (R148); BUSY while a raw exchange is in progress (R184). Its response waits for the reply. -/
def execLinkFrame (address : Nat) (payload : List Byte) (s : State) : Host.Outcome State Fault Refusal :=
  command 0x43 (fun c =>
    match addrOf? address with
    | none => c.refuse 0x43 .BAD_PARAM
    | some a =>
      if payload.length < 1 ∨ 32 < payload.length then c.refuse 0x43 .BAD_PARAM
      else if !c.link.window.usable then c.refuse 0x43 .NOT_HELD
      else if c.link.window.raw.isSome then c.refuse 0x43 .BUSY
      else c.updWindow fun w =>
        { w with raw := some { address := a, bytes := payload, tReply := c.inForce.tReply, waiting := none }
                 frameCount := satAdd u16Max w.frameCount 1 }) s

/-- LINK_RELEASE (R151). During a raw exchange its response waits for the window's end (R184). Where the expired flag is set while the
phase is HELD, an expiry waits for a raw exchange, and the answer is TOO_LATE (log 9). -/
def execLinkRelease (s : State) : Host.Outcome State Fault Refusal :=
  command 0x44 (fun c =>
    let w := c.link.window
    if w.expired then c.refuse 0x44 .TOO_LATE
    else if w.phase = .HELD ∧ w.ending ≠ some .STOP then
      if w.raw.isSome then c.updWindow fun w => { w with timer := none, ending := some .RELEASE }
      else (c.closeWindow.beginCycle).ok 0x44 .none
    else c.refuse 0x44 .NOT_HELD) s

/-- The end of a window that waited for its raw exchange (R151 to R153). -/
def Controller.endAfterRaw (c : Controller) : Controller :=
  match c.link.window.ending with
  | none => c
  | some .RELEASE => (c.closeWindow.beginCycle).answerLate 0x44 .OK .none
  | some .EXPIRY => c.closeWindow.beginCycle
  | some .STOP => c.closeWindow.startFinalCycle

/-- A raw exchange is complete: LINK_FRAME's response is made, the exchange removed (R148). -/
def Controller.rawDone (status : Status) (body : Body) (c : Controller) : Controller :=
  ((c.answerLate 0x43 status body).updWindow fun w => { w with raw := none }).endAfterRaw

/-- The address whose reply a raw exchange awaits. -/
def WindowRecord.awaiting (w : WindowRecord) : Option Addr :=
  match w.raw with
  | some raw => if raw.waiting.isSome then some raw.address else none
  | none => none

/-- RAW_REPLY (R148); a frame with another address is discarded, and the wait goes on. -/
def execRawReply (address : Addr) (bytes : List Byte) (s : State) : Host.Outcome State Fault Refusal :=
  event (fun c => if c.link.window.awaiting = some address then c.rawDone .OK (.reply bytes) else c) s

/-- RAW_REPLY_TIMEOUT (R148). -/
def execRawReplyTimeout (s : State) : Host.Outcome State Fault Refusal :=
  event (fun c => if c.link.window.awaiting.isSome then c.rawDone .NO_REPLY .none else c) s

/-- PT_EXPIRED: the expired flag and the LINK notice at the expiry; the window ends when a raw exchange in progress completes (R152,
log 9). -/
def execPtExpired (s : State) : Host.Outcome State Fault Refusal :=
  event (fun c =>
    if c.link.window.timer.isSome then
      let c1 := c.raise .linkPtExpired
      if c.link.window.raw.isSome then
        c1.updWindow fun w => { w with timer := none, expired := true, ending := some .EXPIRY }
      else (c1.closeWindow.updWindow fun w => { w with expired := true }).beginCycle
    else c) s

end Sys2Proof.Machine
end

