-- ==== Sys2Proof/Machine/Reports.lean ====
section
/-! DEFINITION. Report windows (R134 to R136): presentation and binding (R19, R20), PAID_AUTH and CUSTOMER_STOP (R38), the answers, the chain fault and the empty window. -/

namespace Sys2Proof.Machine

/-- An answer with the tier and the remaining credit that it carries when it is ACCEPTED (R20, R135), and the state it leaves. -/
abbrev Answered := Answer × Nat × Nat × Controller

/-- An answer that carries tier 0 and remaining 0. -/
def bareAnswer (x : Answer × Controller) : Answered := (x.1, 0, 0, x.2)

/-! ### Presentation (R19, R20) -/

/-- The record of a bind (R20). -/
def Record.bind (b : Bay) (r : Record) : Record :=
  { r with state := .BOUND, boundBay := some b, bindingEnergy := some 0, voidPending := false, changed := true
           statement := { r.statement with sessions := satAdd u16Max r.statement.sessions 1, lastBay := some b, interrupted := false } }

/-- An accepted presentation: the record is bound and the session opens at one event (R20, R37). -/
def Controller.bindAndOpen (b : Bay) (k : SlotNo) (c : Controller) : Controller :=
  ((c.updRecord k (Record.bind b)).raise .receiptBind).openSession b .CREDIT (some k) 0

/-- The credit table's answer to a presentation at a PLUGGED bay (the lines of R19 from UNKNOWN on). In STOPPED no session can open (R197),
and SITE_BUSY takes the place of ACCEPTED (log 11). -/
def Controller.presentCode (b : Bay) (code : Nat) (c : Controller) : Answered :=
  match c.credit.findCode code with
  | none => (.UNKNOWN, 0, 0, c)
  | some k =>
    let r := c.record k
    match r.state with
    | .VOIDED => (.VOIDED, 0, 0, c)
    | .BOUND => (if r.voidPending then .VOIDED else .IN_USE, 0, 0, c)
    | .SPENT => (.SPENT, 0, 0, c)
    | .LAPSED => (.EXPIRED, 0, 0, c)
    | .FREE => (.UNKNOWN, 0, 0, c)
    | .LIVE =>
      if c.run.timeValid && r.expiredAt c.run.siteTime then (.EXPIRED, 0, 0, (c.updRecord k Record.lapse).raise .receiptLapse)
      else if r.tier < (c.bay b).minTier then (.TIER_LOW, 0, 0, c)
      else if !c.run.running then (.SITE_BUSY, 0, 0, c)
      else (.ACCEPTED, r.tier, r.remaining, c.bindAndOpen b k)

/-- PRESENT for a bay: the first line of R19 that applies. The draws not yet taken are taken before the credit table is asked (R110,
log 12). -/
def Controller.presentAt (b : Bay) (code : Nat) (c : Controller) : Answered :=
  match (c.outlet b).state with
  | .METER_ONLY => (.NOT_MANAGED, 0, 0, c)
  | st =>
    if c.siteBusy then (.SITE_BUSY, 0, 0, c)
    else match st with
      | .PLUGGED => c.takeAllDraws.presentCode b code
      | .QUEUED | .STARTING | .CHARGING | .PAUSED | .ENDING => (.ALREADY_FUNDED, 0, 0, c)
      | _ => (.NOT_READY, 0, 0, c)

/-! ### A REPORT in a window (R135, R136) -/

/-- The bay of a REPORT: none when the node table or the map cannot place it (R135). A known node that is no PEDESTAL has no outlets, so
its REPORT is placed nowhere (log 39). -/
def Controller.reportBay (c : Controller) (a : Addr) (outlet : Nat) : Option Bay :=
  if (c.node a).known && decide (outlet ≤ (c.node a).outlets) then (outIxOf? outlet).bind (c.bayAt a) else none

/-- A good REPORT that has been counted: its answer is formed, and ANSWER is sent in the same exchange (R118, R135). -/
def Controller.answerReport (a : Addr) (outlet : Nat) (f : Bay → Controller → Answered) (c : Controller) : Controller :=
  match c.reportBay a outlet with
  | none => c.send (.answer a outlet .NOT_MANAGED 0 0)
  | some b =>
    let r := f b c
    r.2.2.2.send (.answer a outlet r.1 r.2.1 r.2.2.1)

/-- A chain fault ends the windows, and no ANSWER is sent (R136). The REPORT counts among those received (log 15). -/
def Controller.chainFault (c : Controller) : Controller :=
  ((c.updLink fun l => { l with reports := l.reports + 1 }).raise .nodeChainFault).exchangeDone Controller.endCycle

/-- A REPORT received in a window (R135, R136). -/
def Controller.report (a : Addr) (outlet : Nat) (f : Bay → Controller → Answered) (c : Controller) : Controller :=
  if c.link.awaited = some .window then
    if (c.node a).reportUsed then c.chainFault
    else ((c.updNode a fun n => { n with reportUsed := true }).updLink fun l => { l with reports := l.reports + 1 }).answerReport a
      outlet f
  else c

/-- PRESENT (R19, R135). -/
def execPresent (address : Addr) (outlet code : Nat) (s : State) : Host.Outcome State Fault Refusal :=
  event (Controller.report address outlet fun b c => c.presentAt b code) s

/-- PAID_AUTH (R38, R135). -/
def execPaidAuth (address : Addr) (outlet cap : Nat) (s : State) : Host.Outcome State Fault Refusal :=
  event (Controller.report address outlet fun b c => bareAnswer (c.paidAuthAt b cap)) s

/-- CUSTOMER_STOP (R38, R135). -/
def execCustomerStop (address : Addr) (outlet : Nat) (s : State) : Host.Outcome State Fault Refusal :=
  event (Controller.report address outlet fun b c => bareAnswer (c.customerStopAt b)) s

/-- WINDOW_TIMEOUT: an empty window ends the windows of the cycle (R136). -/
def execWindowTimeout (s : State) : Host.Outcome State Fault Refusal :=
  event (fun c => if c.link.awaited = some .window then c.exchangeDone Controller.endCycle else c) s

end Sys2Proof.Machine
end

