-- ==== Sys2Proof/Machine/RunControl.lean ====
section
/-! DEFINITION. Run control (chapter 11): START and STOP, site time, identity, the resets with the placement check (R9), the retention check (R200) and the store check (R175), the main supply and the backup cell. -/

namespace Sys2Proof.Machine

/-- Run control's state replaced. -/
def Controller.updRun (f : RunControl → RunControl) (c : Controller) : Controller := { c with run := f c.run }

/-! ### START and STOP (R196, R197) -/

/-- START: the response waits for the end of discovery (R196). -/
def execStart (s : State) : Host.Outcome State Fault Refusal :=
  command 0x60 (fun c =>
    if c.run.running then c.refuse 0x60 .WRONG_STATE
    else if c.link.state ≠ .IDLE then c.refuse 0x60 .BUSY
    else c.enterDiscovering) s

/-- What STOP changes at the command in RUNNING: the mode, every session, the pool, the battery setpoint (R197). -/
def Controller.haltSite (c : Controller) : Controller :=
  let c1 := forBays (Controller.endForStop .COMMAND) (c.updRun fun r => { r with running := false })
  { c1 with pool := c1.pool.halt, storage := c1.storage.stop }

/-- The link at a STOP taken in RUNNING (R142, R153, R197). A pending LINK_REQUEST loses its phase, a waiting LINK_RESTART is dropped.
In a window whose expiry waits for a raw exchange the STOP takes the expiry's place, and the expired flag is clear after it, so that a
LINK_RELEASE after the STOP is answered NOT_HELD (R153; log 9). -/
def Controller.stopLink (c : Controller) : Controller :=
  match c.link.state with
  | .RUNNING =>
    let c1 := c.updLink fun l => { l with restartWaiting := false, stopWaiting := true, window := { l.window with phase := .NONE } }
    if c1.link.exchange.isNone then c1.startFinalCycle else c1
  | .PASS_THROUGH =>
    if c.link.window.raw.isNone then c.closeWindow.startFinalCycle
    else c.updLink fun l => { l with window := { l.window with timer := none, expired := false, ending := some .STOP } }
  | .IDLE | .DISCOVERING | .DOWN => c.enterIdle

/-- STOP (R197). -/
def execStop (s : State) : Host.Outcome State Fault Refusal :=
  command 0x61 (fun c =>
    if c.run.running then c.haltSite.stopLink
    else match c.link.state with
      | .IDLE => c.refuse 0x61 .WRONG_STATE
      | .DISCOVERING => c.enterIdle
      | .RUNNING | .PASS_THROUGH | .DOWN => c.refuse 0x61 .BUSY) s

/-! ### Site time (R198, R199) -/

/-- Site time advances by one second, up to its largest count; an advance onto a multiple of 60 with valid time is a site-minute boundary
(R26, R198). -/
def RunControl.tick (taking : Bool) (r : RunControl) : RunControl :=
  if u32Max ≤ r.siteTime then r
  else { r with siteTime := r.siteTime + 1
                sweepAt := if taking && r.timeValid && (r.siteTime + 1) % 60 == 0 then some (r.siteTime + 1) else r.sweepAt }

/-- SITE_SECOND_TICK: the count goes on while the part is powered, and on the backup cell while the retained memory keeps its supply
(R198, R200). -/
def execSiteSecondTick (s : State) : Host.Outcome State Fault Refusal :=
  onController (fun c => if c.run.supplyOn || c.run.marker then c.updRun (RunControl.tick c.taking) else c) s

/-- SET_TIME (R199). -/
def execSetTime (value : Nat) (s : State) : Host.Outcome State Fault Refusal :=
  command 0x62 (fun c =>
    if u32Max < value then c.refuse 0x62 .BAD_PARAM
    else ((c.updRun fun r => { r with siteTime := value, timeValid := true }).raise .timeSet).ok 0x62
      (.time c.run.siteTime c.run.timeValid)) s

/-- READ_TIME (R199). -/
def execReadTime (s : State) : Host.Outcome State Fault Refusal :=
  command 0x63 (fun c => c.ok 0x63
    (.clock c.run.siteTime c.run.timeValid (if c.run.timeValid then some (minuteOfDay c.run.siteTime) else none) c.run.held)) s

/-- IDENTIFY (R203). -/
def execIdentify (s : State) : Host.Outcome State Fault Refusal :=
  command 0x64 (fun c => c.ok 0x64
    (.identity Config.partCode Config.siliconRevision c.settings.siteCell c.settings.serialCell c.run.cause)) s

/-! ### The stages of a reset (R9, R28, R201) -/

/-- A BOUND record is unbound at a reset (R28). -/
def Record.resetUnbind (valid : Bool) (now : Nat) (r : Record) : Record := if r.state = .BOUND then r.unbind valid now true else r

/-- Every record still BOUND is unbound at a reset (R28). -/
def Controller.unbindAll (c : Controller) : Controller :=
  { c with credit := { c.credit with slots := c.credit.slots.map (Record.resetUnbind c.run.timeValid c.run.siteTime) } }

/-- The slots whose records lie on the wrong side of a region, ascending (R9). -/
def CreditTable.wrongSlots (t : CreditTable) (r : Region) : List Nat :=
  (t.slots.data.zipIdx.filter fun x => x.1.state != .FREE && !r.side x.1.kind x.2).map (·.2)

/-- A wrong-side record is moved to the lowest FREE slot on its side, or discarded (R9). -/
def Controller.relocate (k : SlotNo) (c : Controller) : Controller :=
  let r := c.record k
  match c.credit.slots.lowest fun j x => x.state == .FREE && c.inForce.region.side r.kind j with
  | some j => (((c.updRecord j fun _ => { r with changed := true }).updRecord k fun _ => .free)).raise .receiptRelocated
  | none => (c.updRecord k fun _ => .free).raise .receiptDiscarded

/-- The placement check (R9). -/
def Controller.placementCheck (c : Controller) : Controller :=
  (c.credit.wrongSlots c.inForce.region).foldl (fun c n => match slotOf? n with
    | some k => c.relocate k
    | none => c) c

/-- An outlet's entry after a reset (R63). -/
def Outlet.afterReset (valid : Bool) (summary : Option Summary) (lifetime : Nat) : Outlet :=
  { Outlet.blank with
    state := if valid then .OFFLINE else .UNMAPPED, offlineCause := if valid then some .NOT_SEEN else none, summary := summary
    lifetime := lifetime }

/-- The outlet table after a reset, under the stored copy in force (R63, R165). -/
def OutletTable.afterReset (s : Settings) (keep : Outlet → Option Summary × Nat) (t : OutletTable) : OutletTable :=
  { entries := Table.ofFn fun b =>
      Outlet.afterReset (s.bays.get b).map.valid (keep (t.entries.get b)).1 (keep (t.entries.get b)).2
    siteHold := false, window := none, lastVoltage := none }

/-- A line at the end of a reset: qualification begins against the line as it stands (R154). -/
def Line.afterReset (l : Line) : Line :=
  { l with qualified := false, left := if l.wire then some Config.qualifyMs else none }

/-- The lines at the end of a reset (R154). -/
def Lines.afterReset (l : Lines) : Lines :=
  { gl0 := l.gl0.afterReset, gl1 := l.gl1.afterReset, gl2 := l.gl2.afterReset, stopAll := l.stopAll.afterReset
    keylock := l.keylock.afterReset }

/-- The settings block at every reset: no working copy, no commit (R175, R180). -/
def SettingsBlock.afterReset (latch : Bool) (b : SettingsBlock) : SettingsBlock :=
  { b with working := none, commit := none, latch := latch }

/-- Stages 3 and 4 of a reset: every block's reset values, the notice set emptied (R63, R86, R103, R144, R165, R180, R194). -/
def Controller.resetValues (keep : Outlet → Option Summary × Nat) (latch : Bool) (cause : ResetCause) (c : Controller) : Controller :=
  { c with
    outlets := c.outlets.afterReset c.inForce keep
    pool := .initial
    storage := .initial
    link := .initial
    settings := c.settings.afterReset latch
    port := { c.port with buffer := .EMPTY, notices := noticesInitial, attn := false }
    lines := c.lines.afterReset
    run := { c.run with running := false, ms := 0, cause := cause } }

/-- A warm reset, through its stages (R201). -/
def Controller.warmReset (cause : ResetCause) (c : Controller) : Controller :=
  let c1 := (forBays (fun b c => c.endSession b .RESET .OFFLINE) c).unbindAll
  (c1.resetValues (fun o => (o.summary, o.lifetime)) c1.settings.latch cause).placementCheck

/-- RESET: the command takes effect at its taking, and has no response (R194, R201). -/
def execReset (s : State) : Host.Outcome State Fault Refusal := event (Controller.warmReset .RESET_COMMAND) s

/-- RESET_LINE_ASSERTED: the line holds the part in reset (R201), with LINK_DIR, GRANT and ATTN as they stood (log 8). -/
def execResetLineAsserted (s : State) : Host.Outcome State Fault Refusal :=
  onController (fun c => c.updRun fun r => { r with resetHeld := true }) s

/-- RESET_LINE: the release completes a warm reset (R201). With the main supply off only the level changes (log 8). -/
def execResetLine (s : State) : Host.Outcome State Fault Refusal :=
  onController (fun c =>
    let c1 := c.updRun fun r => { r with resetHeld := false }
    if c.run.supplyOn then c1.warmReset .RESET_LINE else c1) s

/-! ### Power (R175, R200, R202) -/

/-- The fault summary initialised: cleared, then RETENTION_LOST set with site time not valid (R192). -/
def Port.retentionLost (p : Port) : Port :=
  ({ p with faults := Table.replicate 11 .clear } : Port).setFault .RETENTION_LOST 0 false

/-- The retention check: the marker intact keeps retained memory, the marker lost initialises it and writes it anew (R29, R200). -/
def Controller.retentionCheck (c : Controller) : Controller :=
  if c.run.marker then c.updRun fun r => { r with held := true }
  else
    { c with
      credit := { slots := Table.replicate 1024 .free }
      outlets := { c.outlets with entries := c.outlets.entries.map fun o => { o with lifetime := 0 } }
      port := c.port.retentionLost
      run := { c.run with siteTime := 0, timeValid := false, marker := true, held := false } }

/-- The stored copy that a failing store leaves: the factory settings, the TARIFF items and the level from a programmed fuse cell
(R175). -/
def SettingsBlock.factoryCopy (b : SettingsBlock) : Settings :=
  match b.fuseCell with
  | some t => { Settings.factory with tariff := t, level := .FUSED }
  | none => .factory

/-- The store integrity check: a failing store takes the factory copy, which then passes (R175). -/
def Controller.storeCheck (c : Controller) : Controller :=
  if c.settings.storeTorn then
    ({ c with settings := { c.settings with stored := c.settings.factoryCopy, storeTorn := false } } : Controller).setFault
      .SETTINGS_LOST
  else c

/-- A power-on reset (R202): the two checks, then the stages of R201. -/
def Controller.powerOnReset (c : Controller) : Controller :=
  let c1 := c.retentionCheck.storeCheck.unbindAll
  let c2 := ((c1.resetValues (fun o => (none, o.lifetime)) false .POWER_ON).updRun fun r => { r with sweepAt := none }).placementCheck
  if c.settings.storeTorn then c2.raise .settingsLost else c2

/-- The main supply falls: a commit in flight leaves the store incomplete (R175), the retained memory stays on the backup cell or loses
its marker (R200). -/
def Controller.supplyFalls (cellGood : Bool) (c : Controller) : Controller :=
  { c with
    settings := { c.settings with storeTorn := c.settings.storeTorn || c.settings.commit.isSome, commit := none }
    run := { c.run with supplyOn := false, cellGood := cellGood, marker := c.run.marker && cellGood } }

/-- MAIN_SUPPLY_FALL (R200, R202). -/
def execMainSupplyFall (cellGood : Bool) (s : State) : Host.Outcome State Fault Refusal :=
  onController (Controller.supplyFalls cellGood) s

/-- BACKUP_CELL_LOSS: with the main supply off the marker is lost (R200). -/
def execBackupCellLoss (s : State) : Host.Outcome State Fault Refusal :=
  onController (fun c => c.updRun fun r => { r with cellGood := false, marker := r.marker && r.supplyOn }) s

/-- POWER_ON: the main supply rises into its range (R202). A rise while it stands in range is a fall and a rise (log 8). -/
def execPowerOn (s : State) : Host.Outcome State Fault Refusal :=
  onController (fun c =>
    (((if c.run.supplyOn then c.supplyFalls c.run.cellGood else c).updRun fun r => { r with supplyOn := true }).powerOnReset)) s

end Sys2Proof.Machine
end

