-- ==== Sys2Proof/Machine/SettingCommands.lean ====
section
/-! DEFINITION. The settings block (chapter 9): setup, SETTING_WRITE and SETTING_READ, validation, commit, abandon, the lock levels, FUSE. -/

namespace Sys2Proof.Machine

/-- The settings block replaced. -/
def Controller.updSettings (f : SettingsBlock → SettingsBlock) (c : Controller) : Controller := { c with settings := f c.settings }

/-- The refusal of a command that needs setup and no commit in flight (R170, R172, R174, R177, R178). -/
def SettingsBlock.setupRefusal (b : SettingsBlock) : Option Status :=
  if !b.setupFlag then some .NOT_IN_SETUP else if b.commit.isSome then some .BUSY else none

/-! ### SETUP_BEGIN (R169) -/

/-- The lock level that a working copy is loaded with: KEYED where it is OPEN and the latch is set (R169). -/
def StoredLevel.raisedBy (latch : Bool) : StoredLevel → StoredLevel
  | .OPEN => if latch then .KEYED else .OPEN
  | l => l

/-- The working copy that SETUP_BEGIN loads (R169). -/
def SettingsBlock.loaded (b : SettingsBlock) : Working :=
  { settings := { b.stored with level := b.stored.level.raisedBy b.latch }, siteNumber := none, serial := none }

/-- The lowest bay that holds a session record (R169). -/
def Controller.lowestSession (c : Controller) : Option Bay := c.outlets.entries.lowest fun _ o => o.session.isSome

/-- SETUP_BEGIN (R169). -/
def execSetupBegin (s : State) : Host.Outcome State Fault Refusal :=
  command 0x50 (fun c =>
    if c.settings.commit.isSome then c.refuse 0x50 .BUSY
    else if c.settings.setupFlag then c.refuse 0x50 .WRONG_STATE
    else match c.lowestSession with
      | some b => c.answer 0x50 .NOT_QUIET (.lowestBay b)
      | none => (c.updSettings fun b => { b with working := some b.loaded }).ok 0x50 .none) s

/-! ### SETTING_WRITE (R170) and SETTING_READ (R171) -/

/-- A copy to judge a value's range against, which does not depend on the copy. -/
def SettingsBlock.probeCopy (b : SettingsBlock) : Working := { settings := b.stored, siteNumber := none, serial := none }

/-- The refusal of a TARIFF write by the level in force and KEYLOCK (the table of R176). -/
def tariffRefusal (level : Nat) (keyOpen : Bool) : Option Status :=
  if level = 0 then none
  else if level = 1 then if keyOpen then none else some .KEY_CLOSED
  else some .LOCKED_TARIFF

/-- The refusal of an IDENTITY write (R179). -/
def SettingsBlock.identityRefusal (b : SettingsBlock) : Item → Option Status
  | .siteNumber => if b.siteCell.isSome || (b.working.bind (·.siteNumber)).isSome then some .WRITTEN else none
  | .cabinetSerial => if b.serialCell.isSome || (b.working.bind (·.serial)).isSome then some .WRITTEN else none
  | _ => none

/-- The refusal of a SETTING_WRITE of an item whose value is in its range (R170, lines 2 to 5). -/
def Controller.writeRefusal (c : Controller) (it : Item) : Option Status :=
  match c.settings.setupRefusal with
  | some status => some status
  | none => match (if it.tariff then tariffRefusal c.settings.level c.lines.keylock.qualified else none) with
    | some status => some status
    | none => c.settings.identityRefusal it

/-- SETTING_WRITE (R170). -/
def execSettingWrite (group item : Nat) (index : Option Nat) (value : SettingValue) (s : State) :
    Host.Outcome State Fault Refusal :=
  command 0x51 (fun c => match itemOf group item index with
    | none => c.refuse 0x51 .BAD_PARAM
    | some it =>
      if (c.settings.probeCopy.write it value).isNone then c.refuse 0x51 .BAD_PARAM
      else match c.writeRefusal it with
        | some status => c.refuse 0x51 status
        | none =>
          (c.updSettings fun b => { b with working := b.working.bind fun w => w.write it value }).ok 0x51 (.written group item value)) s

/-- SETTING_READ (R171). -/
def execSettingRead (group item : Nat) (index : Option Nat) (s : State) : Host.Outcome State Fault Refusal :=
  command 0x52 (fun c => match itemOf group item index with
    | none => c.refuse 0x52 .BAD_PARAM
    | some it => c.ok 0x52 (.item group item (c.settings.read it))) s

/-! ### SETUP_END (R172) -/

/-- Check 1: the lowest bay whose m is above its P_max. -/
def Settings.powerFault (s : Settings) : Option Bay := s.bays.lowest fun _ b => decide (b.pMax < b.pMin)

/-- Two valid map entries that name the same outlet. -/
def MapEntry.clashes (x y : MapEntry) : Bool := x.valid && y.valid && x.node == y.node && x.outlet == y.outlet

/-- Check 2: the lowest bay whose outlet a lower-numbered bay names too. -/
def Settings.mapFault (s : Settings) : Option Bay :=
  s.bays.lowest fun i b => (s.bays.data.take i).any fun x => x.map.clashes b.map

/-- Two present reserve windows with the same start minute. -/
def sameStart (x y : Option ReserveWindow) : Bool :=
  match x, y with
  | some v, some w => v.start == w.start
  | _, _ => false

/-- Check 3: the lowest reserve window whose start minute a lower-numbered one has. -/
def Settings.windowFault (s : Settings) : Option (Fin 6) :=
  s.windows.lowest fun i w => (s.windows.data.take i).any fun x => sameStart x w

/-- Check 5: the lowest slot of a record on the wrong side of a region. -/
def CreditTable.wrongSide (t : CreditTable) (r : Region) : Option SlotNo :=
  t.slots.lowest fun k x => x.state != .FREE && !r.side x.kind k

/-- The first check of R172 that fails: group, item and index reported. -/
def Settings.invalid (s : Settings) (t : CreditTable) : Option (Nat × Nat × Option Nat) :=
  match s.powerFault with
  | some b => some (1, 2, some (b.val + 1))
  | none => match s.mapFault with
    | some b => some (1, 0, some (b.val + 1))
    | none => match s.windowFault with
      | some i => some (0, 13, some i.val)
      | none =>
        if s.vHigh < s.vLow + 2 * s.vHys then some (4, 2, none)
        else (t.wrongSide s.region).map fun k => (3, 0, some k.val)

/-- A commit begins (R173). -/
def SettingsBlock.beginCommit (b : SettingsBlock) : SettingsBlock := { b with commit := some Config.commitMs }

/-- SETUP_END (R172). -/
def execSetupEnd (s : State) : Host.Outcome State Fault Refusal :=
  command 0x53 (fun c => match c.settings.setupRefusal with
    | some status => c.refuse 0x53 status
    | none => match c.settings.working.bind fun w => w.settings.invalid c.credit with
      | some (g, i, ix) => c.answer 0x53 .INVALID (.invalid g i ix)
      | none => (c.updSettings SettingsBlock.beginCommit).ok 0x53 (.committing true)) s

/-! ### Commit and abandon (R173, R174) -/

/-- The fuse cell after a completion: programmed when the working level is FUSED; nothing changes a programmed cell (R173, R178). -/
def SettingsBlock.fuseAfter (b : SettingsBlock) (w : Working) : Option Tariff :=
  b.fuseCell <|> (if w.settings.level = .FUSED then some w.settings.tariff else none)

/-- The settings block at the completion of a commit (R173, steps 1 to 4). -/
def SettingsBlock.complete (w : Working) (b : SettingsBlock) : SettingsBlock :=
  { b with stored := w.settings, working := none, commit := none, fuseCell := b.fuseAfter w
           siteCell := b.siteCell <|> w.siteNumber, serialCell := b.serialCell <|> w.serial }

/-- The outstanding setpoint of the outlet that a valid map entry names is removed (R131). -/
def Controller.forgetEntry (m : MapEntry) (c : Controller) : Controller :=
  if m.valid then c.updNode m.node fun n => { n with outOutlet := n.outOutlet.set m.outlet none } else c

/-- A bay whose map entry a commit changed: outstanding setpoints, the outlet, and the map check (R31, R126, R131). -/
def Controller.remapBay (before : Settings) (b : Bay) (c : Controller) : Controller :=
  let m := (c.bay b).map
  let old := (before.bays.get b).map
  if m = old then c
  else
    let c1 := ((c.forgetEntry old).forgetEntry m).updOutlet b (Outlet.remap m.valid)
    if m.valid && (c.node m.node).state != .ABSENT then c1.mapCheck b else c1

/-- The completion of a commit, one event (R173). -/
def Controller.completeCommit (w : Working) (c : Controller) : Controller :=
  let c1 := (c.updSettings (SettingsBlock.complete w)).raise .settingsCommitted
  (forBays (Controller.remapBay c.settings.stored) c1).judgeRelease

/-- COMMIT_COMPLETE: taken at any time while the commit state is COMMITTING (R173). -/
def execCommitComplete (s : State) : Host.Outcome State Fault Refusal :=
  event (fun c => match c.settings.commit, c.settings.working with
    | some _, some w => c.completeCommit w
    | _, _ => c) s

/-- The working copy that an abandon commits: the stored copy with its level KEYED (R174). -/
def SettingsBlock.keyedCopy (b : SettingsBlock) : Working :=
  { settings := { b.stored with level := .KEYED }, siteNumber := none, serial := none }

/-- SETUP_ABANDON (R174). -/
def execSetupAbandon (s : State) : Host.Outcome State Fault Refusal :=
  command 0x54 (fun c => match c.settings.setupRefusal with
    | some status => c.refuse 0x54 status
    | none =>
      if c.settings.latch = true ∧ c.settings.stored.level = .OPEN then
        (c.updSettings fun b => { b with working := some b.keyedCopy }.beginCommit).ok 0x54 (.committing true)
      else (c.updSettings fun b => { b with working := none }).ok 0x54 .none) s

/-! ### Lock levels (R177, R178) -/

/-- The working level replaced. -/
def SettingsBlock.putLevel (l : StoredLevel) (b : SettingsBlock) : SettingsBlock :=
  { b with working := b.working.map fun w => { w with settings := { w.settings with level := l } } }

/-- The refusal of a LOCK_SET by the level in force (R177, lines 4 and 5). -/
def lockRefusal (inForce param : Nat) (keyOpen : Bool) : Option Status :=
  if inForce = fusedLevel ∨ (inForce = lockedLevel ∧ param < lockedLevel) then some .LOCKED_TARIFF
  else if param = 0 ∧ inForce = 1 ∧ keyOpen = false then some .KEY_CLOSED
  else none

/-- The effect of LOCK_SET (the table of R177). -/
def SettingsBlock.setLock (param : Nat) (b : SettingsBlock) : SettingsBlock :=
  if b.level = lockedLevel then b
  else if param = lockedLevel then
    { (if b.workingLevel = some .OPEN then b.putLevel .KEYED else b) with latch := true }
  else b.putLevel (if param = 0 then .OPEN else .KEYED)

/-- LOCK_SET (R177). -/
def execLockSet (level : Nat) (s : State) : Host.Outcome State Fault Refusal :=
  command 0x55 (fun c =>
    if lockedLevel < level then c.refuse 0x55 .BAD_PARAM
    else match c.settings.setupRefusal with
      | some status => c.refuse 0x55 status
      | none => match lockRefusal c.settings.level level c.lines.keylock.qualified with
        | some status => c.refuse 0x55 status
        | none =>
          let c' := c.updSettings (SettingsBlock.setLock level)
          c'.ok 0x55 (.level c'.settings.level)) s

/-- FUSE (R178). -/
def execFuse (s : State) : Host.Outcome State Fault Refusal :=
  command 0x56 (fun c => match c.settings.setupRefusal with
    | some status => c.refuse 0x56 status
    | none =>
      if c.settings.level = fusedLevel then c.refuse 0x56 .LOCKED_TARIFF
      else if !c.lines.keylock.qualified then c.refuse 0x56 .KEY_CLOSED
      else (c.updSettings (SettingsBlock.putLevel .FUSED)).ok 0x56 .none) s

end Sys2Proof.Machine
end

