-- ==== Sys2Proof/WellFormed.lean ====
section
/-! DEFINITION. Well-formed commands: every operand lies in what the bytes of its frame can carry (R205, R206). A value out of a command's own range stays well-formed: the command's owner refuses it. -/

namespace Sys2Proof

/-- A number that fits in `n` bytes. -/
def fits (n v : Nat) : Bool := decide (v < 256 ^ n)

/-- An optional number that fits in `n` bytes. -/
def fitsOpt (n : Nat) (v : Option Nat) : Bool := (v.map (fits n)).getD true

/-- A signed power: 4 bytes, two's complement (R205). -/
def fitsPower (i : Int) : Bool := decide (-2147483648 ≤ i ∧ i ≤ 2147483647)

/-- A record key fits its field (R205). -/
def RecordKey.wf : RecordKey → Bool
  | .code c => fits 8 c
  | .slot k => fits 2 k

/-- A setting value fits the widest form of its kind; the form of the item itself is `formed` of Machine/Frames.lean. -/
def SettingValue.wf : SettingValue → Bool
  | .num n => decide (-2147483648 ≤ n ∧ n < 281474976710656)
  | .map v a o m => fits 1 v && fits 1 a && fits 1 o && fits 1 m
  | .window none => true
  | .window (some (s, f, g)) => fits 2 s && fits 4 f && fits 1 g

/-- A pedestal's outlet entry fits its 16 bytes (R206). -/
def OutletReading.wf (e : OutletReading) : Bool := fitsPower e.request && fitsPower e.measured && fits 4 e.meter && fits 2 e.moduleFault

/-- A cap fits its 4 bytes, of which 0xFFFFFFFF means uncapped, so that −1 W cannot be sent (R206). -/
def Cap.wf : Cap → Bool
  | .watts w => fitsPower w && w != -1
  | .uncapped => true

/-- A battery's STATUS fits its 23 bytes (R206). -/
def BatteryReading.wf (b : BatteryReading) : Bool :=
  fitsPower b.power && fits 4 b.energy && fits 4 b.capacity && fitsPower b.chargeLimit && fitsPower b.dischargeLimit
    && fits 2 b.faultCode

/-- A STATUS fits its payload (R206). -/
def StatusBody.wf : StatusBody → Bool
  | .pedestal es => decide (1 ≤ es.length ∧ es.length ≤ 4) && es.all OutletReading.wf
  | .canopy p cap => fitsPower p && cap.wf
  | .battery b => b.wf
  | .supplyMeter p v => fitsPower p && fits 2 v

/-- A SET_ACK fits its payload (R206). -/
def AckBody.wf : AckBody → Bool
  | .outlet ix v => fits 1 ix && fitsPower v
  | .battery v => fitsPower v
  | .canopy cap => cap.wf

/-- The well-formed commands and events. -/
def Instr.wf : Instr → Bool
  | .issue code kind till tier credit validity single =>
    fits 8 code && fits 1 kind && fits 1 till && fits 1 tier && fits 4 credit && fits 4 validity && fits 1 single
  | .amend code add expiry tier => fits 8 code && fits 4 add && fitsOpt 4 expiry && fitsOpt 1 tier
  | .void code | .lookup code => fits 8 code
  | .retire key => key.wf
  | .readSlot k => fits 2 k
  | .findNext first _ changed => fits 2 first && fits 1 changed
  | .outletRead b | .outletEnable b | .outletDisable b | .outletStop b | .outletClear b => fits 1 b
  | .outletServiceStart b cap => fits 1 b && fits 4 cap
  | .nodeRead a => fits 1 a
  | .linkFrame a payload => fits 1 a && decide (payload.length ≤ 59)
  | .settingWrite g i ix v => fits 1 g && fits 1 i && fitsOpt 1 ix && v.wf
  | .settingRead g i ix => fits 1 g && fits 1 i && fitsOpt 1 ix
  | .lockSet l => fits 1 l
  | .setTime v => fits 4 v
  | .status _ body => body.wf
  | .setAck _ body => body.wf
  | .ident _ kind count rating serial => fits 1 kind && fits 1 count && fitsPower rating && fits 6 serial
  | .present _ outlet code => fits 1 outlet && fits 8 code
  | .paidAuth _ outlet cap => fits 1 outlet && fits 4 cap
  | .customerStop _ outlet => fits 1 outlet
  | _ => true

end Sys2Proof
end

