-- ==== Sys2Proof/Machine/Frames.lean ====
section
/-! DEFINITION. The bytes of frames: command transfers of the site port with their checks (R181, R182, R205), and the frames of the bay link with their check (R119, R206). -/

namespace Sys2Proof.Machine

/-! ### Numbers as bytes (R205) -/

/-- A number in `n` bytes, most significant byte first (R205). -/
def be : Nat → Nat → List Byte
  | 0, _ => []
  | n + 1, v => be n (v / 256) ++ [BitVec.ofNat 8 v]

/-- The number that bytes spell, most significant byte first. -/
def ofBe (bs : List Byte) : Nat := bs.foldl (fun acc b => acc * 256 + b.toNat) 0

/-- A signed number as the unsigned number of its 4 bytes, two's complement. -/
def ofSigned (i : Int) : Nat := (i % 4294967296).toNat

/-- The signed number of 4 bytes. -/
def toSigned (n : Nat) : Int := if n < 2147483648 then n else (n : Int) - 4294967296

/-- A power: 4 bytes, signed (R205). -/
def bePower (i : Int) : List Byte := be 4 (ofSigned i)

/-- A flag byte. -/
def flag (b : Bool) : List Byte := be 1 b.toNat

/-! ### Reading bytes -/

/-- A reader of bytes: it takes some from the front. -/
abbrev Reader (α : Type) := StateT (List Byte) Option α

/-- A number of `n` bytes. -/
def num (n : Nat) : Reader Nat := fun bs => if n ≤ bs.length then some (ofBe (bs.take n), bs.drop n) else none

/-- A signed power. -/
def power : Reader Int := toSigned <$> num 4

/-- `n` bytes as they stand. -/
def raw (n : Nat) : Reader (List Byte) := fun bs => if n ≤ bs.length then some (bs.take n, bs.drop n) else none

/-- Nothing can be read. -/
def stuck {α : Type} : Reader α := fun _ => none

/-- An optional parameter: a presence byte 0 or 1, then the field when 1 (R205). -/
def optional (n : Nat) : Reader (Option Nat) := do
  match ← num 1 with
  | 0 => pure none
  | 1 => some <$> num n
  | _ => stuck

/-! ### Parameters of the commands (R205) -/

/-- Whether an item takes an index, and the shape of its value (R205). -/
def itemForm (group item : Nat) : Option (Bool × Shape) :=
  match itemOf group item none with
  | some it => some (false, it.shape)
  | none => (itemOf group item (some 1)).map fun it => (true, it.shape)

/-- The index byte of an item that takes an index. -/
def indexByte (takes : Bool) : Reader (Option Nat) := if takes then some <$> num 1 else pure none

/-- A number value of `n` bytes. -/
def numValue (n : Nat) : Reader SettingValue := (fun v : Nat => .num v) <$> num n

/-- A map value: valid, node, outlet, managed. -/
def mapValue : Reader SettingValue := do
  let v ← num 1
  let a ← num 1
  let o ← num 1
  let m ← num 1
  pure (.map v a o m)

/-- A reserve window value: presence, minute, floor, grid-charge flag. -/
def windowValue : Reader SettingValue := do
  match ← num 1 with
  | 0 => pure (.window none)
  | 1 =>
    let m ← num 2
    let f ← num 4
    let g ← num 1
    pure (.window (some (m, f, g)))
  | _ => stuck

/-- A value of a shape. -/
def valueOf : Shape → Reader SettingValue
  | .power => (fun v => .num v) <$> power
  | .word => numValue 4
  | .half => numValue 2
  | .byte => numValue 1
  | .serial => numValue 6
  | .map => mapValue
  | .window => windowValue

/-- The parameters of a command code, read to the command (R205). -/
def params (code : Nat) : Reader Instr :=
  match code with
  | 0x10 => do
    let code ← num 8
    let kind ← num 1
    let till ← num 1
    let tier ← num 1
    let credit ← num 4
    let validity ← num 4
    let single ← num 1
    pure (.issue code kind till tier credit validity single)
  | 0x11 => do
    let code ← num 8
    let add ← num 4
    let expiry ← optional 4
    let tier ← optional 1
    pure (.amend code add expiry tier)
  | 0x12 => .void <$> num 8
  | 0x13 => do
    match ← num 1 with
    | 0 => (fun c => .retire (.code c)) <$> num 8
    | 1 => (fun k => .retire (.slot k)) <$> num 2
    | _ => stuck
  | 0x14 => .lookup <$> num 8
  | 0x15 => .readSlot <$> num 2
  | 0x16 => do
    let start ← num 2
    let states ← num 1
    let changed ← num 1
    pure (.findNext start (BitVec.ofNat 8 states) changed)
  | 0x20 => .outletRead <$> num 1
  | 0x21 => .outletEnable <$> num 1
  | 0x22 => .outletDisable <$> num 1
  | 0x23 => .outletStop <$> num 1
  | 0x24 => .outletClear <$> num 1
  | 0x25 => do
    let bay ← num 1
    let cap ← num 4
    pure (.outletServiceStart bay cap)
  | 0x30 => pure .poolRead
  | 0x31 => pure .batteryRead
  | 0x32 => pure .pauseAll
  | 0x33 => pure .resumeAll
  | 0x40 => .nodeRead <$> num 1
  | 0x41 => pure .linkRestart
  | 0x42 => pure .linkRequest
  | 0x43 => do
    let a ← num 1
    let n ← num 1
    let payload ← raw n
    pure (.linkFrame a payload)
  | 0x44 => pure .linkRelease
  | 0x50 => pure .setupBegin
  | 0x51 => do
    let g ← num 1
    let i ← num 1
    match itemForm g i with
    | none => stuck
    | some (takes, shape) =>
      let ix ← indexByte takes
      let v ← valueOf shape
      pure (.settingWrite g i ix v)
  | 0x52 => do
    let g ← num 1
    let i ← num 1
    match itemForm g i with
    | none => stuck
    | some (takes, _) =>
      let ix ← indexByte takes
      pure (.settingRead g i ix)
  | 0x53 => pure .setupEnd
  | 0x54 => pure .setupAbandon
  | 0x55 => .lockSet <$> num 1
  | 0x56 => pure .fuse
  | 0x60 => pure .start
  | 0x61 => pure .stop
  | 0x62 => .setTime <$> num 4
  | 0x63 => pure .readTime
  | 0x64 => pure .identify
  | 0x65 => pure .reset
  | 0x70 => pure .noticeRead
  | 0x71 => (fun v => .noticeClear (BitVec.ofNat 8 v)) <$> num 1
  | 0x72 => (fun v => .noticeEnable (BitVec.ofNat 8 v)) <$> num 1
  | 0x73 => pure .faultsRead
  | 0x74 => (fun v => .faultsClear (BitVec.ofNat 16 v)) <$> num 2
  | _ => stuck

/-- The codes of the commands of section 10.3 (R205). -/
def knownCode (code : Nat) : Bool :=
  (0x10 ≤ code && code ≤ 0x16) || (0x20 ≤ code && code ≤ 0x25) || (0x30 ≤ code && code ≤ 0x33) || (0x40 ≤ code && code ≤ 0x44)
    || (0x50 ≤ code && code ≤ 0x56) || (0x60 ≤ code && code ≤ 0x65) || (0x70 ≤ code && code ≤ 0x74)

/-! ### The checks of a command transfer (R182) -/

/-- What the four checks of R182 make of a transfer. -/
inductive FrameVerdict where
  | badFrame
  | unknownCommand
  | badParam
  | good (i : Instr)
  deriving DecidableEq, Repr

/-- The sum of a transfer's bytes modulo 256 (R181). -/
def byteSum (bs : List Byte) : Byte := bs.foldl (· + ·) 0

/-- The checks of R182 in their order. -/
def checkTransfer (bs : List Byte) : FrameVerdict :=
  match bs with
  | len :: code :: rest =>
    if bs.length ≠ len.toNat + 1 ∨ len.toNat < 2 ∨ 63 < len.toNat then .badFrame
    else if byteSum bs ≠ 0 then .badFrame
    else if !knownCode code.toNat then .unknownCommand
    else match params code.toNat rest.dropLast with
      | some (i, []) => .good i
      | _ => .badParam
  | _ => .badFrame

/-! ### Commands as bytes (R205) -/

/-- An optional parameter with its presence byte. -/
def optionalBytes (n : Nat) : Option Nat → List Byte
  | none => be 1 0
  | some v => be 1 1 ++ be n v

/-- A setting value in its shape. -/
def valueBytes : Shape → SettingValue → List Byte
  | .power, .num n => bePower n
  | .word, .num n => be 4 n.toNat
  | .half, .num n => be 2 n.toNat
  | .byte, .num n => be 1 n.toNat
  | .serial, .num n => be 6 n.toNat
  | .map, .map v a o m => be 1 v ++ (be 1 a ++ (be 1 o ++ be 1 m))
  | .window, .window none => be 1 0
  | .window, .window (some (m, f, g)) => be 1 1 ++ (be 2 m ++ (be 4 f ++ be 1 g))
  | _, _ => []

/-- An item name: group, item, and the index of an item that takes one. -/
def itemBytes (group item : Nat) (index : Option Nat) : List Byte :=
  be 1 group ++ (be 1 item ++ (index.map (be 1)).getD [])

/-- The parameter bytes of a site port command. -/
def paramBytes : Instr → List Byte
  | .issue code kind till tier credit validity single =>
    be 8 code ++ (be 1 kind ++ (be 1 till ++ (be 1 tier ++ (be 4 credit ++ (be 4 validity ++ be 1 single)))))
  | .amend code add expiry tier => be 8 code ++ (be 4 add ++ (optionalBytes 4 expiry ++ optionalBytes 1 tier))
  | .void code => be 8 code
  | .retire (.code code) => be 1 0 ++ be 8 code
  | .retire (.slot k) => be 1 1 ++ be 2 k
  | .lookup code => be 8 code
  | .readSlot k => be 2 k
  | .findNext start states changed => be 2 start ++ (be 1 states.toNat ++ be 1 changed)
  | .outletRead b => be 1 b
  | .outletEnable b => be 1 b
  | .outletDisable b => be 1 b
  | .outletStop b => be 1 b
  | .outletClear b => be 1 b
  | .outletServiceStart b cap => be 1 b ++ be 4 cap
  | .nodeRead a => be 1 a
  | .linkFrame a payload => be 1 a ++ (be 1 payload.length ++ payload)
  | .settingWrite g i ix v => itemBytes g i ix ++ ((itemForm g i).map fun f => valueBytes f.2 v).getD []
  | .settingRead g i ix => itemBytes g i ix
  | .lockSet l => be 1 l
  | .setTime v => be 4 v
  | .noticeClear s => be 1 s.toNat
  | .noticeEnable s => be 1 s.toNat
  | .faultsClear f => be 2 f.toNat
  | _ => []

/-- Whether a value is of a shape, in the range that the shape's bytes carry. -/
def shaped : Shape → SettingValue → Bool
  | .power, .num n => fitsPower n
  | .word, .num n => decide (0 ≤ n) && fits 4 n.toNat
  | .half, .num n => decide (0 ≤ n) && fits 2 n.toNat
  | .byte, .num n => decide (0 ≤ n) && fits 1 n.toNat
  | .serial, .num n => decide (0 ≤ n) && fits 6 n.toNat
  | .map, .map _ _ _ _ => true
  | .window, .window _ => true
  | _, _ => false

/-- A site port command whose operands have the form that its frame carries: the item of a setting command is one of R167, with an index
exactly when it takes one, and the value has the item's shape. -/
def formed : Instr → Bool
  | .settingWrite g i ix v => match itemForm g i with
    | some (takes, shape) => ix.isSome == takes && shaped shape v
    | none => false
  | .settingRead g i ix => match itemForm g i with
    | some (takes, _) => ix.isSome == takes
    | none => false
  | i => (commandCode i).isSome

/-- The command transfer of a site port command: length, code, parameters, check byte (R181). -/
def transfer (i : Instr) : List Byte :=
  let body := BitVec.ofNat 8 ((paramBytes i).length + 2) :: BitVec.ofNat 8 ((commandCode i).getD 0) :: paramBytes i
  body ++ [-byteSum body]

/-! ### The check of the bay link (R119, R206) -/

/-- One bit enters the cyclic code, generator 0x1021. -/
def crcBit (crc : BitVec 16) (bit : Bool) : BitVec 16 :=
  if crc.msb != bit then (crc <<< 1) ^^^ 0x1021#16 else crc <<< 1

/-- A byte enters, most significant bit first. -/
def crcByte (crc : BitVec 16) (b : Byte) : BitVec 16 := (List.range 8).foldl (fun c i => crcBit c (b.getLsbD (7 - i))) crc

/-- The 16-bit check of a frame's bytes from the address on, initial value 0xFFFF (R206). -/
def crc (bs : List Byte) : BitVec 16 := bs.foldl crcByte 0xFFFF#16

/-- The start delimiter (R206). -/
def delimiter : Byte := 0xA5#8

/-- A frame on the link: delimiter, the bytes from the address on, the check high byte first (R206). -/
def linkBytes (bs : List Byte) : List Byte := delimiter :: bs ++ be 2 (crc bs).toNat

/-- A frame of a kind with its payload (R206). -/
def linkFrame (address kind : Nat) (payload : List Byte) : List Byte :=
  linkBytes (be 1 address ++ be 1 kind ++ be 1 payload.length ++ payload)

/-! ### Frames that the controller sends (R120, R206) -/

/-- The number of an answer (R206). -/
def Answer.code : Answer → Nat
  | .ACCEPTED => 0
  | .NOT_MANAGED => 1
  | .SITE_BUSY => 2
  | .NOT_READY => 3
  | .ALREADY_FUNDED => 4
  | .UNKNOWN => 5
  | .VOIDED => 6
  | .SPENT => 7
  | .EXPIRED => 8
  | .IN_USE => 9
  | .TIER_LOW => 10

/-- A cap in its 4 bytes: 0xFFFFFFFF means uncapped (R206). -/
def capBytes : Cap → List Byte
  | .watts w => bePower w
  | .uncapped => be 4 u32Max

/-- The bytes of a frame that the controller sends by itself (R206). -/
def Sent.bytes : Sent → List Byte
  | .identReq a => linkFrame (a.val + 1) 0x01 []
  | .poll a => linkFrame (a.val + 1) 0x02 []
  | .setOutlet a ix w => linkFrame (a.val + 1) 0x03 (be 1 (ix.val + 1) ++ bePower w)
  | .setBattery a w => linkFrame (a.val + 1) 0x03 (bePower w)
  | .setCanopy a cap => linkFrame (a.val + 1) 0x03 (capBytes cap)
  | .window => linkFrame 0 0x04 []
  | .answer a outlet code tier remaining =>
    linkFrame (a.val + 1) 0x05 (be 1 outlet ++ be 1 code.code
      ++ (if code = .ACCEPTED then be 1 tier ++ be 4 remaining else []))
  | .notice a n => linkFrame (a.val + 1) 0x06 (be 1 (n.outlet.val + 1) ++ be 1 (if n.kind = .FUNDING_ENDED then 0 else 1))

/-- The bytes of a raw frame: the given bytes in place of kind, length and payload (R148, R206). -/
def RawExchange.frame (x : RawExchange) : List Byte := linkBytes (be 1 (x.address.val + 1) ++ x.bytes)

/-! ### Frames that the controller receives (R119, R120, R206) -/

/-- The content of a frame whose delimiter and check are correct: the address and the bytes from the kind to the last payload byte. -/
def received (bs : List Byte) : Option (Nat × List Byte) :=
  match bs with
  | d :: address :: rest =>
    let content := rest.take (rest.length - 2)
    if d = delimiter ∧ 2 ≤ rest.length ∧ ofBe (rest.drop (rest.length - 2)) = (crc (address :: content)).toNat then
      some (address.toNat, content)
    else none
  | _ => none

/-- An outlet entry of a pedestal's STATUS (R206). The bits of its flags byte above bit 1 are not looked at (log 38). -/
def outletEntryOf : Reader OutletReading := do
  let plug ← num 1
  let request ← power
  let measured ← power
  let meter ← num 4
  let flags ← num 1
  let fault ← num 2
  if plug ≤ 1 then
    pure { plugged := plug == 1, request := request, measured := measured, meter := meter, vehicleDone := flags.testBit 0
           customerPause := flags.testBit 1, moduleFault := fault }
  else stuck

/-- So many outlet entries. -/
def outletEntriesOf : Nat → Reader (List OutletReading)
  | 0 => pure []
  | n + 1 => do
    let e ← outletEntryOf
    let es ← outletEntriesOf n
    pure (e :: es)

/-- A cap read from its 4 bytes. -/
def capOf : Reader Cap := (fun n => if n = u32Max then .uncapped else .watts (toSigned n)) <$> num 4

/-- The contents of a STATUS of a node of a kind (R206). The bits of a battery's flags byte above bit 1 are not looked at (log 38). -/
def statusOf (kind : NodeKind) (outlets : Nat) : Reader StatusBody :=
  match kind with
  | .PEDESTAL => .pedestal <$> outletEntriesOf outlets
  | .CANOPY => do
    let p ← power
    let cap ← capOf
    pure (.canopy p cap)
  | .BATTERY => do
    let p ← power
    let e ← num 4
    let u ← num 4
    let chg ← power
    let dis ← power
    let flags ← num 1
    let fault ← num 2
    pure (.battery { power := p, energy := e, capacity := u, chargeLimit := chg, dischargeLimit := dis, full := flags.testBit 0
                     empty := flags.testBit 1, faultCode := fault })
  | .SUPPLY_METER => do
    let p ← power
    let v ← num 2
    pure (.supplyMeter p v)

/-- The contents of a SET_ACK of a node of a kind (R206). -/
def ackOf (kind : NodeKind) : Reader AckBody :=
  match kind with
  | .PEDESTAL => do
    let ix ← num 1
    let v ← power
    pure (.outlet ix v)
  | .CANOPY => .canopy <$> capOf
  | _ => .battery <$> power

/-- A REPORT of an address (R206). -/
def reportOf (a : Addr) : Reader Instr := do
  let outlet ← num 1
  match ← num 1 with
  | 0 => (fun code => .present a outlet code) <$> num 8
  | 1 => (fun cap => .paidAuth a outlet cap) <$> num 4
  | 2 => pure (.customerStop a outlet)
  | _ => stuck

/-- An IDENT of an address (R206). -/
def identOf (a : Addr) : Reader Instr := do
  let kind ← num 1
  let count ← num 1
  let rating ← power
  let serial ← num 6
  pure (.ident a kind count rating serial)

/-- The contents of the reply that an exchange awaits, by its kind byte (R119). A REPORT is good from every address, also from a node that
is no PEDESTAL (log 39). -/
def replyOf (n : Node) (awaited : Sent) (a : Addr) (kind : Nat) : Reader Instr :=
  match awaited, kind with
  | .identReq _, 0x81 => identOf a
  | .poll _, 0x82 => match n.kind with
    | some k => (fun b => .status a b) <$> statusOf k n.outlets
    | none => stuck
  | .setOutlet .., 0x83 | .setBattery .., 0x83 | .setCanopy .., 0x83 => match n.kind with
    | some k => (fun b => .setAck a b) <$> ackOf k
    | none => stuck
  | .window, 0x84 => reportOf a
  | _, _ => stuck

/-- The address that a reply to a frame must carry; none for a WINDOW, which any address 1..30 may answer (R119). -/
def Sent.address : Sent → Option Addr
  | .identReq a | .poll a | .setOutlet a _ _ | .setBattery a _ | .setCanopy a _ | .answer a _ _ _ _ | .notice a _ => some a
  | .window => none

/-- The row that a frame received while a reply is awaited is: the good reply of R119, or a discarded frame. -/
def receivedRow (node : Addr → Node) (awaited : Sent) (bs : List Byte) : Instr :=
  let row : Option Instr := do
    let (address, content) ← received bs
    let a ← addrOf? address
    match content with
    | kind :: len :: payload =>
      if len.toNat = payload.length ∧ (awaited.address = none ∨ awaited.address = some a) then
        match replyOf (node a) awaited a kind.toNat payload with
        | some (i, []) => some i
        | _ => none
      else none
    | _ => none
  row.getD (.discardedFrame bs)

/-- The row that a frame received during a raw exchange is: a correct check and the given address make it the reply (R148). -/
def receivedRawRow (x : RawExchange) (bs : List Byte) : Instr :=
  match received bs with
  | some (address, content) => if address = x.address.val + 1 then .rawReply x.address content else .discardedFrame bs
  | none => .discardedFrame bs

end Sys2Proof.Machine
end

