-- ==== Sys2Proof/Machine/SitePort.lean ====
section
/-! DEFINITION. The site port's own commands (chapter 10): notices, fault summary, and a command transfer that fails the frame checks. -/

namespace Sys2Proof.Machine

/-- The site-line part of NOTICE_READ (R165). -/
def Controller.linePart (c : Controller) : LinePart :=
  { gl0 := c.lines.gl0.qualified, gl1 := c.lines.gl1.qualified, gl2 := c.lines.gl2.qualified, stopAll := c.lines.stopAll.qualified
    keylock := c.lines.keylock.qualified, bank := c.lines.bank, keptBank := c.pool.keptBank, siteHold := c.outlets.siteHold
    window := c.outlets.window, lastVoltage := c.outlets.lastVoltage }

/-- The notice set as a response carries it. -/
def Port.noticeBody (lines : Option LinePart) (p : Port) : Body := .notices p.notices p.attn lines

/-- NOTICE_READ (R188). -/
def execNoticeRead (s : State) : Host.Outcome State Fault Refusal :=
  command 0x70 (fun c => c.ok 0x70 (c.port.noticeBody (some c.linePart))) s

/-- The site port changed, and the notice set after it answered. -/
def Controller.putPort (cmd : Nat) (f : Port → Port) (c : Controller) : Controller :=
  ({ c with port := f c.port } : Controller).ok cmd ((f c.port).noticeBody none)

/-- NOTICE_CLEAR (R189). -/
def execNoticeClear (sources : Byte) (s : State) : Host.Outcome State Fault Refusal :=
  command 0x71 (Controller.putPort 0x71 (Port.clearNotices sources)) s

/-- NOTICE_ENABLE (R190). -/
def execNoticeEnable (sources : Byte) (s : State) : Host.Outcome State Fault Refusal :=
  command 0x72 (Controller.putPort 0x72 (Port.enableNotices sources)) s

/-- FAULTS_READ (R193). -/
def execFaultsRead (s : State) : Host.Outcome State Fault Refusal :=
  command 0x73 (fun c => c.ok 0x73 (.faults c.port.faults)) s

/-- FAULTS_CLEAR (R193). A bit above the eleven flags names no flag (log 32). -/
def execFaultsClear (flags : BitVec 16) (s : State) : Host.Outcome State Fault Refusal :=
  command 0x74 (fun c =>
    ({ c with port := c.port.clearFaults flags } : Controller).ok 0x74 (.faults (c.port.clearFaults flags).faults)) s

/-- The command code that a transfer carries in its second byte; 0 when it has none (log 14). -/
def transferCode (bytes : List Byte) : Nat := ((bytes[1]?).map BitVec.toNat).getD 0

/-- The answer of a transfer that fails a check (R182, R183). -/
def Controller.refuseTransfer (code : Nat) (status : Status) (c : Controller) : Controller :=
  ({ c with port := c.port.take code } : Controller).refuse code status

/-- A transfer that is checked and reaches no owner (R182): BAD_FRAME sets the fault flag (R191). A transfer of no bytes is ignored, a
response transfer changes nothing (R181, R183), and one that passes the checks is a row of its own (log 14). -/
def Controller.badTransfer (bytes : List Byte) (c : Controller) : Controller :=
  if bytes = [] ∨ bytes[0]? = some 0 then c
  else match checkTransfer bytes with
    | .badFrame => (c.refuseTransfer (transferCode bytes) .BAD_FRAME).setFault .BAD_FRAME
    | .unknownCommand => c.refuseTransfer (transferCode bytes) .UNKNOWN_COMMAND
    | .badParam => c.refuseTransfer (transferCode bytes) .BAD_PARAM
    | .good _ => c

/-- UNKNOWN_COMMAND (R182). -/
def execUnknownCommand (bytes : List Byte) (s : State) : Host.Outcome State Fault Refusal :=
  event (Controller.badTransfer bytes) s

end Sys2Proof.Machine
end

