-- ==== Sys2Proof/Machine/Dispatch.lean ====
section
/-! DEFINITION. The meaning of every command and event: one arm per constructor of Instr. -/

namespace Sys2Proof.Machine

def exec (i : Instr) (s : State) : Host.Outcome State Fault Refusal :=
  match i with
  | .issue code kind till tier credit validity singleUse => Sys2Proof.Machine.execIssue code kind till tier credit validity singleUse s
  | .amend code add newExpiry newTier => Sys2Proof.Machine.execAmend code add newExpiry newTier s
  | .void code => Sys2Proof.Machine.execVoid code s
  | .retire key => Sys2Proof.Machine.execRetire key s
  | .lookup code => Sys2Proof.Machine.execLookup code s
  | .readSlot slot => Sys2Proof.Machine.execReadSlot slot s
  | .findNext start states changedOnly => Sys2Proof.Machine.execFindNext start states changedOnly s
  | .outletRead bay => Sys2Proof.Machine.execOutletRead bay s
  | .outletEnable bay => Sys2Proof.Machine.execOutletEnable bay s
  | .outletDisable bay => Sys2Proof.Machine.execOutletDisable bay s
  | .outletStop bay => Sys2Proof.Machine.execOutletStop bay s
  | .outletClear bay => Sys2Proof.Machine.execOutletClear bay s
  | .outletServiceStart bay cap => Sys2Proof.Machine.execOutletServiceStart bay cap s
  | .poolRead => Sys2Proof.Machine.execPoolRead s
  | .batteryRead => Sys2Proof.Machine.execBatteryRead s
  | .pauseAll => Sys2Proof.Machine.execPauseAll s
  | .resumeAll => Sys2Proof.Machine.execResumeAll s
  | .nodeRead address => Sys2Proof.Machine.execNodeRead address s
  | .linkRestart => Sys2Proof.Machine.execLinkRestart s
  | .linkRequest => Sys2Proof.Machine.execLinkRequest s
  | .linkFrame address payload => Sys2Proof.Machine.execLinkFrame address payload s
  | .linkRelease => Sys2Proof.Machine.execLinkRelease s
  | .setupBegin => Sys2Proof.Machine.execSetupBegin s
  | .settingWrite group item index value => Sys2Proof.Machine.execSettingWrite group item index value s
  | .settingRead group item index => Sys2Proof.Machine.execSettingRead group item index s
  | .setupEnd => Sys2Proof.Machine.execSetupEnd s
  | .setupAbandon => Sys2Proof.Machine.execSetupAbandon s
  | .lockSet level => Sys2Proof.Machine.execLockSet level s
  | .fuse => Sys2Proof.Machine.execFuse s
  | .start => Sys2Proof.Machine.execStart s
  | .stop => Sys2Proof.Machine.execStop s
  | .setTime value => Sys2Proof.Machine.execSetTime value s
  | .readTime => Sys2Proof.Machine.execReadTime s
  | .identify => Sys2Proof.Machine.execIdentify s
  | .reset => Sys2Proof.Machine.execReset s
  | .noticeRead => Sys2Proof.Machine.execNoticeRead s
  | .noticeClear sources => Sys2Proof.Machine.execNoticeClear sources s
  | .noticeEnable sources => Sys2Proof.Machine.execNoticeEnable sources s
  | .faultsRead => Sys2Proof.Machine.execFaultsRead s
  | .faultsClear flags => Sys2Proof.Machine.execFaultsClear flags s
  | .unknownCommand bytes => Sys2Proof.Machine.execUnknownCommand bytes s
  | .resetLine => Sys2Proof.Machine.execResetLine s
  | .powerOn => Sys2Proof.Machine.execPowerOn s
  | .mainSupplyFall cellGood => Sys2Proof.Machine.execMainSupplyFall cellGood s
  | .siteSecondTick => Sys2Proof.Machine.execSiteSecondTick s
  | .expirySweep => Sys2Proof.Machine.execExpirySweep s
  | .lineChange line active => Sys2Proof.Machine.execLineChange line active s
  | .gridLimitQualified line => Sys2Proof.Machine.execGridLimitQualified line s
  | .stopAsserted => Sys2Proof.Machine.execStopAsserted s
  | .stopReleased => Sys2Proof.Machine.execStopReleased s
  | .keylockQualified opened => Sys2Proof.Machine.execKeylockQualified opened s
  | .allocationRound => Sys2Proof.Machine.execAllocationRound s
  | .draw => Sys2Proof.Machine.execDraw s
  | .overdrawTimerExpiry bay => Sys2Proof.Machine.execOverdrawTimerExpiry bay s
  | .startTimerExpiry bay => Sys2Proof.Machine.execStartTimerExpiry bay s
  | .fundingWaitExpiry bay => Sys2Proof.Machine.execFundingWaitExpiry bay s
  | .holdOffExpiry bay => Sys2Proof.Machine.execHoldOffExpiry bay s
  | .pauseMinimumExpiry bay => Sys2Proof.Machine.execPauseMinimumExpiry bay s
  | .silenceHoldExpiry bay => Sys2Proof.Machine.execSilenceHoldExpiry bay s
  | .frameSent => Sys2Proof.Machine.execFrameSent s
  | .status address body => Sys2Proof.Machine.execStatus address body s
  | .statusTimeout => Sys2Proof.Machine.execStatusTimeout s
  | .setAck address body => Sys2Proof.Machine.execSetAck address body s
  | .setAckTimeout => Sys2Proof.Machine.execSetAckTimeout s
  | .ident address kind outletCount rating serial => Sys2Proof.Machine.execIdent address kind outletCount rating serial s
  | .identTimeout => Sys2Proof.Machine.execIdentTimeout s
  | .present address outlet code => Sys2Proof.Machine.execPresent address outlet code s
  | .paidAuth address outlet cap => Sys2Proof.Machine.execPaidAuth address outlet cap s
  | .customerStop address outlet => Sys2Proof.Machine.execCustomerStop address outlet s
  | .windowTimeout => Sys2Proof.Machine.execWindowTimeout s
  | .discardedFrame bytes => Sys2Proof.Machine.execDiscardedFrame bytes s
  | .rawReply address bytes => Sys2Proof.Machine.execRawReply address bytes s
  | .rawReplyTimeout => Sys2Proof.Machine.execRawReplyTimeout s
  | .ptExpired => Sys2Proof.Machine.execPtExpired s
  | .commitComplete => Sys2Proof.Machine.execCommitComplete s
  | .backupCellLoss => Sys2Proof.Machine.execBackupCellLoss s
  | .resetLineAsserted => Sys2Proof.Machine.execResetLineAsserted s

end Sys2Proof.Machine
end

