-- ==== Sys2Proof/Machine/Layouts.lean ====
section
/-! DEFINITION. The bytes of responses and of a response transfer (R183, R205, R207). Where the chapter gives no layout table, the fields stand in the order of the rule that lists them (log 21). -/

namespace Sys2Proof.Machine

/-! ### Optional fields (R205) -/

/-- An optional one-byte field: 0xFF when absent. -/
def optByte (o : Option Nat) : List Byte := be 1 (o.getD 0xFF)

/-- An optional slot or 16-bit count: 0xFFFF when absent. -/
def optHalf (o : Option Nat) : List Byte := be 2 (o.getD 0xFFFF)

/-- An optional timer or age: 0xFFFFFFFF when absent. A longer age than the largest value below that mark is sent as that value (log 47). -/
def optWord (o : Option Nat) : List Byte := be 4 ((o.map (min (u32Max - 1))).getD u32Max)

/-- An optional field with its presence byte. -/
def present (o : Option (List Byte)) : List Byte :=
  match o with
  | none => be 1 0
  | some bs => be 1 1 ++ bs

/-- An optional power with its presence byte. -/
def optPower (o : Option Int) : List Byte := present (o.map bePower)

/-- An optional flag: one byte, 0xFF when absent. -/
def optFlag (o : Option Bool) : List Byte := optByte (o.map Bool.toNat)

/-- A list of varying length: the entry count, then the entries. -/
def listed (es : List (List Byte)) : List Byte := be 1 es.length ++ es.flatten

/-! ### Enumerations, numbered in their listed order (R205, R207) -/

/-- The number of an outlet state, in the order of R33. -/
def OutletState.number : OutletState → Nat
  | .UNMAPPED => 0
  | .METER_ONLY => 1
  | .OFFLINE => 2
  | .DISABLED => 3
  | .IDLE => 4
  | .PLUGGED => 5
  | .QUEUED => 6
  | .STARTING => 7
  | .CHARGING => 8
  | .PAUSED => 9
  | .ENDING => 10
  | .FAULT => 11
  | .HOLDOFF => 12
  | .LOCKED => 13

/-- The number of an offline cause. -/
def OfflineCause.number : OfflineCause → Nat
  | .NOT_SEEN => 0
  | .SILENT => 1
  | .MAP_MISMATCH => 2
  | .LINK => 3

/-- The number of an end reason. -/
def EndReason.number : EndReason → Nat
  | .UNPLUGGED => 0
  | .VEHICLE_DONE => 1
  | .CUSTOMER_STOP => 2
  | .CAP_REACHED => 3
  | .FUNDING_ENDED => 4
  | .COMMAND => 5
  | .STOP_INPUT => 6
  | .FAULT => 7
  | .LINK_LOSS => 8
  | .LINK_DOWN => 9
  | .RESET => 10

/-- The number of a fault cause. -/
def FaultCause.number : FaultCause → Nat
  | .MODULE => 0
  | .START_TIMEOUT => 1
  | .START_OVERLOAD => 2
  | .OVERDRAW => 3

/-- The number of a funding kind. -/
def FundingKind.number : FundingKind → Nat
  | .CREDIT => 0
  | .PAID => 1
  | .SERVICE => 2

/-- The number of a first-pass outcome, in the order of R41. -/
def PassOutcome.number : PassOutcome → Nat
  | .MINIMUM => 0
  | .BUDGET => 1
  | .ADMITTED => 2
  | .WAITING => 3

/-- The number of a link state. -/
def LinkState.number : LinkState → Nat
  | .IDLE => 0
  | .DISCOVERING => 1
  | .RUNNING => 2
  | .PASS_THROUGH => 3
  | .DOWN => 4

/-- The number of a node state. -/
def NodeState.number : NodeState → Nat
  | .ABSENT => 0
  | .PRESENT => 1
  | .SILENT => 2
  | .IGNORED => 3

/-- The number of an ignore cause. -/
def IgnoreCause.number : IgnoreCause → Nat
  | .DUPLICATE_KIND => 0
  | .DUPLICATE_SERIAL => 1
  | .BAD_IDENT => 2

/-- The number of a window phase. -/
def Phase.number : Phase → Nat
  | .NONE => 0
  | .GRANT_PENDING => 1
  | .HELD => 2

/-- The number of a side of the supply window. -/
def Side.number : Side → Nat
  | .LOW => 0
  | .HIGH => 1

/-- The number of a reset cause, in the order of R203. -/
def ResetCause.number : ResetCause → Nat
  | .POWER_ON => 0
  | .RESET_LINE => 1
  | .RESET_COMMAND => 2

/-- The number of a cause within its source, in the order of R186. -/
def Cause.number : Cause → Nat
  | .receiptBind | .outletSessionEnd | .nodeAttached | .linkDiscovered | .supplyOutLow | .inputBank | .settingsCommitted | .timeSet => 0
  | .receiptUnbind | .outletFault | .nodeSilent | .linkDown | .supplyOutHigh | .inputStopAsserted | .settingsLost => 1
  | .receiptExhausted | .outletLocked | .nodeReturned | .linkPtExpired | .supplyBackIn | .inputStopReleased => 2
  | .receiptLapse | .outletMeter | .nodeDuplicateKind | .inputKeyOpened => 3
  | .receiptRelocated | .outletAckMismatch | .nodeDuplicateSerial | .inputKeyClosed => 4
  | .receiptDiscarded | .outletMapMismatch | .nodeBadIdent => 5
  | .nodeChainFault => 6
  | .nodeAckMismatch => 7

/-! ### Records (R207) -/

/-- A byte of flags, bit 0 first. -/
def flagByte (fs : List Bool) : List Byte := be 1 (fs.foldr (fun f acc => f.toNat + 2 * acc) 0)

/-- The number of a spend reason. -/
def SpendReason.number : SpendReason → Nat
  | .CREDIT_ZERO => 0
  | .SINGLE_USE => 1

/-- The 70 bytes of a record (R207). The bytes of an absent last unbind time are 0 (log 45). -/
def Record.bytes (r : Record) : List Byte :=
  let st := r.statement
  be 1 r.state.bit ++ be 1 (if r.kind = .PASS then 1 else 0) ++ be 8 r.code ++ be 1 r.till ++ be 1 r.tier
    ++ flagByte [r.singleUse, r.voidPending, r.changed, st.interrupted, st.lastUnbind.isSome]
    ++ optByte (r.spendReason.map (·.number)) ++ be 4 r.granted ++ be 4 r.remaining ++ be 4 r.drawn ++ be 4 r.forfeited
    ++ be 4 r.issueTime ++ be 4 r.expiryTime ++ optByte (r.boundBay.map (·.val + 1)) ++ be 4 (r.bindingEnergy.getD 0)
    ++ be 4 st.solar ++ be 4 st.battery ++ be 4 st.grid ++ be 4 st.creditFunded ++ be 4 st.uncovered ++ be 2 st.sessions
    ++ optByte (st.lastBay.map (·.val + 1)) ++ be 4 (st.lastUnbind.getD 0)

/-! ### Outlets (R207) -/

/-- The 48 bytes of a session part (R207). The bytes of an absent start time are 0 (log 45). -/
def Session.bytes (ss : Session) : List Byte :=
  be 1 ss.kind.number ++ optHalf (ss.boundSlot.map (·.val)) ++ be 4 ss.cap ++ be 4 ss.paidEnergy ++ be 4 ss.energy ++ be 4 ss.solar
    ++ be 4 ss.battery ++ be 4 ss.grid ++ be 4 ss.creditFunded ++ be 4 ss.unfunded ++ be 4 ss.uncovered ++ be 4 ss.queuedTime
    ++ be 4 (ss.startTime.getD 0) ++ flagByte [ss.admitted, ss.interrupted, ss.startTime.isSome]

/-- The 53 bytes of a summary part (R207). -/
def Summary.bytes (x : Summary) : List Byte := x.session.bytes ++ be 1 x.reason.number ++ be 4 x.endTime

/-- A pedestal STATUS entry of 16 bytes (R206). -/
def readingBytes (e : OutletReading) : List Byte :=
  flag e.plugged ++ bePower e.request ++ bePower e.measured ++ be 4 e.meter ++ flagByte [e.vehicleDone, e.customerPause]
    ++ be 2 e.moduleFault

/-- The remaining ms of a timer. -/
def timerBytes (t : Option Timer) : List Byte := optWord (t.map (·.left))

/-- The 28 bytes of the fault window list: unused entries 0 (R207). -/
def faultListBytes (l : List Nat) : List Byte := ((List.range 7).map fun i => be 4 ((l[i]?).getD 0)).flatten

/-- The pause-reason set as a byte (R207). -/
def Reasons.bytes (r : Reasons) : List Byte := flagByte [r.budget, r.site, r.supply, r.customer, r.funding]

/-- The 114-byte fixed part of OUTLET_READ (R207). The bytes of an absent last fault's time are 0 (log 45). -/
def OutletView.fixedBytes (v : OutletView) : List Byte :=
  let s := v.settings
  let o := v.outlet
  be 1 (v.bay.val + 1) ++ flagByte [s.map.valid, s.map.managed] ++ be 1 (s.map.node.val + 1) ++ be 1 (s.map.outlet.val + 1)
    ++ be 4 s.pMax ++ be 4 s.pMin ++ be 1 s.priority ++ be 1 s.minTier ++ flagByte [s.paidContinuation, o.raiseReleased, o.changed]
    ++ be 1 o.state.number ++ optByte (o.offlineCause.map (·.number)) ++ optByte (o.beforeSilence.map (·.number)) ++ o.reasons.bytes
    ++ bePower o.inForce ++ optByte (o.pending.map fun p => if p.kind = .DECREASE then 0 else 1)
    ++ be 4 ((o.pending.map (·.target)).getD 0) ++ timerBytes o.overdraw ++ timerBytes o.startTimer ++ timerBytes o.fundingWait
    ++ timerBytes o.holdOff ++ timerBytes o.pauseMinimum ++ timerBytes o.silenceHold ++ be 1 o.faultList.length
    ++ faultListBytes o.faultList ++ optByte (o.lastFault.map fun f => f.1.number) ++ be 4 ((o.lastFault.map (·.2)).getD 0)
    ++ be 4 (min u32Max o.unattributed) ++ be 4 o.lifetime ++ (v.reading.map readingBytes).getD (List.replicate 16 0) ++ optWord v.age

/-- OUTLET_READ's fields: the fixed part, then session and summary behind presence bytes (R207). -/
def OutletView.bytes (v : OutletView) : List Byte :=
  v.fixedBytes ++ present (v.outlet.session.map (·.bytes)) ++ present (v.outlet.summary.map (·.bytes))

/-! ### The other responses -/

/-- A reading as a round used it, or absent before the first round (R87). The P_grid of a SAFE round has its value absent (log 46). -/
def readingUseBytes (u : Option ReadingUse) : List Byte :=
  optPower (u.bind (·.value)) ++ optWord (u.bind (·.age)) ++ optFlag (u.map (·.fresh))

/-- The round items of POOL_READ, each with its own mark where it is absent (R87, R205). -/
def roundBytes (r : Option RoundRecord) : List Byte :=
  let watts (f : RoundRecord → Int) : List Byte := optPower (r.map f)
  present (r.map fun x => be 4 x.time) ++ optByte (r.map fun x => if x.normal then 0 else 1) ++ optByte (r.map (·.bank))
    ++ watts (fun x => x.lImp) ++ readingUseBytes (r.map (·.pGrid)) ++ readingUseBytes (r.map (·.pPv))
    ++ readingUseBytes (r.map (·.pPvRaw)) ++ readingUseBytes (r.map (·.pBat)) ++ watts (·.sumOut) ++ watts (·.u) ++ watts (·.rSil)
    ++ watts (fun x => x.guardBand) ++ watts (fun x => x.cCab) ++ watts (fun x => x.cSafe) ++ watts (fun x => x.decay)
    ++ optByte (r.map (·.stagger)) ++ optPower (r.bind (·.s)) ++ watts (·.sEst) ++ optFlag (r.map (·.firstUsed)) ++ watts (·.bOff)
    ++ watts (·.cRaw) ++ watts (·.cTop) ++ watts (·.c)

/-- The managed bays with their computed allocations and outcomes (R87), each behind its bay number (log 21). -/
def PoolView.allocationBytes (v : PoolView) : List Byte :=
  listed ((baysWhere v.managed.get).map fun b =>
    be 1 (b.val + 1) ++ be 4 (v.computed.get b) ++ optByte ((v.round.bind fun r => r.outcomes.get b).map (·.number)))

/-- A queue entry (R87). -/
def QueueView.bytes (q : QueueView) : List Byte :=
  be 1 (q.entry.bay.val + 1) ++ be 1 q.entry.priority ++ be 1 q.priorityNow ++ be 1 (if q.entry.active then 0 else 1)

/-- POOL_READ's fields (R87). Battery setpoint and canopy cap are those of the delivery records and no round items (log 43). -/
def PoolView.bytes (v : PoolView) : List Byte :=
  be 4 v.roundCount ++ roundBytes v.round ++ v.allocationBytes ++ bePower v.setpoint ++ present (v.cap.map capBytes)
    ++ listed (v.queue.map (·.bytes))

/-- A node's address and state, each 0xFF when absent (R102, R205). -/
def nodeBytes (n : Option (Addr × NodeState)) : List Byte := optByte (n.map (·.1.val + 1)) ++ optByte (n.map (·.2.number))

/-- A node's readings in a response: a battery's flags a byte each (R102, R143, R205), and a pedestal's entries behind their count, each as
OUTLET_READ sends one (R207; log 44). -/
def listedReading : StatusBody → List Byte
  | .pedestal es => listed (es.map readingBytes)
  | .canopy p cap => bePower p ++ capBytes cap
  | .battery b =>
    bePower b.power ++ be 4 b.energy ++ be 4 b.capacity ++ bePower b.chargeLimit ++ bePower b.dischargeLimit ++ flag b.full
      ++ flag b.empty ++ be 2 b.faultCode
  | .supplyMeter p v => bePower p ++ be 2 v

/-- A reading with its age and freshness (R102). "Fresh or stale" is sent as a flag, 1 when fresh (log 21). -/
def ReadingView.bytes (r : ReadingView) : List Byte := listedReading r.body ++ optWord (some r.age) ++ flag r.fresh

/-- The figures of BATTERY_READ (R102). "Grid charging permitted or not" is sent as a flag, 1 when permitted (log 21). -/
def Storage.bytes (st : Storage) : List Byte :=
  present (st.windowStart.map (be 2)) ++ be 4 st.floor ++ flag st.gridCharge ++ be 1 (if st.allowed then 0 else 1)
    ++ optByte (st.lastClear.map fun c => if c then 0 else 1) ++ bePower st.bOff ++ present (st.pNeed.map bePower)
    ++ bePower st.battery.computed ++ present (st.battery.acked.map bePower) ++ present (st.battery.pending.map bePower)
    ++ present (st.canopy.computed.map capBytes) ++ present (st.canopy.acked.map capBytes) ++ present (st.canopy.pending.map capBytes)
    ++ present (st.netImport.map bePower)

/-- BATTERY_READ's fields (R102). -/
def StorageView.bytes (v : StorageView) : List Byte :=
  nodeBytes v.batteryNode ++ present (v.batteryReading.map (·.bytes)) ++ nodeBytes v.canopyNode
    ++ present (v.canopyReading.map (·.bytes)) ++ v.storage.bytes ++ be 4 v.roundCount

/-- The link part of NODE_READ (R143, R145). -/
def LinkPart.bytes (p : LinkPart) : List Byte :=
  be 1 p.state.number ++ be 4 p.cycles ++ be 1 p.allSilent ++ be 1 (p.probe.val + 1) ++ be 1 p.lastWindows ++ be 1 p.lastReports
    ++ be 1 p.phase.number ++ optWord p.windowTimer ++ be 2 p.frameCount ++ flag p.expired

/-- An identity, which a node holds in every state but ABSENT (R122, R205). -/
def Identity.bytes (x : Identity) : List Byte := be 1 x.kindCode ++ be 1 x.outletCount ++ bePower x.rating ++ be 6 x.serial

/-- The readings of a node, the arrival site time and the age, each absent without readings (R143; log 44). -/
def arrivalBytes (arr : Option Arrival) (age : Option Nat) : List Byte :=
  present (arr.map fun x => listedReading x.body) ++ present (arr.map fun x => be 4 x.time) ++ optWord age

/-- The notices and outstanding setpoints of a node (R122): those of four outlets, of a battery and of a canopy for every kind of node
(log 44). -/
def Node.waitingBytes (n : Node) : List Byte :=
  listed (n.notices.map fun x => be 1 (x.outlet.val + 1) ++ be 1 (if x.kind = .FUNDING_ENDED then 0 else 1))
    ++ (n.outOutlet.data.map fun x => present (x.map bePower)).flatten ++ present (n.outBattery.map bePower)
    ++ present (n.outCanopy.map capBytes)

/-- The node part of NODE_READ: the state alone for an ABSENT address (R143). -/
def Node.bytes (age : Option Nat) (n : Node) : List Byte :=
  if n.state = .ABSENT then be 1 n.state.number
  else be 1 n.state.number ++ optByte (n.ignoreCause.map (·.number)) ++ (n.identity.map (·.bytes)).getD [] ++ be 1 n.misses
    ++ arrivalBytes n.readings age ++ flag n.reportUsed ++ n.waitingBytes

/-- A notice entry (R188). -/
def NoticeEntry.bytes (e : NoticeEntry) : List Byte :=
  flag e.raised.isSome ++ optByte (e.raised.map fun r => r.1.number) ++ optByte (e.raised.map (·.2)) ++ flag e.enabled

/-- A two-valued level (R205): 0 for the value the manual lists first, 1 for the other. -/
def levelByte (first : Bool) : List Byte := be 1 (if first then 0 else 1)

/-- The site-line part (R165).
Its levels are enumerations of R205, numbered in the order in which R154 and R165 list them: ACTIVE 0, INACTIVE 1;
ASSERTED 0, RELEASED 1; OPEN 0, CLOSED 1; STANDING 0, NONE 1; IN 0, OUT 1.
The voltage takes 2 bytes behind the presence byte of an optional field (log 21). -/
def LinePart.bytes (p : LinePart) : List Byte :=
  levelByte p.gl0 ++ levelByte p.gl1 ++ levelByte p.gl2 ++ levelByte p.stopAll ++ levelByte p.keylock ++ be 1 p.bank
    ++ optByte p.keptBank ++ levelByte p.siteHold
    ++ flag p.window.isSome ++ optByte (p.window.map (·.number)) ++ present (p.lastVoltage.map (be 2))

/-- A fault entry (R193). -/
def FaultEntry.bytes (e : FaultEntry) : List Byte :=
  flag e.set ++ be 2 e.count ++ present (e.time.map fun t => be 4 t.1) ++ optFlag (e.time.map (·.2))

/-- A setting's value as SETTING_READ returns it (R171). -/
def ItemValue.bytes (shape : Shape) : ItemValue → List Byte
  | .num n => valueBytes shape (.num n)
  | .map m => flag m.valid ++ be 1 (m.node.val + 1) ++ be 1 (m.outlet.val + 1) ++ flag m.managed
  | .window w => present (w.map fun x => be 2 x.start ++ be 4 x.floor ++ flag x.gridCharge)
  | .identity n => present (n.map fun v => valueBytes shape (.num v))
  | .lock inForce stored working latch fused =>
    be 1 inForce ++ be 1 stored.number ++ optByte (working.map (·.number)) ++ flag latch ++ flag fused

/-- The shape of an item of a group. -/
def shapeOf (group item : Nat) : Shape := ((itemForm group item).map (·.2)).getD .byte

/-- The fields of a response. The level of ATTN is an enumeration of R205, active 0 and inactive 1 in the order of R187. VOID's void_pending is sent in every case, clear where the record was not BOUND, and READ_TIME's minute takes
2 bytes behind the presence byte of an optional field (log 21). -/
def Body.bytes : Body → List Byte
  | .none => []
  | .issued k t e => be 2 k.val ++ be 4 t ++ be 4 e
  | .amended a st r e t => be 4 a ++ be 1 st.bit ++ be 4 r ++ be 4 e ++ be 1 t
  | .voided f st p => be 4 f ++ be 1 st.bit ++ flag p
  | .record k r => be 2 k.val ++ r.bytes
  | .found k st code counts =>
    optHalf (k.map (·.val)) ++ optByte (st.map (·.bit)) ++ present (code.map (be 8)) ++ (counts.map (be 2)).flatten
  | .outlet v => v.bytes
  | .outletState st => be 1 st.number
  | .count n => be 1 n
  | .pool v => v.bytes
  | .storage v => v.bytes
  | .node part _ n age => part.bytes ++ n.bytes age
  | .granted t => be 2 t
  | .reply bs => bs
  | .lowestBay b => be 1 (b.val + 1)
  | .written g i v => valueBytes (shapeOf g i) v
  | .item g i v => v.bytes (shapeOf g i)
  | .invalid g i ix => be 1 g ++ be 1 i ++ optHalf ix
  | .committing b => flag b
  | .level l => be 1 l
  | .nodes p i => be 1 p ++ be 1 i
  | .time t v => be 4 t ++ flag v
  | .clock t v m held => be 4 t ++ flag v ++ present (m.map (be 2)) ++ be 1 (if held then 0 else 1)
  | .identity part rev site serial cause =>
    be 2 part ++ be 1 rev ++ present (site.map (be 4)) ++ present (serial.map (be 6)) ++ be 1 cause.number
  | .notices set attn lines =>
    (set.data.map NoticeEntry.bytes).flatten ++ (lines.map fun p => levelByte attn ++ p.bytes).getD []
  | .faults set => (set.data.map FaultEntry.bytes).flatten

/-! ### What the port sends (R181, R183, R205) -/

/-- The filler byte. -/
def filler : Byte := 0x00#8

/-- What the port sends during a command transfer: filler. -/
def sentInCommand (transfer : List Byte) : List Byte := transfer.map fun _ => filler

/-- What a response transfer returns from its second byte on: the response, or the status NOT_READY and nothing after it (R183). A
response transfer does not change the buffer. The bytes are those of the buffer also while the part is held in reset or without power
(log 8). -/
def Port.responseTransfer (p : Port) : List Byte :=
  match p.buffer with
  | .READY r => be 1 r.status.code ++ be 1 r.command ++ r.body.bytes
  | .EMPTY | .PENDING _ => be 1 notReadyCode

/-- What the port sends during a response transfer of so many bytes: filler in the first, and filler beyond the end of the response. -/
def Port.sentInResponse (p : Port) (n : Nat) : List Byte :=
  (filler :: (p.responseTransfer ++ List.replicate n filler)).take n

end Sys2Proof.Machine
end

