-- ==== Sys2Proof/Machine/Time.lean ====
section
/-! DEFINITION. One millisecond of time on an empty queue: the counts and timers move, and what has run out is queued in a fixed order (log 1, 2, 3, 4). -/

namespace Sys2Proof.Machine

/-! ### Time passes -/

/-- A running timer after a millisecond. -/
def Timer.elapse (t : Timer) : Timer := if t.running then { t with left := t.left - 1 } else t

/-- An outlet's timers after a millisecond. -/
def Outlet.elapse (o : Outlet) : Outlet :=
  { o with
    overdraw := o.overdraw.map Timer.elapse, startTimer := o.startTimer.map Timer.elapse
    fundingWait := o.fundingWait.map Timer.elapse, holdOff := o.holdOff.map Timer.elapse
    pauseMinimum := o.pauseMinimum.map Timer.elapse, silenceHold := o.silenceHold.map Timer.elapse }

/-- A count down by one, not below 0. -/
def countDown (t : Option Nat) : Option Nat := t.map fun n => n - 1

/-- A line's qualification after a millisecond. -/
def Line.elapse (l : Line) : Line := { l with left := countDown l.left }

/-- The lines' qualifications after a millisecond. -/
def Lines.elapse (l : Lines) : Lines :=
  { gl0 := l.gl0.elapse, gl1 := l.gl1.elapse, gl2 := l.gl2.elapse, stopAll := l.stopAll.elapse, keylock := l.keylock.elapse }

/-- The waits of the link after a millisecond. -/
def Link.elapse (l : Link) : Link :=
  { l with
    exchange := l.exchange.map fun ex => { ex with waiting := countDown ex.waiting }
    window := { l.window with timer := countDown l.window.timer
                              raw := l.window.raw.map fun x => { x with waiting := countDown x.waiting } } }

/-- The site second: the model's own count of ms, 0..999 (log 4). -/
def RunControl.secondDone (r : RunControl) : Bool := decide (1000 ≤ r.subSecond + 1)

/-- The site second's count after a millisecond. -/
def RunControl.subTick (r : RunControl) : RunControl := { r with subSecond := if r.secondDone then 0 else r.subSecond + 1 }

/-- The controller after a millisecond in which nothing else happened; without power, or held in reset, the site second alone moves. -/
def Controller.elapse (c : Controller) : Controller :=
  if c.taking then
    { c with
      outlets := { c.outlets with entries := c.outlets.entries.map Outlet.elapse }
      pool := { c.pool with roundTimer := countDown c.pool.roundTimer }
      link := c.link.elapse
      settings := { c.settings with commit := countDown c.settings.commit }
      lines := c.lines.elapse
      run := { c.run.subTick with ms := c.run.ms + 1 } }
  else if c.run.supplyOn || c.run.marker then { c with run := c.run.subTick }
  else c

/-! ### What has run out -/

/-- A row when a test holds. -/
def when (p : Bool) (i : Instr) : List Instr := if p then [i] else []

/-- A running timer has run out. -/
def timerDone (t : Option Timer) : Bool := timerRuns t && (t.map (·.left)) == some 0

/-- The expiries of an outlet's timers. -/
def Outlet.due (b : Bay) (o : Outlet) : List Instr :=
  when (timerDone o.overdraw) (.overdrawTimerExpiry b) ++ when (timerDone o.startTimer) (.startTimerExpiry b)
    ++ when (timerDone o.fundingWait) (.fundingWaitExpiry b) ++ when (timerDone o.holdOff) (.holdOffExpiry b)
    ++ when (timerDone o.pauseMinimum) (.pauseMinimumExpiry b) ++ when (timerDone o.silenceHold) (.silenceHoldExpiry b)

/-- The row of an exchange whose wait has run out. -/
def Sent.timeout : Sent → List Instr
  | .identReq _ => [.identTimeout]
  | .poll _ => [.statusTimeout]
  | .setOutlet _ _ _ | .setBattery _ _ | .setCanopy _ _ => [.setAckTimeout]
  | .window => [.windowTimeout]
  | .answer _ _ _ _ _ | .notice _ _ => []

/-- The waits of the link that have run out. -/
def Link.due (l : Link) : List Instr :=
  (match l.exchange with
   | some ex => if ex.waiting = some 0 then ex.sent.timeout else []
   | none => [])
  ++ when ((l.window.raw.bind (·.waiting)) == some 0) .rawReplyTimeout ++ when (l.window.timer == some 0) .ptExpired

/-- The lines whose qualification has run out. -/
def Lines.due (l : Lines) : List Instr :=
  when (l.gl0.left == some 0) (.gridLimitQualified 0) ++ when (l.gl1.left == some 0) (.gridLimitQualified 1)
    ++ when (l.gl2.left == some 0) (.gridLimitQualified 2)
    ++ when (l.stopAll.left == some 0) (if l.stopAll.wire then .stopAsserted else .stopReleased)
    ++ when (l.keylock.left == some 0) (.keylockQualified l.keylock.wire)

/-- Everything due in a controller that takes events, in the fixed order of log 3. -/
def Controller.due (c : Controller) : List Instr :=
  c.pool.draws.map (fun _ => .draw) ++ when c.run.sweepAt.isSome .expirySweep
    ++ ((List.finRange 24).map fun b => (c.outlet b).due b).flatten ++ when (c.pool.roundTimer == some 0) .allocationRound
    ++ c.link.due ++ when (c.settings.commit == some 0) .commitComplete ++ c.lines.due

/-- An idle step: a millisecond passes, and what is due is queued (log 1). -/
def State.idle (s : State) : State :=
  let c := s.ctl.elapse
  let second := when ((s.ctl.run.supplyOn || s.ctl.run.marker) && s.ctl.run.secondDone) .siteSecondTick
  { s with ctl := c, pending := second ++ (if c.taking then c.due else []) }

end Sys2Proof.Machine
end

