-- ==== Sys2Proof/Safety.lean ====
section
/-! DEFINITION. What it means for a step to go wrong. No meaning of this model faults or refuses: `Fault` is empty, and `notModelled` is for rows without a meaning, of which there are none. -/

namespace Sys2Proof

/-- A state from which a step answers a next state. -/
def Machine.State.goes (s : Machine.State) : Prop := ∃ t, Machine.step s = .next t

/-- An invariant that every step keeps. -/
def Invariant (p : Machine.State → Prop) : Prop := ∀ s t, p s → Machine.step s = .next t → p t

end Sys2Proof
end

