-- ==== Sys2Proof/Certificates/Slice0/Terms.lean ====
section
/-! DEFINITION. The words that the obligations share: frames over records and outlets, what a response buffer holds, the rows that act without power and those whose time has come, the frames that a visit sends, the items of the settings, and what a STOP or a reset leaves. -/

namespace Sys2Proof.Machine

/-- The rows that act while the controller takes no events: wires, power, reset pin, site second (R198, R200 to R202). -/
def wireOrPower : Instr → Bool
  | .lineChange _ _ | .resetLine | .resetLineAsserted | .powerOn | .mainSupplyFall _ | .backupCellLoss | .siteSecondTick => true
  | _ => false

/-- The state with other hardware and the same queue. -/
abbrev State.put (s : State) (c : Controller) : State := { s with ctl := c }

/-- Every record other than those named is the same. -/
def Controller.recordsBut (k : Option SlotNo) (c c' : Controller) : Prop := ∀ j, some j ≠ k → c'.record j = c.record j

/-- Two outlets are the same but for the raise released flag, which a release sets at any outlet (R54). -/
def Outlet.alike (o o' : Outlet) : Prop := { o' with raiseReleased := o.raiseReleased } = o

/-- Every outlet other than one is the same but for its raise released flag. -/
def Controller.outletsBut (b : Bay) (c c' : Controller) : Prop := ∀ x, x ≠ b → (c.outlet x).alike (c'.outlet x)

/-- The blocks that an event of one bay leaves alone: battery and canopy, settings, lines, run control. -/
def Controller.quietBlocks (c c' : Controller) : Prop :=
  c'.storage = c.storage ∧ c'.settings = c.settings ∧ c'.lines = c.lines ∧ c'.run = c.run

/-- The response buffer holds a response. -/
def Controller.holds (c : Controller) (command : Nat) (status : Status) (body : Body) : Prop :=
  c.port.buffer = .READY { status := status, command := command, body := body }

/-- A source of the notice set is raised with a cause. -/
def Controller.raised (c : Controller) (cause : Cause) : Prop :=
  ((c.port.notices.get cause.source.ix).raised.map (·.1)) = some cause

/-- A fault flag is set with the site time of a state. -/
def Controller.flagged (c : Controller) (flag : FaultFlag) (time : Nat) (valid : Bool) : Prop :=
  (c.port.faults.get flag.ix).set = true ∧ (c.port.faults.get flag.ix).time = some (time, valid)

/-- A slot that a new record may take: FREE and on its kind's side, under the region being committed too (R8). -/
def Controller.mayTake (c : Controller) (kind : RecordKind) (k : SlotNo) : Prop :=
  (c.record k).state = .FREE ∧ c.settings.stored.region.side kind k = true
    ∧ ∀ w, c.settings.commit.isSome = true → c.settings.working = some w → w.settings.region.side kind k = true

/-- A record's credit is in balance, granted is at most 2,000,000 credit units, a VOIDED record has remaining 0, and void_pending is set in
a BOUND record with remaining 0 alone (R3, R15). -/
def Record.balanced (r : Record) : Prop :=
  r.granted = r.remaining + r.drawn + r.forfeited ∧ r.granted ≤ 2000000 ∧ (r.state = .VOIDED → r.remaining = 0)
    ∧ (r.voidPending = true → r.state = .BOUND ∧ r.remaining = 0)

/-- No two non-FREE records hold the same code, and none holds code 0. -/
def Controller.uniqueCodes (c : Controller) : Prop :=
  (∀ k, (c.record k).state ≠ .FREE → (c.record k).code ≠ 0)
    ∧ ∀ j k, (c.record j).state ≠ .FREE → (c.record k).state ≠ .FREE → (c.record j).code = (c.record k).code → j = k

/-- The outlets that the end of a bay's session can touch: its own, and the one its bound record names, which in every run is the same
bay (R20). -/
def Controller.endTouches (c : Controller) (b x : Bay) : Prop :=
  x = b ∨ ∃ k, (c.outlet b).session.bind (·.boundSlot) = some k ∧ (c.record k).boundBay = some x

/-- What the end of a bay's session leaves alone: every other record, every outlet it does not touch, and the quiet blocks. -/
def Controller.endFrame (b : Bay) (c c' : Controller) : Prop :=
  c.recordsBut ((c.outlet b).session.bind (·.boundSlot)) c' ∧ (∀ x, ¬ c.endTouches b x → (c.outlet x).alike (c'.outlet x))
    ∧ c.quietBlocks c'

/-- A session has ended: none is held, and the summary is a copy with the reason and the end time (R39). -/
def Controller.endedWith (c' : Controller) (b : Bay) (reason : EndReason) (now : Nat) : Prop :=
  (c'.outlet b).session = none ∧ (c'.outlet b).reasons = .empty
    ∧ ∃ sm, (c'.outlet b).summary = some sm ∧ sm.reason = reason ∧ sm.endTime = now

/-- NOTICE_TO_NODE entries for a bay's outlet join the notice list of its known pedestal, in order and each once, and nothing else of the
link changes; with no such pedestal they reach no list (R132). -/
def Controller.tells (c c' : Controller) (b : Bay) (kinds : List NodeNoticeKind) : Prop :=
  let m := (c.bay b).map
  let n := c.node m.node
  let listens := m.valid = true ∧ n.known = true ∧ n.kind = some .PEDESTAL
  let joined := (kinds.map fun kind : NodeNoticeKind => ({ outlet := m.outlet, kind := kind } : NodeNotice)).foldl
    (fun l e => if e ∈ l then l else l ++ [e]) n.notices
  (listens → c'.link = { c.link with nodes := c'.link.nodes } ∧ c'.node m.node = { n with notices := joined }
    ∧ ∀ x, x ≠ m.node → c'.node x = c.node x)
  ∧ (¬ listens → c'.link = c.link)

/-- The refusals of R56 that come before an outlet command's own checks do not apply to a bay. -/
def Controller.commandable (c : Controller) (b : Bay) : Prop :=
  c.run.running = true ∧ (c.outlet b).state ≠ .UNMAPPED ∧ (c.outlet b).state ≠ .METER_ONLY
    ∧ ((c.outlet b).state = .OFFLINE → (c.bay b).map.managed = true)

/-- The plug state of a bay's latest reading, as PLUGGED or IDLE. -/
def Controller.plugOf (c : Controller) (b : Bay) : OutletState :=
  match c.reading b with
  | some r => if r.plugged then .PLUGGED else .IDLE
  | none => .IDLE

/-- A session opened at a bay with nothing delivered (R37): the new record, the standing reasons, QUEUED or PAUSED after them, and the
earlier notices for the bay's outlet gone from their list, no other list changed (R132). -/
def Controller.openedAt (c c' : Controller) (b : Bay) (kind : FundingKind) (slot : Option SlotNo) (cap : Nat) : Prop :=
  (c'.outlet b).session = some { kind := kind, boundSlot := slot, cap := cap, paidEnergy := 0, energy := 0, solar := 0, battery := 0,
                                 grid := 0, creditFunded := 0, unfunded := 0, uncovered := 0, queuedTime := c.run.siteTime,
                                 startTime := none, admitted := false, interrupted := false }
    ∧ (c'.outlet b).reasons = { budget := false, site := c.outlets.siteHold, supply := c.outlets.window.isSome
                                customer := ((c.reading b).map (·.customerPause)).getD false, funding := false }
    ∧ ((c'.outlet b).reasons = .empty → (c'.outlet b).state = .QUEUED
        ∧ ∃ e, e ∈ c'.pool.queue ∧ e.bay = b ∧ e.active = true)
    ∧ ((c'.outlet b).reasons ≠ .empty → (c'.outlet b).state = .PAUSED ∧ c'.pool.queue = c.pool.queue)
    ∧ ∀ x, (c'.node x).notices = if (c.bay b).map.valid = true ∧ x = (c.bay b).map.node
        then (c.node x).notices.filter fun e => e.outlet != (c.bay b).map.outlet else (c.node x).notices

/-- A REPORT's answer is being sent in the exchange that brought it (R118, R135). -/
def Controller.answering (c : Controller) (a : Addr) (outlet : Nat) (code : Answer) (tier remaining : Nat) : Prop :=
  (c.link.exchange.map (·.sent)) = some (.answer a outlet code tier remaining)

/-- A due REPORT has been answered, from `c` to `t`: the ANSWER carries what the rule of the report answers, the node's report-used flag is
set, the REPORT is counted, and records, outlets and the other blocks are as that rule leaves them (R135, R118). -/
def Controller.reported (c t : Controller) (a : Addr) (outlet : Nat) (x : Answered) : Prop :=
  let left := x.2.2.2
  t.answering a outlet x.1 x.2.1 x.2.2.1 ∧ t.node a = { left.node a with reportUsed := true } ∧ (∀ y, y ≠ a → t.node y = left.node y)
    ∧ t.link.reports = c.link.reports + 1 ∧ t.link.windows = c.link.windows ∧ t.link.state = c.link.state ∧ t.credit = left.credit
    ∧ t.outlets = left.outlets ∧ t.pool = left.pool ∧ t.port = left.port ∧ left.quietBlocks t

/-- A REPORT from an outlet of a known pedestal is due: a window awaits it, the node has not reported in this cycle, and a bay is mapped
to the outlet (R134, R135). -/
def Controller.reportDue (c : Controller) (a : Addr) (ix : OutIx) (b : Bay) : Prop :=
  c.link.awaited = some .window ∧ (c.node a).known = true ∧ (c.node a).reportUsed = false ∧ ix.val + 1 ≤ (c.node a).outlets
    ∧ c.bayAt a ix = some b

/-- The link runs an ordinary poll cycle: RUNNING, no STOP or LINK_RESTART waits, no window is asked for, and it is not STOP's final
cycle. -/
def Controller.ordinaryCycle (c : Controller) : Prop :=
  c.link.state = .RUNNING ∧ c.link.stopWaiting = false ∧ c.link.restartWaiting = false ∧ c.link.window.phase = .NONE
    ∧ c.link.finalCycle = false

/-- The link runs the final cycle of a STOP: RUNNING, and nothing waits for the exchange in progress (R142). -/
def Controller.lastCycle (c : Controller) : Prop :=
  c.link.state = .RUNNING ∧ c.link.stopWaiting = false ∧ c.link.restartWaiting = false ∧ c.link.window.phase = .NONE
    ∧ c.link.finalCycle = true

/-- An outlet whose overdraw and start timers a pass-through window freezes or lets run again: each keeps its remaining time and its freeze
by a silence (R52, R147, R153). -/
def Outlet.windowed (frozen : Bool) (o : Outlet) : Outlet :=
  { o with overdraw := o.overdraw.map fun x => { x with frozenByWindow := frozen }
           startTimer := o.startTimer.map fun x => { x with frozenByWindow := frozen } }

/-- An outlet's entry after a reset (R63): what the reset keeps is its summary and its lifetime energy. -/
def Outlet.resetEntry (valid : Bool) (summary : Option Summary) (lifetime : Nat) : Outlet :=
  { state := if valid then .OFFLINE else .UNMAPPED, offlineCause := if valid then some .NOT_SEEN else none, beforeSilence := none
    reasons := .empty, session := none, summary := summary, inForce := 0, pending := none, raiseReleased := false, overdraw := none
    startTimer := none, fundingWait := none, holdOff := none, pauseMinimum := none, silenceHold := none, faultList := []
    lastFault := none, baseline := none, unattributed := 0, lifetime := lifetime, changed := true }

/-- A line after a reset: its qualification begins against the level that the wire has (R154). -/
def Line.resetEntry (l : Line) : Line := { wire := l.wire, qualified := false, left := if l.wire then some 20 else none }

/-- A pass-through window or a silence freezes a timer (R50, R52); a timer that is not frozen has run out when no ms are left. -/
def ranOut (t : Option Timer) : Prop := ∃ x, t = some x ∧ x.left = 0 ∧ x.frozenBySilence = false ∧ x.frozenByWindow = false

/-- A frame of the link whose wait for a reply has run out. -/
def Controller.unheard (c : Controller) (p : Sent → Prop) : Prop := ∃ ex, c.link.exchange = some ex ∧ ex.waiting = some 0 ∧ p ex.sent

/-- The rows, but for the site second, whose time has come in a controller that takes events. -/
def Controller.rowDue (c : Controller) : Instr → Prop
  | .draw => c.pool.draws ≠ []
  | .expirySweep => c.run.sweepAt.isSome = true
  | .overdrawTimerExpiry b => ranOut (c.outlet b).overdraw
  | .startTimerExpiry b => ranOut (c.outlet b).startTimer
  | .fundingWaitExpiry b => ranOut (c.outlet b).fundingWait
  | .holdOffExpiry b => ranOut (c.outlet b).holdOff
  | .pauseMinimumExpiry b => ranOut (c.outlet b).pauseMinimum
  | .silenceHoldExpiry b => ranOut (c.outlet b).silenceHold
  | .allocationRound => c.pool.roundTimer = some 0
  | .identTimeout => c.unheard fun f => ∃ a, f = .identReq a
  | .statusTimeout => c.unheard fun f => ∃ a, f = .poll a
  | .setAckTimeout => c.unheard fun f => f.setpointTo.isSome = true
  | .windowTimeout => c.unheard fun f => f = .window
  | .rawReplyTimeout => ∃ raw, c.link.window.raw = some raw ∧ raw.waiting = some 0
  | .ptExpired => c.link.window.timer = some 0
  | .commitComplete => c.settings.commit = some 0
  | .gridLimitQualified i => (c.lines.get (gridLine i)).left = some 0
  | .stopAsserted => c.lines.stopAll.left = some 0 ∧ c.lines.stopAll.wire = true
  | .stopReleased => c.lines.stopAll.left = some 0 ∧ c.lines.stopAll.wire = false
  | .keylockQualified opened => c.lines.keylock.left = some 0 ∧ c.lines.keylock.wire = opened
  | _ => False

/-- What a STOP in RUNNING leaves of the site beside the link: STOPPED, every session ended with COMMAND, the queue and every computed
allocation gone, a battery setpoint of 0 W, and site hold, window, settings and lines as they stood (R197, R85, R101). -/
def Controller.haltedTo (c c' : Controller) : Prop :=
  c'.run = { c.run with running := false } ∧ (∀ b, (c'.outlet b).session = none)
    ∧ (∀ b, (c.outlet b).session.isSome = true → ((c'.outlet b).summary.map (·.reason)) = some .COMMAND)
    ∧ c'.pool.queue = [] ∧ c'.pool.roundTimer = none ∧ (∀ b, c'.pool.computed.get b = 0) ∧ c'.pool.firstRound = true
    ∧ c'.pool.sPrev = c.pool.sPrev ∧ c'.storage.battery.computed = 0 ∧ c'.settings = c.settings ∧ c'.lines = c.lines
    ∧ c'.outlets.siteHold = c.outlets.siteHold ∧ c'.outlets.window = c.outlets.window

/-- The link has entered IDLE: the node table is empty, no frame is sent, every mapped outlet is OFFLINE with an allocation of 0 W, and no
value of battery or canopy is acknowledged or pending (R123, R124, R52, R101). -/
def Controller.linkIdle (c : Controller) : Prop :=
  c.link.state = .IDLE ∧ (∀ a, c.node a = .absent) ∧ c.link.exchange = none ∧ c.link.window.phase = .NONE
    ∧ (∀ b, (c.bay b).map.valid = true → (c.outlet b).state = .OFFLINE ∧ (c.outlet b).inForce = 0 ∧ (c.outlet b).pending = none
      ∧ (c.outlet b).session = none)
    ∧ c.storage.battery.acked = none ∧ c.storage.battery.pending = none ∧ c.storage.canopy.acked = none
    ∧ c.storage.canopy.pending = none ∧ c.storage.allowed = false ∧ c.storage.bOff = 0

/-- A node is the lowest-addressed known one. -/
def Controller.lowestKnown (c : Controller) (a : Addr) : Prop := (c.node a).known = true ∧ ∀ x, x < a → (c.node x).known = false

/-- The POLL of a node's visit is being sent (R128, R129). -/
def Controller.pollsNext (c c' : Controller) (a : Addr) : Prop :=
  c'.link.exchange = some { sent := .poll a, tReply := c.inForce.tReply, waiting := none }

/-- A frame is being sent, in an exchange that has read T_reply (R118). -/
def Controller.sends (c : Controller) (f : Sent) : Prop :=
  c.link.exchange = some { sent := f, tReply := c.inForce.tReply, waiting := none }

/-- Step 4 of a cycle has begun: the first window, with every report-used flag clear (R128, R134). -/
def Controller.windowsBegin (c : Controller) : Prop :=
  c.sends .window ∧ c.link.windows = 1 ∧ c.link.reports = 0 ∧ ∀ x, (c.node x).reportUsed = false

/-- Step 3 of a cycle, from `c` to `t`: the first ABSENT address from the pointer upward, with 30 followed by 1, is asked, and the pointer
goes to the address after it; with no ABSENT address the windows begin (R133). -/
def Controller.probesNext (c t : Controller) : Prop :=
  let absent := fun x : Addr => (t.node x).state = .ABSENT
  let upward := fun x : Addr => (x.val + 30 - c.link.probe.val) % 30
  (∀ x, absent x → (∀ y, absent y → upward x ≤ upward y) → t.sends (.identReq x) ∧ t.link.probe.val = (x.val + 1) % 30)
    ∧ ((∀ x, ¬ absent x) → t.link.probe = c.link.probe ∧ t.windowsBegin)

/-- The visits of a cycle go on, from `c` to `t`, with the lowest known node from an address on; after the last visit, where a node is
PRESENT or none is known, the all-silent count is 0 and the attach probe follows (R128, R133, R139). -/
def Controller.visitsGoOn (c t : Controller) (start : Nat) : Prop :=
  (∀ x : Addr, start ≤ x.val → (t.node x).known = true → (∀ y : Addr, start ≤ y.val → y < x → (t.node y).known = false) →
    t.sends (.poll x) ∧ t.link.stage = .polled ∧ t.link.sentOutlets = [])
  ∧ ((∀ x : Addr, start ≤ x.val → (t.node x).known = false) →
    (∃ x, (t.node x).state = .PRESENT) ∨ (∀ x, (t.node x).known = false) → t.link.allSilent = 0 ∧ c.probesNext t)

/-- The visit to a node goes on, from `c` to `t`, with the frame that R130 gives: in step 1 the outlets with a pending DECREASE, in step 2
those with a released RAISE, then the battery's or canopy's pending value, then the oldest of the notices, and the next visit after them.
Each value sent is the pending one, an outlet's clamped to its P_max, and is recorded as outstanding (R131); a notice leaves the list as
it is sent (R132). The outlets of a step are fixed when it is reached (log 36). -/
def Controller.visitGoesOn (c t : Controller) (a : Addr) (notices : List NodeNotice) : Prop :=
  let n := t.node a
  let sent := c.link.sentOutlets
  let pending := fun ix : OutIx => (t.bayAt a ix).bind fun b => (t.outlet b).pending
  let released := fun ix : OutIx => ((t.bayAt a ix).map fun b => (t.outlet b).raiseReleased) == some true
  let decreases := (List.finRange 4).filter fun ix =>
    decide (ix.val < n.outlets) && ((pending ix).map (·.kind)) == some .DECREASE
  let raises := (List.finRange 4).filter fun ix =>
    decide (ix.val < n.outlets) && ((pending ix).map (·.kind)) == some .RAISE && released ix
  let passed := fun ix : OutIx => (pending ix).isNone || sent.contains ix
  let setpoint := fun (ix : OutIx) (st : Stage) => ∃ b, t.bayAt a ix = some b ∧ ∃ p, (t.outlet b).pending = some p
    ∧ t.sends (.setOutlet a ix (min p.target (t.bay b).pMax : Nat)) ∧ n.outOutlet.get ix = some (min p.target (t.bay b).pMax : Nat)
    ∧ t.link.stage = st ∧ t.link.sentOutlets = ix :: sent ∧ n.notices = notices
  let step4 := match notices with
    | e :: rest => t.sends (.notice a e) ∧ n.notices = rest ∧ t.link.stage = .notices
    | [] => n.notices = [] ∧ c.visitsGoOn t (a.val + 1)
  let step3 := match n.kind, t.storage.battery.pending, t.storage.canopy.pending with
    | some .BATTERY, some w, _ => t.sends (.setBattery a w) ∧ n.outBattery = some w ∧ t.link.stage = .notices ∧ n.notices = notices
    | some .CANOPY, _, some w => t.sends (.setCanopy a w) ∧ n.outCanopy = some w ∧ t.link.stage = .notices ∧ n.notices = notices
    | _, _, _ => step4
  let step2 := fun todo : List OutIx => match todo.dropWhile passed with
    | ix :: rest => setpoint ix (.raises rest)
    | [] => step3
  let step1 := fun todo : List OutIx => match todo.dropWhile passed with
    | ix :: rest => setpoint ix (.decreases rest)
    | [] => step2 raises
  match c.link.stage with
  | .polled => step1 decreases
  | .decreases todo => step1 todo
  | .raises todo => step2 todo
  | .notices => step4

/-- A frame of a visit is in progress: a POLL, a SETPOINT or a NOTICE_TO_NODE (R129 to R132). -/
def Controller.visits (c : Controller) : Prop :=
  ∃ ex, c.link.exchange = some ex ∧ ((∃ a, ex.sent = .poll a) ∨ ex.sent.setpointTo.isSome = true ∨ ∃ a n, ex.sent = .notice a n)

/-- A state with the final cycle of a STOP running, or not. -/
def State.inFinal (final : Bool) (s : State) : State := s.put { s.ctl with link := { s.ctl.link with finalCycle := final } }

/-- In the final cycle of a STOP a row does what it does in any cycle while a frame of a visit follows it; where none follows, the link
enters IDLE and STOP is answered (R142, R197). -/
def State.finalAsAny (s : State) (i : Instr) : Prop :=
  ∃ t u, exec i (s.inFinal false) = .next u ∧ exec i s = .next t
    ∧ (u.ctl.visits → t = u.inFinal true)
    ∧ (¬ u.ctl.visits → t.ctl.linkIdle ∧ t.ctl.run = s.ctl.run ∧ t.ctl.settings = s.ctl.settings ∧ t.ctl.lines = s.ctl.lines
      ∧ (s.ctl.port.buffer = .PENDING 0x61 → t.ctl.holds 0x61 .OK .none))

/-- A row that ends the exchange in progress with no reply to take: the wait for an IDENT, a STATUS, a SET_ACK or a REPORT has run out, an
ANSWER or a NOTICE_TO_NODE has been sent, or a REPORT is a chain fault (R118, R136). -/
def Controller.endsExchange (c : Controller) (i : Instr) : Prop :=
  (i = .identTimeout ∧ ∃ a, c.link.awaited = some (.identReq a)) ∨ (i = .statusTimeout ∧ ∃ a, c.link.awaited = some (.poll a))
    ∨ (i = .setAckTimeout ∧ ∃ f, c.link.awaited = some f ∧ f.setpointTo.isSome = true)
    ∨ (i = .windowTimeout ∧ c.link.awaited = some .window)
    ∨ (i = .frameSent ∧ ∃ ex, c.link.exchange = some ex ∧ ex.waiting = none ∧ ex.sent.unanswered = true)
    ∨ ∃ a n x, c.link.awaited = some .window ∧ (c.node a).reportUsed = true
        ∧ (i = .present a n x ∨ i = .paidAuth a n x ∨ i = .customerStop a n)

/-- A row that ends the exchange in progress with a good reply: an IDENT, a STATUS of the node's kind, or a SET_ACK to a setpoint that is
still recorded as sent (R118, R119). -/
def Controller.repliesTo (c : Controller) (i : Instr) : Prop :=
  (∃ a kind count rating serial, i = .ident a kind count rating serial ∧ c.link.awaited = some (.identReq a))
    ∨ (∃ a body, i = .status a body ∧ c.link.awaited = some (.poll a) ∧ (c.node a).accepts body = true)
    ∨ (∃ a ix w echo, i = .setAck a (.outlet (ix.val + 1) echo) ∧ c.link.awaited = some (.setOutlet a ix w)
        ∧ ((c.node a).outOutlet.get ix).isSome = true)
    ∨ (∃ a w echo, i = .setAck a (.battery echo) ∧ c.link.awaited = some (.setBattery a w) ∧ (c.node a).outBattery.isSome = true)
    ∨ ∃ a w echo, i = .setAck a (.canopy echo) ∧ c.link.awaited = some (.setCanopy a w) ∧ (c.node a).outCanopy.isSome = true

/-- A node has been entered from its IDENT, from `c` to `t`: PRESENT, or IGNORED with its cause and notice; its bays are checked, and a
battery's or canopy's acknowledged value is removed (R121, R126, R99, R100). -/
def Controller.enteredAt (c t : Controller) (a : Addr) (id : Identity) : Prop :=
  let cause := c.link.ignoreCause a id
  (t.node a).identity = some id ∧ (t.node a).ignoreCause = cause ∧ (t.node a).state = (if cause = none then .PRESENT else .IGNORED)
    ∧ (cause = some .DUPLICATE_KIND → t.raised .nodeDuplicateKind) ∧ (cause = some .DUPLICATE_SERIAL → t.raised .nodeDuplicateSerial)
    ∧ (cause = some .BAD_IDENT → t.raised .nodeBadIdent)
    ∧ (t.node a).misses = 0 ∧ (t.node a).readings = none ∧ (t.node a).reportUsed = false ∧ (t.node a).notices = []
    ∧ (cause = none → t.link.allSilent = 0)
    ∧ (cause = none → id.kindCode = 2 → t.storage.battery.acked = none) ∧ (cause = none → id.kindCode = 1 → t.storage.canopy.acked = none)
    ∧ ∀ b, (c.bay b).map.valid = true → (c.bay b).map.node = a →
      let found := cause = none ∧ id.kindCode = 0 ∧ (c.bay b).map.outlet.val < id.outletCount
      (¬ found → (t.outlet b).state = .OFFLINE ∧ (t.outlet b).offlineCause = some .MAP_MISMATCH ∧ t.raised .outletMapMismatch)
      ∧ (found → (c.outlet b).state = .OFFLINE → (c.outlet b).offlineCause = some .MAP_MISMATCH →
        (t.outlet b).offlineCause = some .NOT_SEEN)

/-! ### The items of the settings (R167, R205) -/

/-- An item's group byte, item byte and index byte, in the order of the table of R167 (R205). -/
def Item.named : Item → Nat × Nat × Option Nat
  | .bank i => (0, 0, some i.val)
  | .guardBand => (0, 1, none)
  | .cCab => (0, 2, none)
  | .cSafe => (0, 3, none)
  | .decay => (0, 4, none)
  | .tRound => (0, 5, none)
  | .tStale => (0, 6, none)
  | .stagger => (0, 7, none)
  | .tPmin => (0, 8, none)
  | .eLim => (0, 9, none)
  | .pDisSet => (0, 10, none)
  | .pChgSet => (0, 11, none)
  | .hBat => (0, 12, none)
  | .window i => (0, 13, some i.val)
  | .map b => (1, 0, some (b.val + 1))
  | .pMax b => (1, 1, some (b.val + 1))
  | .pMin b => (1, 2, some (b.val + 1))
  | .priority b => (1, 3, some (b.val + 1))
  | .minTier b => (1, 4, some (b.val + 1))
  | .paidContinuation b => (1, 5, some (b.val + 1))
  | .marginPct => (1, 6, none)
  | .marginAbs => (1, 7, none)
  | .tOvd => (1, 8, none)
  | .tStart => (1, 9, none)
  | .tHold => (1, 10, none)
  | .lockoutCount => (1, 11, none)
  | .wFault => (1, 12, none)
  | .tFund => (1, 13, none)
  | .tRes => (1, 14, none)
  | .tReply => (2, 0, none)
  | .tPt => (2, 1, none)
  | .regionSize => (3, 0, none)
  | .regionTop => (3, 1, none)
  | .regionComplement => (3, 2, none)
  | .vLow => (4, 0, none)
  | .vHigh => (4, 1, none)
  | .vHys => (4, 2, none)
  | .wPv => (5, 0, none)
  | .wBat => (5, 1, none)
  | .boost i => (5, 2, some i.val)
  | .lockLevel => (5, 3, none)
  | .siteNumber => (6, 0, none)
  | .cabinetSerial => (6, 1, none)

/-- The range of an item that holds a number (R7, R32, R65, R88, R109, R118, R145, R162, R167). -/
def Item.range : Item → Option (Nat × Nat)
  | .bank _ => some (0, 1000000)
  | .guardBand => some (0, 50000)
  | .cCab => some (0, 1000000)
  | .cSafe => some (0, 100000)
  | .decay => some (0, 50000)
  | .tRound => some (1, 10)
  | .tStale => some (1, 30)
  | .stagger => some (1, 4)
  | .tPmin => some (0, 300)
  | .eLim => some (0, 1000000)
  | .pDisSet | .pChgSet => some (0, 500000)
  | .hBat => some (0, 100000)
  | .pMax _ => some (1380, 50000)
  | .pMin _ => some (1000, 11000)
  | .priority _ => some (0, 31)
  | .minTier _ => some (0, 3)
  | .paidContinuation _ | .regionTop | .regionComplement => some (0, 1)
  | .marginPct => some (0, 25)
  | .marginAbs => some (0, 2000)
  | .tOvd => some (1, 60)
  | .tStart => some (5, 120)
  | .tHold => some (5, 600)
  | .lockoutCount => some (1, 7)
  | .wFault => some (60, 3600)
  | .tFund => some (10, 600)
  | .tRes => some (10, 300)
  | .tReply => some (5, 100)
  | .tPt => some (1, 30)
  | .regionSize => some (0, 1024)
  | .vLow => some (1800, 2300)
  | .vHigh => some (2300, 2760)
  | .vHys => some (0, 200)
  | .wPv | .wBat => some (0, 16)
  | .boost _ => some (0, 15)
  | .siteNumber => some (0, 4294967295)
  | .cabinetSerial => some (0, 2 ^ 48 - 1)
  | .map _ | .window _ | .lockLevel => none

/-- An item takes a value: a number in its range, a bank a multiple of 100 W, a region size of the seven; a map and a reserve window with
every field in its range; the lock level takes none (R167, R170). -/
def Item.takes (it : Item) (v : SettingValue) : Prop :=
  match it, v with
  | .map _, .map valid node outlet managed => valid ≤ 1 ∧ 1 ≤ node ∧ node ≤ 30 ∧ 1 ≤ outlet ∧ outlet ≤ 4 ∧ managed ≤ 1
  | .window _, .window none => True
  | .window _, .window (some (start, floor, gridCharge)) => start ≤ 1439 ∧ floor ≤ 2000000 ∧ gridCharge ≤ 1
  | .bank _, .num n => 0 ≤ n ∧ n ≤ 1000000 ∧ n % 100 = 0
  | .regionSize, .num n => n ∈ [0, 32, 64, 128, 256, 512, 1024]
  | it, .num n => ∃ r, it.range = some r ∧ (r.1 : Int) ≤ n ∧ n ≤ (r.2 : Int)
  | _, _ => False

/-- A value as SETTING_READ returns it is the value that a SETTING_WRITE carried. -/
def ItemValue.isWritten (x : ItemValue) (v : SettingValue) : Prop :=
  match x, v with
  | .num n, .num k => (n : Int) = k
  | .identity (some n), .num k => (n : Int) = k
  | .map m, .map valid node outlet managed =>
    m.valid.toNat = valid ∧ m.node.val + 1 = node ∧ m.outlet.val + 1 = outlet ∧ m.managed.toNat = managed
  | .window none, .window none => True
  | .window (some w), .window (some (start, floor, gridCharge)) =>
    w.start = start ∧ w.floor = floor ∧ w.gridCharge.toNat = gridCharge
  | _, _ => False

/-- A record as a reset's unbind leaves it (R28). -/
def Controller.recordAtReset (c : Controller) (k : SlotNo) : Record :=
  if (c.record k).state = .BOUND then (c.record k).unbind c.run.timeValid c.run.siteTime true else c.record k

/-- The credit table of `c'` is that of `c` after a reset under a pass region: every BOUND record unbound with its interrupted flag set
(R28), a record on its side in its slot, and the wrong-side ones moved or discarded in ascending order (R9); without one the notice set
holds no RECEIPT notice (R194). -/
def Controller.creditAfterReset (c c' : Controller) : Prop :=
  let region := c'.settings.stored.region
  let wrong := fun k : SlotNo => (c.recordAtReset k).state ≠ .FREE ∧ region.side (c.recordAtReset k).kind k = false
  (∀ k, (c.recordAtReset k).state ≠ .FREE → ¬ wrong k → c'.record k = c.recordAtReset k)
    ∧ ((∀ k, ¬ wrong k) → ∀ k, c'.record k = c.recordAtReset k)
    ∧ (∀ k, wrong k → (∀ x, wrong x → x = k) →
      (∀ j, (c.recordAtReset j).state = .FREE → region.side (c.recordAtReset k).kind j = true →
        (∀ i, i < j → ¬ ((c.recordAtReset i).state = .FREE ∧ region.side (c.recordAtReset k).kind i = true)) →
        c'.record j = { c.recordAtReset k with changed := true } ∧ c'.record k = .free ∧ c'.raised .receiptRelocated
          ∧ ∀ x, x ≠ j → x ≠ k → c'.record x = c.recordAtReset x)
      ∧ ((∀ j, ¬ ((c.recordAtReset j).state = .FREE ∧ region.side (c.recordAtReset k).kind j = true)) →
        c'.record k = .free ∧ c'.raised .receiptDiscarded ∧ ∀ x, x ≠ k → c'.record x = c.recordAtReset x))
    ∧ ((∀ k, ¬ wrong k) → (c'.port.notices.get Cause.receiptRelocated.source.ix).raised = none)
    ∧ c'.credit = ({ c' with credit := { slots := Table.ofFn c.recordAtReset } } : Controller).placementCheck.credit

/-- Where the removal of a reason leaves an outlet whose set held it: other reasons keep it paused; without one an admitted session waits
with BUDGET for the next round, and one not yet admitted is queued again (R44). An OFFLINE outlet moves in its state before silence, and
its queue entry and target wait (R43). -/
def Controller.resumedAt (c c' : Controller) (b : Bay) (left : Reasons) : Prop :=
  let o := c.outlet b
  let o' := c'.outlet b
  let resumes := left = .empty ∧ o.acting = .PAUSED
  let admitted := (o.session.map (·.admitted)) = some true
  (o'.state = .OFFLINE ↔ o.state = .OFFLINE)
    ∧ (¬ resumes → o'.reasons = left ∧ o'.acting = o.acting ∧ o'.pauseMinimum = o.pauseMinimum)
    ∧ (resumes → admitted → o'.reasons = { budget := true, site := false, supply := false, customer := false, funding := false }
      ∧ o'.acting = .PAUSED ∧ o'.pauseMinimum = none)
    ∧ (resumes → ¬ admitted → o'.reasons = .empty ∧ o'.acting = .QUEUED ∧ o'.overdraw = none
      ∧ (o.state ≠ .OFFLINE → (∃ e, e ∈ c'.pool.queue ∧ e.bay = b ∧ e.active = true) ∧ o'.pending = pendingFor o.inForce 0))

/-- An outlet has entered FAULT and left it for HOLDOFF or LOCKED, its session ended (R48). -/
def Controller.faultedAt (c c' : Controller) (b : Bay) (cause : FaultCause) : Prop :=
  (c'.outlet b).lastFault = some (cause, c.run.siteTime) ∧ ((c'.outlet b).state = .HOLDOFF ∨ (c'.outlet b).state = .LOCKED)
    ∧ (c'.outlet b).session = none ∧ c'.flagged cause.flag c.run.siteTime c.run.timeValid

end Sys2Proof.Machine
end

