-- ==== Sys2Proof/Certificates/Slice0/Obligations.lean ====
section
/-! DEFINITION. The obligations: what the rules of the manual say of the commands, the events and the state. -/

open Sys2Proof Sys2Proof.Machine

/-! ### Steps -/

/-- The command at the front of the queue is executed on the state with the rest of the queue. -/
def Obligations.FrontCommandIsExecutedOnRest : Prop :=
  ∀ (i : Instr) (rest : List Instr) (s : State), step { s with pending := i :: rest } = exec i { s with pending := rest }

/-- Every command and event answers a next state that differs in the hardware alone, and every state has a step. With the main supply off,
or held in reset, no row other than those of wires and power changes anything (R201, R202; log 8). -/
def Obligations.EveryCommandAnswersNextState : Prop :=
  (∀ (i : Instr) (s : State), ∃ c, exec i s = .next (s.put c)) ∧ (∀ s : State, s.goes)
  ∧ ∀ (i : Instr) (s : State), wireOrPower i = false → s.ctl.run.supplyOn = false ∨ s.ctl.run.resetHeld = true →
    exec i s = .next s

/-- On an empty queue a millisecond passes (log 1). The internal count rises by one; every timer that nothing freezes, the waits of the link,
the window timer, the round timer, a commit in flight and the qualifications count down by one, not below 0; site time and everything else
stay; and exactly the rows whose time has come are queued, the site second among them at every thousandth millisecond (log 4). With the
supply off or the RESET line held the site second alone moves, while the count of site time goes on (R198, R200). -/
def Obligations.EmptyQueuePassesOneMillisecond : Prop :=
  ∀ s : State, s.pending = [] →
    let down := fun x : Option Nat => x.map fun n => n - 1
    let ticks := fun x : Option Timer =>
      x.map fun y => if y.frozenBySilence = true ∨ y.frozenByWindow = true then y else { y with left := y.left - 1 }
    let second := 1000 ≤ s.ctl.run.subSecond + 1
    let run' := { s.ctl.run with subSecond := if second then 0 else s.ctl.run.subSecond + 1 }
    (s.ctl.taking = true → ∃ t, step s = .next t
      ∧ t.ctl.run = { run' with ms := s.ctl.run.ms + 1 } ∧ t.ctl.credit = s.ctl.credit ∧ t.ctl.storage = s.ctl.storage
      ∧ t.ctl.port = s.ctl.port ∧ t.ctl.pool = { s.ctl.pool with roundTimer := down s.ctl.pool.roundTimer }
      ∧ t.ctl.settings = { s.ctl.settings with commit := down s.ctl.settings.commit }
      ∧ (∀ line, t.ctl.lines.get line = { s.ctl.lines.get line with left := down (s.ctl.lines.get line).left })
      ∧ t.ctl.link = { s.ctl.link with
          exchange := s.ctl.link.exchange.map fun ex => { ex with waiting := down ex.waiting }
          window := { s.ctl.link.window with
            timer := down s.ctl.link.window.timer
            raw := s.ctl.link.window.raw.map fun x => { x with waiting := down x.waiting } } }
      ∧ t.ctl.outlets = { s.ctl.outlets with entries := t.ctl.outlets.entries }
      ∧ (∀ b, t.ctl.outlet b = { s.ctl.outlet b with
          overdraw := ticks (s.ctl.outlet b).overdraw, startTimer := ticks (s.ctl.outlet b).startTimer
          fundingWait := ticks (s.ctl.outlet b).fundingWait, holdOff := ticks (s.ctl.outlet b).holdOff
          pauseMinimum := ticks (s.ctl.outlet b).pauseMinimum, silenceHold := ticks (s.ctl.outlet b).silenceHold })
      ∧ ∀ i, i ∈ t.pending ↔ (i = .siteSecondTick ∧ second) ∨ t.ctl.rowDue i)
    ∧ (s.ctl.taking = false →
      let counts := s.ctl.run.supplyOn = true ∨ s.ctl.run.marker = true
      step s = .next { ctl := { s.ctl with run := if counts then run' else s.ctl.run }
                       pending := if counts ∧ second then [.siteSecondTick] else [] })

/-! ### Reads -/

/-- The commands that read without changing anything but the response buffer: POOL_READ (R87), BATTERY_READ (R102), NODE_READ (R143),
SETTING_READ (R171), READ_TIME (R199), IDENTIFY (R203), NOTICE_READ (R188), FAULTS_READ (R193). That POOL_READ takes its battery setpoint
and canopy cap from the delivery records, 0 W and present before the first round and after STOP, is the model's reading of R87 (log 43);
that SETTING_READ answers BAD_PARAM to an index given with an item that has none is its inference (log 31). -/
def Obligations.ReadCommandsAnswerAndChangeNothingElse : Prop :=
  ∀ s : State, s.ctl.taking = true →
    exec .poolRead s = .next (s.put (s.ctl.answer 0x30 .OK (.pool
      { roundCount := s.ctl.pool.roundCount, round := s.ctl.pool.lastRound, managed := Table.ofFn s.ctl.managed
        computed := s.ctl.pool.computed, setpoint := s.ctl.storage.battery.computed, cap := s.ctl.storage.canopy.computed
        queue := s.ctl.pool.queue.map fun e => { entry := e, priorityNow := s.ctl.priority e.bay } })))
    ∧ exec .batteryRead s = .next (s.put (s.ctl.answer 0x31 .OK (.storage
      { batteryNode := s.ctl.nodeView .BATTERY, batteryReading := s.ctl.readingView .BATTERY
        canopyNode := s.ctl.nodeView .CANOPY, canopyReading := s.ctl.readingView .CANOPY
        storage := s.ctl.storage, roundCount := s.ctl.pool.roundCount })))
    ∧ (∀ n, 1 ≤ n ∧ n ≤ 30 → ∃ a : Addr, a.val + 1 = n ∧
      exec (.nodeRead n) s = .next (s.put (s.ctl.answer 0x40 .OK
        (.node s.ctl.link.part a (s.ctl.node a) ((s.ctl.node a).readings.map fun r => s.ctl.run.ms - r.stamp)))))
    ∧ (∀ n, ¬(1 ≤ n ∧ n ≤ 30) → exec (.nodeRead n) s = .next (s.put (s.ctl.answer 0x40 .BAD_PARAM .none)))
    ∧ (∀ g i ix it, itemOf g i ix = some it →
      exec (.settingRead g i ix) s = .next (s.put (s.ctl.answer 0x52 .OK (.item g i (s.ctl.settings.read it)))))
    ∧ (∀ g i ix, itemOf g i ix = none → exec (.settingRead g i ix) s = .next (s.put (s.ctl.answer 0x52 .BAD_PARAM .none)))
    ∧ exec .readTime s = .next (s.put (s.ctl.answer 0x63 .OK (.clock s.ctl.run.siteTime s.ctl.run.timeValid
        (if s.ctl.run.timeValid then some (s.ctl.run.siteTime / 60 % 1440) else none) s.ctl.run.held)))
    ∧ exec .identify s = .next (s.put (s.ctl.answer 0x64 .OK
        (.identity 0x2418 1 s.ctl.settings.siteCell s.ctl.settings.serialCell s.ctl.run.cause)))
    ∧ exec .noticeRead s = .next (s.put (s.ctl.answer 0x70 .OK
        (.notices s.ctl.port.notices s.ctl.port.attn (some s.ctl.linePart))))
    ∧ exec .faultsRead s = .next (s.put (s.ctl.answer 0x73 .OK (.faults s.ctl.port.faults)))

/-! ### Credit table -/

/-- The pass region of three settings (R7), and that it is empty at factory default. -/
def Obligations.PassRegionOfSettings : Prop :=
  (∀ (r : Region) (slot : Nat), slot < 1024 →
    (r.pass slot = true ↔ ((if r.top then 1024 - r.size ≤ slot else slot < r.size) ↔ r.complement = false)))
  ∧ (∀ (r : Region) (slot : Nat), slot < 1024 → (r.side .PASS slot = true ↔ r.pass slot = true)
    ∧ (r.side .RECEIPT slot = true ↔ r.pass slot = false))
  ∧ (∀ c : Controller, c.inForce.region = c.settings.stored.region)
  ∧ Settings.factory.region.size = 0 ∧ Settings.factory.region.complement = false
  ∧ ∀ slot, slot < 1024 → Settings.factory.region.pass slot = false

/-- A new record takes the lowest-numbered FREE slot on its side, under the region being committed too while a commit is in flight, and no
slot when none qualifies (R8); the code index finds a non-FREE record that holds the code, never for code 0, and none only where no
non-FREE record holds it (R6). -/
def Obligations.SlotsAndCodesAreFound : Prop :=
  (∀ (c : Controller) (kind : RecordKind),
    (∀ k, c.placement kind = some k ↔ c.mayTake kind k ∧ ∀ j, j < k → ¬ c.mayTake kind j)
    ∧ (c.placement kind = none ↔ ∀ k, ¬ c.mayTake kind k))
  ∧ ∀ (c : Controller) (code : Nat),
    (∀ k, c.credit.findCode code = some k → (c.record k).state ≠ .FREE ∧ (c.record k).code = code ∧ code ≠ 0)
    ∧ (c.credit.findCode code = none ↔ code = 0 ∨ ∀ k, (c.record k).state = .FREE ∨ (c.record k).code ≠ code)

/-- ISSUE creates a LIVE record in the slot of R8, which its code then finds and which the LIVE count counts, and refuses in
the order of R11; a refused ISSUE changes the response alone. -/
def Obligations.IssueMakesALiveRecord : Prop :=
  ∀ (s : State) (code kind till tier credit validity single : Nat) (sg : Bool), s.ctl.taking = true → flagOf? single = some sg →
    let i := Instr.issue code kind till tier credit validity single
    let now := s.ctl.run.siteTime
    let refused := fun st => exec i s = .next (s.put (s.ctl.answer 0x10 st .none))
    (recordKindOf? kind = none → refused .BAD_PARAM)
    ∧ ∀ kd, recordKindOf? kind = some kd →
      let ranges := code ≠ 0 ∧ code < 2 ^ 64 ∧ till ≤ 63 ∧ tier ≤ 3 ∧ 1 ≤ credit ∧ credit ≤ 2000000 ∧ 1 ≤ validity ∧ validity ≤ 525600
        ∧ (kd = .PASS → till = 0 ∧ sg = false)
      (¬ ranges → refused .BAD_PARAM)
      ∧ (ranges → s.ctl.run.timeValid = false → refused .NO_TIME)
      ∧ (ranges → s.ctl.run.timeValid = true → 4294967295 < now + validity * 60 → refused .BAD_PARAM)
      ∧ (ranges → s.ctl.run.timeValid = true → now + validity * 60 ≤ 4294967295 →
        (∀ k, s.ctl.credit.findCode code = some k → refused .DUPLICATE)
        ∧ (s.ctl.credit.findCode code = none →
          (s.ctl.placement kd = none → refused .FULL)
          ∧ ∀ k, s.ctl.placement kd = some k →
            let r : Record :=
              { state := .LIVE, kind := kd, code := code, till := till, tier := tier, singleUse := sg, granted := credit
                remaining := credit, drawn := 0, forfeited := 0, issueTime := now, expiryTime := now + validity * 60, boundBay := none
                bindingEnergy := none, voidPending := false, spendReason := none, statement := .zero, changed := false }
            let c' := s.ctl.updRecord k fun _ => r
            exec i s = .next (s.put (c'.answer 0x10 .OK (.issued k now (now + validity * 60))))
            ∧ c'.credit.findCode code = some k ∧ c'.credit.count .LIVE = s.ctl.credit.count .LIVE + 1))

/-- AMEND adds what keeps granted within 2,000,000, replaces expiry time and tier, and changes the state by the table of R13; nothing else of
the controller but the response changes, and its refusals, in their order, change the response alone (R12, R13). -/
def Obligations.AmendAddsCreditAndState : Prop :=
  ∀ (s : State) (code add : Nat) (expiry tier : Option Nat), s.ctl.taking = true →
    let refused := fun st => exec (.amend code add expiry tier) s = .next (s.put (s.ctl.answer 0x11 st .none))
    let ranges := add ≤ 2000000 ∧ ∀ x, tier = some x → x ≤ 3
    (¬ ranges → refused .BAD_PARAM)
    ∧ (ranges → s.ctl.credit.findCode code = none → refused .NOT_FOUND)
    ∧ ∀ k, ranges → s.ctl.credit.findCode code = some k →
      let r := s.ctl.record k
      let wrong := r.state = .VOIDED ∨ (r.state = .SPENT ∧ r.spendReason = some .SINGLE_USE) ∨ (r.state = .BOUND ∧ r.voidPending = true)
      let a := min add (2000000 - r.granted)
      (wrong → refused .WRONG_STATE)
      ∧ (¬ wrong → expiry.isSome = true → s.ctl.run.timeValid = false → refused .NO_TIME)
      ∧ (∀ x, ¬ wrong → expiry = some x → s.ctl.run.timeValid = true → x ≤ s.ctl.run.siteTime → refused .BAD_PARAM)
      ∧ (¬ wrong → (∀ x, expiry = some x → s.ctl.run.timeValid = true ∧ s.ctl.run.siteTime < x) →
        ∃ r' : Record, exec (.amend code add expiry tier) s = .next (s.put ((s.ctl.updRecord k fun _ => r').answer 0x11
            (if a = add then .OK else .CLAMPED) (.amended a r'.state r'.remaining r'.expiryTime r'.tier)))
          ∧ r'.granted = r.granted + a ∧ r'.remaining = r.remaining + a ∧ r'.expiryTime = expiry.getD r.expiryTime
          ∧ r'.tier = tier.getD r.tier
          ∧ r' = { r with granted := r'.granted, remaining := r'.remaining, expiryTime := r'.expiryTime, tier := r'.tier
                          state := r'.state, spendReason := r'.spendReason }
          ∧ (r.state ≠ .SPENT → r'.spendReason = r.spendReason)
          ∧ (r.state = .LIVE ∨ r.state = .BOUND → r'.state = r.state)
          ∧ (r.state = .LAPSED → r'.state = if expiry.isSome then .LIVE else .LAPSED)
          ∧ (r.state = .SPENT → a = 0 → r'.state = .SPENT ∧ r'.spendReason = r.spendReason)
          ∧ (r.state = .SPENT → 0 < a → r'.spendReason = none
            ∧ r'.state = if s.ctl.run.timeValid = true ∧ r'.expiryTime ≤ s.ctl.run.siteTime then .LAPSED else .LIVE))

/-- VOID of a record that is not bound forfeits its remaining credit and cancels it (R14); RETIRE answers every field of the record and frees
its slot, which the FREE count counts and no code finds (R16); the refusals of both change the response alone. That the response to VOID
carries void_pending, clear, for such a record too is the model's choice (log 21). -/
def Obligations.VoidCancelsAndRetireFreesTheSlot : Prop :=
  (∀ (s : State) (code : Nat), s.ctl.taking = true →
     let refused := fun st => exec (.void code) s = .next (s.put (s.ctl.answer 0x12 st .none))
     (s.ctl.credit.findCode code = none → refused .NOT_FOUND)
     ∧ ∀ k, s.ctl.credit.findCode code = some k →
       let r := s.ctl.record k
       (r.kind = .PASS ∨ r.state = .VOIDED ∨ (r.state = .BOUND ∧ r.voidPending = true) → refused .WRONG_STATE)
       ∧ (r.kind = .RECEIPT → r.state = .LIVE ∨ r.state = .SPENT ∨ r.state = .LAPSED →
         exec (.void code) s = .next (s.put ((s.ctl.updRecord k fun r =>
           { r with state := .VOIDED, remaining := 0, forfeited := r.forfeited + r.remaining, spendReason := none }).answer
             0x12 .OK (.voided r.remaining .VOIDED false)))))
  ∧ (∀ (s : State) (key : RecordKey), s.ctl.taking = true →
       let refused := fun st => exec (.retire key) s = .next (s.put (s.ctl.answer 0x13 st .none))
       let named := fun k : SlotNo =>
         (∃ code, key = .code code ∧ s.ctl.credit.findCode code = some k)
           ∨ (key = .slot k.val ∧ (s.ctl.record k).state ≠ .FREE)
       (∀ n, key = .slot n → 1023 < n → refused .BAD_PARAM)
       ∧ (∀ code, key = .code code → s.ctl.credit.findCode code = none → refused .NOT_FOUND)
       ∧ (∀ k : SlotNo, key = .slot k.val → (s.ctl.record k).state = .FREE → refused .NOT_FOUND)
       ∧ ∀ k, named k →
         ((s.ctl.record k).state = .BOUND → refused .BOUND)
         ∧ ((s.ctl.record k).state = .LIVE → (s.ctl.record k).kind = .RECEIPT → refused .WRONG_STATE)
         ∧ ((s.ctl.record k).state ≠ .BOUND → ¬ ((s.ctl.record k).state = .LIVE ∧ (s.ctl.record k).kind = .RECEIPT) →
           let c' := s.ctl.updRecord k fun _ => Record.free
           exec (.retire key) s = .next (s.put (c'.answer 0x13 .OK (.record k (s.ctl.record k))))
           ∧ c'.credit.count .FREE = s.ctl.credit.count .FREE + 1
           ∧ (s.ctl.uniqueCodes → c'.credit.findCode (s.ctl.record k).code = none)))

/-- VOID of a bound record forfeits at once and withdraws the funding of its bay: with paid continuation the session waits and the record
stays BOUND with void_pending set; without it the session ends and the record goes VOIDED at that unbind (R15, R45, R39, R22). FUNDING_ENDED
joins the notice list of the bay's pedestal once, before the SESSION_ENDED of a session that ends (R45, R39, R132). -/
def Obligations.VoidOfBoundRecordWithdrawsFunding : Prop :=
  ∀ (s : State) (code : Nat) (k : SlotNo) (b : Bay) (ss : Session), s.ctl.taking = true → s.ctl.credit.findCode code = some k →
    (s.ctl.record k).kind = .RECEIPT → (s.ctl.record k).state = .BOUND → (s.ctl.record k).voidPending = false →
    (s.ctl.record k).boundBay = some b → (s.ctl.outlet b).session = some ss → ss.kind = .CREDIT → ss.boundSlot = some k →
    (s.ctl.outlet b).acting.inSession = true →
    ∃ t, exec (.void code) s = .next t
      ∧ t.ctl.holds 0x12 .OK (.voided (s.ctl.record k).remaining .BOUND true)
      ∧ (t.ctl.record k).remaining = 0
      ∧ (t.ctl.record k).forfeited = (s.ctl.record k).forfeited + (s.ctl.record k).remaining
      ∧ s.ctl.recordsBut (some k) t.ctl ∧ s.ctl.outletsBut b t.ctl ∧ s.ctl.quietBlocks t.ctl
      ∧ ((s.ctl.bay b).paidContinuation = true →
        (t.ctl.record k).state = .BOUND ∧ (t.ctl.record k).voidPending = true ∧ (t.ctl.outlet b).session = some ss
        ∧ (t.ctl.outlet b).reasons.funding = true
        ∧ ((t.ctl.outlet b).fundingWait.map (·.left)) = some (s.ctl.inForce.tFund * 1000) ∧ s.ctl.tells t.ctl b [.FUNDING_ENDED])
      ∧ ((s.ctl.bay b).paidContinuation = false →
        (t.ctl.record k).state = .VOIDED ∧ (t.ctl.outlet b).session = none
        ∧ ((t.ctl.outlet b).summary.map (·.reason)) = some .FUNDING_ENDED ∧ s.ctl.tells t.ctl b [.FUNDING_ENDED, .SESSION_ENDED])

/-- LOOKUP and READ_SLOT answer every field of the record and then clear its changed flag; nothing else changes (R17). FIND_NEXT answers the
lowest slot at or above its start in one of the named states, changed if asked so, with the six counts, and changes the response alone
(R18). That bits 6 and 7 of the set of states name nothing, and that a set with none of the six is answered BAD_PARAM, is the model's
choice (log 32). -/
def Obligations.CreditTableIsReadBySlotAndCode : Prop :=
  (∀ s : State, s.ctl.taking = true →
     (∀ code k, s.ctl.credit.findCode code = some k →
       exec (.lookup code) s = .next (s.put ((s.ctl.updRecord k fun r => { r with changed := false }).answer 0x14 .OK (.record k (s.ctl.record k)))))
     ∧ (∀ code, s.ctl.credit.findCode code = none →
       exec (.lookup code) s = .next (s.put (s.ctl.answer 0x14 .NOT_FOUND .none)))
     ∧ (∀ k : SlotNo, exec (.readSlot k.val) s = .next (s.put ((s.ctl.updRecord k fun r => { r with changed := false }).answer 0x15 .OK (.record k (s.ctl.record k)))))
     ∧ (∀ n, 1023 < n → exec (.readSlot n) s = .next (s.put (s.ctl.answer 0x15 .BAD_PARAM .none))))
  ∧ (∀ (s : State) (start : Nat) (states : Byte) (only : Nat) (ch : Bool), s.ctl.taking = true → flagOf? only = some ch →
       let matching := fun k : SlotNo => start ≤ k.val ∧ states.getLsbD (s.ctl.record k).state.bit = true
         ∧ (ch = true → (s.ctl.record k).changed = true)
       let counts := s.ctl.credit.counts
       (1023 < start ∨ states &&& 0x3F#8 = 0#8 →
         exec (.findNext start states only) s = .next (s.put (s.ctl.answer 0x16 .BAD_PARAM .none)))
       ∧ (start ≤ 1023 → states &&& 0x3F#8 ≠ 0#8 →
         (∀ k, matching k → (∀ j, j < k → ¬ matching j) →
           exec (.findNext start states only) s = .next (s.put (s.ctl.answer 0x16 .OK
             (.found (some k) (some (s.ctl.record k).state) (some (s.ctl.record k).code) counts))))
         ∧ ((∀ k, ¬ matching k) →
           exec (.findNext start states only) s = .next (s.put (s.ctl.answer 0x16 .OK (.found none none none counts))))))

/-- The unbind order: the new state is the first of the five lines that applies (R22). -/
def Obligations.UnbindOrderGivesNewState : Prop :=
  ∀ (valid : Bool) (now : Nat) (atReset : Bool) (r : Record),
    let r' := r.unbind valid now atReset
    let energy := r.bindingEnergy.getD 0
    (r.voidPending = true → r'.state = .VOIDED)
    ∧ (r.voidPending = false → r.remaining = 0 → r'.state = .SPENT ∧ r'.spendReason = some .CREDIT_ZERO)
    ∧ (r.voidPending = false → r.remaining ≠ 0 → r.singleUse = true → 0 < energy →
      r'.state = .SPENT ∧ r'.spendReason = some .SINGLE_USE ∧ r'.remaining = 0 ∧ r'.forfeited = r.forfeited + r.remaining)
    ∧ (r.voidPending = false → r.remaining ≠ 0 → ¬ (r.singleUse = true ∧ 0 < energy) → valid = true → r.expiryTime ≤ now →
      r'.state = .LAPSED)
    ∧ (r.voidPending = false → r.remaining ≠ 0 → ¬ (r.singleUse = true ∧ 0 < energy) → ¬ (valid = true ∧ r.expiryTime ≤ now) →
      r'.state = .LIVE)
    ∧ (¬ (r.voidPending = false ∧ r.remaining ≠ 0 ∧ r.singleUse = true ∧ 0 < energy) →
      r'.remaining = r.remaining ∧ r'.forfeited = r.forfeited)

/-- A draw below the remaining credit of the bound record it names is applied in full: record, statement, and the session's move from
unfunded to credit-funded energy (R23, R111). A draw that names no slot, or whose record is not BOUND with its bay, or has void_pending
set, applies nothing and leaves the pool's list; nothing else changes (R25, R110). DRAW takes the oldest draw formed (log 12). -/
def Obligations.DrawIsAppliedInFullOrNotAtAll : Prop :=
  (∀ (s : State) (d : Draw) (ds : List Draw) (k : SlotNo) (ss : Session), s.ctl.taking = true → s.ctl.pool.draws = d :: ds →
     d.slot = some k → (s.ctl.record k).state = .BOUND → (s.ctl.record k).boundBay = some d.bay →
     (s.ctl.record k).voidPending = false → d.d < (s.ctl.record k).remaining →
     (s.ctl.outlet d.bay).session = some ss → ss.kind = .CREDIT → ss.boundSlot = some k →
     ∃ t, exec .draw s = .next t ∧ t.ctl.pool = { s.ctl.pool with draws := ds }
       ∧ t.ctl.record k = { s.ctl.record k with
           remaining := (s.ctl.record k).remaining - d.d, drawn := (s.ctl.record k).drawn + d.d
           bindingEnergy := (s.ctl.record k).bindingEnergy.map fun x => satAdd u32Max x (d.p + d.b + d.g)
           statement := { (s.ctl.record k).statement with
             solar := satAdd u32Max (s.ctl.record k).statement.solar d.p
             battery := satAdd u32Max (s.ctl.record k).statement.battery d.b
             grid := satAdd u32Max (s.ctl.record k).statement.grid d.g
             creditFunded := satAdd u32Max (s.ctl.record k).statement.creditFunded (d.p + d.b + d.g)
             uncovered := satAdd u32Max (s.ctl.record k).statement.uncovered 0 } }
       ∧ (t.ctl.outlet d.bay).session = some { ss with
           unfunded := ss.unfunded - (d.p + d.b + d.g), creditFunded := satAdd u32Max ss.creditFunded (d.p + d.b + d.g)
           uncovered := satAdd u32Max ss.uncovered 0 }
       ∧ (t.ctl.outlet d.bay).state = (s.ctl.outlet d.bay).state ∧ t.ctl.port = s.ctl.port ∧ t.ctl.link = s.ctl.link
       ∧ s.ctl.recordsBut (some k) t.ctl ∧ s.ctl.outletsBut d.bay t.ctl ∧ s.ctl.quietBlocks t.ctl)
  ∧ (∀ (s : State) (d : Draw) (ds : List Draw), s.ctl.taking = true → s.ctl.pool.draws = d :: ds →
       (∀ k, d.slot = some k → ¬ ((s.ctl.record k).state = .BOUND ∧ (s.ctl.record k).boundBay = some d.bay)
         ∨ (s.ctl.record k).voidPending = true) →
       exec .draw s = .next (s.put ({ s.ctl with pool := { s.ctl.pool with draws := ds } })))

/-- A draw at or above the remaining credit exhausts the record: the rest is uncovered, the record goes SPENT with CREDIT_ZERO and is
unbound, and the funding of the bay is withdrawn after the increment counts as credit-funded: with paid continuation the session waits,
without it the summary shows the increment among its credit-funded energy (R24, R111, R112). FUNDING_ENDED joins the notice list of the
bay's pedestal once, before the SESSION_ENDED of a session that ends (R45, R39, R132). -/
def Obligations.DrawAtRemainingExhausts : Prop :=
  ∀ (s : State) (d : Draw) (ds : List Draw) (k : SlotNo) (ss : Session), s.ctl.taking = true → s.ctl.pool.draws = d :: ds →
    d.slot = some k → (s.ctl.record k).state = .BOUND → (s.ctl.record k).boundBay = some d.bay →
    (s.ctl.record k).voidPending = false → (s.ctl.record k).remaining ≤ d.d →
    (s.ctl.outlet d.bay).session = some ss → ss.kind = .CREDIT → ss.boundSlot = some k →
    (s.ctl.outlet d.bay).acting.inSession = true →
    let r := s.ctl.record k
    let ss' := { ss with
      boundSlot := none, unfunded := ss.unfunded - (d.p + d.b + d.g)
      creditFunded := satAdd u32Max ss.creditFunded (d.p + d.b + d.g)
      uncovered := satAdd u32Max ss.uncovered (d.d - r.remaining) }
    ∃ t, exec .draw s = .next t
      ∧ (t.ctl.record k).state = .SPENT ∧ (t.ctl.record k).spendReason = some .CREDIT_ZERO
      ∧ (t.ctl.record k).remaining = 0 ∧ (t.ctl.record k).drawn = r.drawn + r.remaining ∧ (t.ctl.record k).boundBay = none
      ∧ (t.ctl.record k).changed = true
      ∧ (t.ctl.record k).statement.creditFunded = satAdd u32Max r.statement.creditFunded (d.p + d.b + d.g)
      ∧ (t.ctl.record k).statement.uncovered = satAdd u32Max r.statement.uncovered (d.d - r.remaining)
      ∧ t.ctl.raised .receiptExhausted ∧ t.ctl.pool.draws = ds
      ∧ s.ctl.recordsBut (some k) t.ctl ∧ s.ctl.outletsBut d.bay t.ctl ∧ s.ctl.quietBlocks t.ctl
      ∧ ((s.ctl.bay d.bay).paidContinuation = true →
        (t.ctl.outlet d.bay).session = some ss' ∧ (t.ctl.outlet d.bay).reasons.funding = true
        ∧ ((t.ctl.outlet d.bay).fundingWait.map (·.left)) = some (s.ctl.inForce.tFund * 1000)
        ∧ s.ctl.tells t.ctl d.bay [.FUNDING_ENDED])
      ∧ ((s.ctl.bay d.bay).paidContinuation = false →
        (t.ctl.outlet d.bay).session = none ∧ s.ctl.tells t.ctl d.bay [.FUNDING_ENDED, .SESSION_ENDED]
        ∧ ∃ sm, (t.ctl.outlet d.bay).summary = some sm ∧ sm.reason = .FUNDING_ENDED
          ∧ sm.session.creditFunded = ss'.creditFunded ∧ sm.session.uncovered = ss'.uncovered ∧ sm.session.boundSlot = none)

/-- The expiry sweep lapses every LIVE record whose expiry time is at or before the boundary's count, leaves every other record, and
raises the RECEIPT notice exactly when it lapses one; with invalid time no record changes, and without a boundary nothing does
(R26, log 13). -/
def Obligations.SweepLapsesExpiredLiveRecords : Prop :=
  ∀ s : State, s.ctl.taking = true →
    (s.ctl.run.sweepAt = none → exec .expirySweep s = .next s)
    ∧ ∀ now, s.ctl.run.sweepAt = some now →
      ∃ t, exec .expirySweep s = .next t ∧ t.ctl.run = { s.ctl.run with sweepAt := none }
        ∧ t.ctl.outlets = s.ctl.outlets ∧ t.ctl.pool = s.ctl.pool ∧ t.ctl.storage = s.ctl.storage ∧ t.ctl.link = s.ctl.link
        ∧ t.ctl.settings = s.ctl.settings ∧ t.ctl.lines = s.ctl.lines
        ∧ (s.ctl.run.timeValid = false → t.ctl.credit = s.ctl.credit ∧ t.ctl.port = s.ctl.port)
        ∧ (s.ctl.run.timeValid = true →
          (∀ k, (s.ctl.record k).state = .LIVE → (s.ctl.record k).expiryTime ≤ now →
            t.ctl.record k = { s.ctl.record k with state := .LAPSED, changed := true })
          ∧ (∀ k, ¬ ((s.ctl.record k).state = .LIVE ∧ (s.ctl.record k).expiryTime ≤ now) → t.ctl.record k = s.ctl.record k)
          ∧ t.ctl.port = if (∃ k, (s.ctl.record k).state = .LIVE ∧ (s.ctl.record k).expiryTime ≤ now)
              then s.ctl.port.raise .receiptLapse else s.ctl.port)

/-! ### Invariants of the whole machine -/

/-- Every step keeps every record's credit in balance (R3). -/
def Obligations.CreditBalanceIsKept : Prop := Invariant fun s => ∀ k, (s.ctl.record k).balanced

/-- Every step keeps the codes of non-FREE records nonzero and unique (R6). -/
def Obligations.CodesStayUnique : Prop := Invariant fun s => s.ctl.uniqueCodes

/-- ATTN is active exactly while a source is both raised and enabled, kept by every step (R187). -/
def Obligations.AttnFollowsNotices : Prop :=
  Invariant fun s => s.ctl.port.attn = true ↔ ∃ x : Fin 8,
    (s.ctl.port.notices.get x).raised.isSome = true ∧ (s.ctl.port.notices.get x).enabled = true

/-- The state after reset has the invariants, the link IDLE, and nothing waiting (R144). -/
def Obligations.ResetStateHasInvariants : Prop :=
  (∀ k, (State.reset.ctl.record k).balanced) ∧ State.reset.ctl.uniqueCodes
    ∧ (State.reset.ctl.port.attn = true ↔ ∃ x : Fin 8,
      (State.reset.ctl.port.notices.get x).raised.isSome = true ∧ (State.reset.ctl.port.notices.get x).enabled = true)
    ∧ 0 ≤ State.reset.ctl.storage.bOff ∧ State.reset.ctl.link.state = .IDLE ∧ State.reset.pending = []


/-! ### Reports -/

/-- An accepted PRESENT binds the record and opens the CREDIT session of the bay in one event, and the ANSWER carries ACCEPTED, the tier and
the remaining credit (R19, R20, R37); the earlier notices of the outlet are removed (R132). Where draws wait, a PRESENT at a PLUGGED bay
first has them all taken, each as a DRAW would take it, oldest first, and is then judged by the records they leave (R110; log 12). -/
def Obligations.AcceptedPresentationBindsAndOpens : Prop :=
  (∀ s : State, s.ctl.taking = true → (s.ctl.pool.draws = [] → s.ctl.takeAllDraws = s.ctl)
    ∧ ∀ d ds, s.ctl.pool.draws = d :: ds → ∃ t, exec .draw s = .next t ∧ s.ctl.takeAllDraws = t.ctl.takeAllDraws)
  ∧ (∀ (s : State) (a : Addr) (ix : OutIx) (b : Bay) (code : Nat), s.ctl.taking = true → s.ctl.reportDue a ix b →
    (s.ctl.outlet b).state = .PLUGGED → s.ctl.settings.working = none → s.ctl.lines.stopAll.qualified = false →
    ∃ t, exec (.present a (ix.val + 1) code) s = .next t
      ∧ s.ctl.reported t.ctl a (ix.val + 1) (s.ctl.takeAllDraws.presentCode b code))
  ∧ ∀ (s : State) (a : Addr) (ix : OutIx) (b : Bay) (code : Nat) (k : SlotNo), s.ctl.taking = true → s.ctl.reportDue a ix b →
    (s.ctl.outlet b).state = .PLUGGED → s.ctl.settings.working = none → s.ctl.lines.stopAll.qualified = false →
    s.ctl.run.running = true → s.ctl.pool.draws = [] → s.ctl.credit.findCode code = some k → (s.ctl.record k).state = .LIVE →
    ¬ (s.ctl.run.timeValid = true ∧ (s.ctl.record k).expiryTime ≤ s.ctl.run.siteTime) →
    (s.ctl.bay b).minTier ≤ (s.ctl.record k).tier →
    ∃ t, exec (.present a (ix.val + 1) code) s = .next t
      ∧ t.ctl.answering a (ix.val + 1) .ACCEPTED (s.ctl.record k).tier (s.ctl.record k).remaining
      ∧ t.ctl.record k = { s.ctl.record k with
          state := .BOUND, boundBay := some b, bindingEnergy := some 0, voidPending := false, changed := true
          statement := { (s.ctl.record k).statement with
            sessions := satAdd u16Max (s.ctl.record k).statement.sessions 1, lastBay := some b, interrupted := false } }
      ∧ s.ctl.openedAt t.ctl b .CREDIT (some k) 0 ∧ t.ctl.raised .receiptBind ∧ (t.ctl.node a).reportUsed = true
      ∧ s.ctl.recordsBut (some k) t.ctl ∧ s.ctl.outletsBut b t.ctl ∧ s.ctl.quietBlocks t.ctl

/-- A presentation that is not accepted: the first answer that applies, and no change but the lapse of an expired LIVE record (R19). A due
PRESENT is answered by that, in the exchange that brought it, and counted, with the node's report-used flag set (R135, R118); at a PLUGGED
bay the draws that wait are taken first (R110; log 12). While the run mode is STOPPED no session can open (R197), and that the answer is
then SITE_BUSY in place of ACCEPTED is the model's choice (log 11). -/
def Obligations.RefusedPresentationAnswers : Prop :=
  (∀ (s : State) (a : Addr) (ix : OutIx) (b : Bay) (code : Nat), s.ctl.taking = true → s.ctl.reportDue a ix b →
    ∃ t, exec (.present a (ix.val + 1) code) s = .next t ∧ s.ctl.reported t.ctl a (ix.val + 1) (s.ctl.presentAt b code))
  ∧ ∀ (c : Controller) (b : Bay) (code : Nat),
    let busy := c.settings.working.isSome = true ∨ c.lines.stopAll.qualified = true
    let st := (c.outlet b).state
    let answers := fun x => c.presentAt b code = (x, 0, 0, c)
    (st = .METER_ONLY → answers .NOT_MANAGED)
    ∧ (st ≠ .METER_ONLY → busy → answers .SITE_BUSY)
    ∧ (¬ busy → st = .QUEUED ∨ st = .STARTING ∨ st = .CHARGING ∨ st = .PAUSED ∨ st = .ENDING → answers .ALREADY_FUNDED)
    ∧ (¬ busy → st = .UNMAPPED ∨ st = .OFFLINE ∨ st = .DISABLED ∨ st = .IDLE ∨ st = .FAULT ∨ st = .HOLDOFF ∨ st = .LOCKED →
      answers .NOT_READY)
    ∧ (¬ busy → st = .PLUGGED → c.presentAt b code = c.takeAllDraws.presentCode b code)
    ∧ (¬ busy → st = .PLUGGED → c.pool.draws = [] →
      (c.credit.findCode code = none → answers .UNKNOWN)
      ∧ ∀ k, c.credit.findCode code = some k →
        let r := c.record k
        let expired := c.run.timeValid = true ∧ r.expiryTime ≤ c.run.siteTime
        (r.state = .VOIDED ∨ (r.state = .BOUND ∧ r.voidPending = true) → answers .VOIDED)
        ∧ (r.state = .SPENT → answers .SPENT) ∧ (r.state = .LAPSED → answers .EXPIRED)
        ∧ (r.state = .LIVE → expired →
          c.presentAt b code = (.EXPIRED, 0, 0, (c.updRecord k fun r => { r with state := .LAPSED, changed := true }).raise .receiptLapse))
        ∧ (r.state = .BOUND → r.voidPending = false → answers .IN_USE)
        ∧ (r.state = .LIVE → ¬ expired → r.tier < (c.bay b).minTier → answers .TIER_LOW)
        ∧ (r.state = .LIVE → ¬ expired → (c.bay b).minTier ≤ r.tier → c.run.running = false → answers .SITE_BUSY))

/-- PAID_AUTH at a PLUGGED bay opens a PAID session with the report's cap, the earlier notices of the outlet being removed (R132), and
CUSTOMER_STOP of a bay in a session state ends its session with CUSTOMER_STOP; both are answered ACCEPTED with tier 0 and remaining 0 (R37
to R40). PAID_AUTH during a funding wait switches the session to PAID with the report's cap: a bound slot is unbound, the wait ends and
FUNDING is removed (R46, R44). The other answers change nothing, every due report is answered in the exchange that brought it and counted,
with its node's report-used flag set, and a REPORT that no bay can be found for is answered NOT_MANAGED (R135). That PAID_AUTH at a PLUGGED
bay is answered SITE_BUSY while the run mode is STOPPED is the model's choice (log 11), and so is that such a REPORT sets the report-used
flag and is counted where its node is ABSENT or IGNORED (log 30) or known and no PEDESTAL (log 39). -/
def Obligations.PaidAuthOpensAndCustomerStopEnds : Prop :=
  (∀ (s : State) (a : Addr) (ix : OutIx) (b : Bay), s.ctl.taking = true → s.ctl.reportDue a ix b →
    let busy := s.ctl.settings.working.isSome = true ∨ s.ctl.lines.stopAll.qualified = true
    let o := s.ctl.outlet b
    (∀ cap, ∃ t, exec (.paidAuth a (ix.val + 1) cap) s = .next t
      ∧ s.ctl.reported t.ctl a (ix.val + 1) (bareAnswer (s.ctl.paidAuthAt b cap)))
    ∧ (∃ t, exec (.customerStop a (ix.val + 1)) s = .next t
      ∧ s.ctl.reported t.ctl a (ix.val + 1) (bareAnswer (s.ctl.customerStopAt b)))
    ∧ (∀ cap, o.state = .PLUGGED → ¬ busy → s.ctl.run.running = true →
      ∃ t, exec (.paidAuth a (ix.val + 1) cap) s = .next t ∧ t.ctl.answering a (ix.val + 1) .ACCEPTED 0 0
        ∧ s.ctl.openedAt t.ctl b .PAID none cap ∧ t.ctl.credit = s.ctl.credit ∧ s.ctl.outletsBut b t.ctl
        ∧ s.ctl.quietBlocks t.ctl)
    ∧ (o.state.inSession = true → o.session.isSome = true →
      ∃ t, exec (.customerStop a (ix.val + 1)) s = .next t ∧ t.ctl.answering a (ix.val + 1) .ACCEPTED 0 0
        ∧ t.ctl.endedWith b .CUSTOMER_STOP s.ctl.run.siteTime ∧ (t.ctl.outlet b).state = .ENDING ∧ s.ctl.endFrame b t.ctl)
    ∧ (∀ cap ss, o.state = .PAUSED → o.reasons.funding = true → o.fundingWait.isSome = true → ¬ busy → o.session = some ss →
      let left := { o.reasons with funding := false }
      ∃ t, exec (.paidAuth a (ix.val + 1) cap) s = .next t ∧ t.ctl.answering a (ix.val + 1) .ACCEPTED 0 0
        ∧ (t.ctl.outlet b).fundingWait = none
        ∧ (∃ ss', (t.ctl.outlet b).session = some ss'
          ∧ ss' = { ss with kind := .PAID, cap := cap, paidEnergy := 0, boundSlot := ss'.boundSlot }
          ∧ ∀ k, ss.boundSlot = some k → (s.ctl.record k).state = .BOUND → (s.ctl.record k).boundBay = some b →
            ss'.boundSlot = none
            ∧ t.ctl.record k = (s.ctl.record k).unbind s.ctl.run.timeValid s.ctl.run.siteTime false)
        ∧ (left ≠ .empty → (t.ctl.outlet b).state = .PAUSED ∧ (t.ctl.outlet b).reasons = left)
        ∧ (left = .empty → ss.admitted = true → (t.ctl.outlet b).state = .PAUSED
          ∧ (t.ctl.outlet b).reasons = { budget := true, site := false, supply := false, customer := false, funding := false }
          ∧ (t.ctl.outlet b).pauseMinimum = none)
        ∧ (left = .empty → ss.admitted = false → (t.ctl.outlet b).state = .QUEUED ∧ (t.ctl.outlet b).reasons = .empty
          ∧ ∃ e, e ∈ t.ctl.pool.queue ∧ e.bay = b ∧ e.active = true)
        ∧ s.ctl.recordsBut ss.boundSlot t.ctl ∧ s.ctl.quietBlocks t.ctl))
  ∧ (∀ (c : Controller) (b : Bay) (cap : Nat),
      let busy := c.settings.working.isSome = true ∨ c.lines.stopAll.qualified = true
      let o := c.outlet b
      let waits := o.state = .PAUSED ∧ o.reasons.funding = true ∧ o.fundingWait.isSome = true
      let answers := fun x => c.paidAuthAt b cap = (x, c)
      let stops := fun x => c.customerStopAt b = (x, c)
      (o.state = .METER_ONLY → answers .NOT_MANAGED ∧ stops .NOT_MANAGED)
      ∧ (o.state = .UNMAPPED → stops .NOT_MANAGED)
      ∧ (o.state ≠ .METER_ONLY → busy → answers .SITE_BUSY)
      ∧ (¬ busy → ¬ waits → o.state = .QUEUED ∨ o.state = .STARTING ∨ o.state = .CHARGING ∨ o.state = .PAUSED → answers .ALREADY_FUNDED)
      ∧ (o.state = .UNMAPPED ∨ o.state = .OFFLINE ∨ o.state = .DISABLED ∨ o.state = .IDLE ∨ o.state = .ENDING ∨ o.state = .FAULT
        ∨ o.state = .HOLDOFF ∨ o.state = .LOCKED → (¬ busy → answers .NOT_READY) ∧ (o.state ≠ .UNMAPPED → stops .NOT_READY))
      ∧ (o.state = .PLUGGED → (¬ busy → c.run.running = false → answers .SITE_BUSY) ∧ stops .NOT_READY))
  ∧ ∀ (s : State) (a : Addr) (n x : Nat), s.ctl.taking = true → s.ctl.link.awaited = some .window →
      (s.ctl.node a).reportUsed = false → s.ctl.reportBay a n = none →
      ∀ i ∈ [Instr.present a n x, .paidAuth a n x, .customerStop a n],
        ∃ t, exec i s = .next t ∧ t.ctl.answering a n .NOT_MANAGED 0 0 ∧ (t.ctl.node a).reportUsed = true
          ∧ t.ctl.link.reports = s.ctl.link.reports + 1 ∧ (∀ y, y ≠ a → t.ctl.node y = s.ctl.node y)
          ∧ t.ctl.outlets = s.ctl.outlets ∧ t.ctl.credit = s.ctl.credit ∧ t.ctl.pool = s.ctl.pool ∧ t.ctl.port = s.ctl.port
          ∧ s.ctl.quietBlocks t.ctl

/-! ### Outlet commands -/

/-- OUTLET_READ answers the bay's entry with its settings and latest reading, and then clears the changed flag; nothing else changes (R57).
The five outlet commands that act are refused BAD_PARAM for a bay outside 1..24, then NOT_RUNNING in STOPPED, then NOT_MANAGED for a bay
that is UNMAPPED, METER_ONLY, or OFFLINE with an unmanaged map entry; a refusal changes the response alone (R56). That OUTLET_READ of a bay
that is OFFLINE with an unmanaged map entry is answered OK as well is the model's reading of R56 (log 37). -/
def Obligations.OutletReadAndOutletRefusals : Prop :=
  (∀ s : State, s.ctl.taking = true →
    let reads := fun b : Bay => exec (.outletRead (b.val + 1)) s = .next (s.put (
      ({ s.ctl with outlets := { s.ctl.outlets with
          entries := s.ctl.outlets.entries.set b { s.ctl.outlet b with changed := false } } } : Controller).answer 0x20 .OK
        (.outlet { bay := b, settings := s.ctl.bay b, outlet := s.ctl.outlet b, reading := s.ctl.reading b
                   age := s.ctl.readingAge b })))
    (∀ b, ¬ ((s.ctl.outlet b).state = .OFFLINE ∧ (s.ctl.bay b).map.managed = false) → reads b)
    ∧ (∀ b, (s.ctl.outlet b).state = .OFFLINE → (s.ctl.bay b).map.managed = false → reads b)
    ∧ ∀ n, ¬ (1 ≤ n ∧ n ≤ 24) → exec (.outletRead n) s = .next (s.put (s.ctl.answer 0x20 .BAD_PARAM .none)))
  ∧ ∀ (s : State) (n cap : Nat), s.ctl.taking = true → cap ≤ 4294967295 →
    ∀ p ∈ [(Instr.outletEnable n, 0x21), (.outletDisable n, 0x22), (.outletStop n, 0x23), (.outletClear n, 0x24),
           (.outletServiceStart n cap, 0x25)],
      let refused := fun st => exec p.1 s = .next (s.put (s.ctl.answer p.2 st .none))
      (¬ (1 ≤ n ∧ n ≤ 24) → refused .BAD_PARAM)
      ∧ (1 ≤ n ∧ n ≤ 24 → s.ctl.run.running = false → refused .NOT_RUNNING)
      ∧ ∀ b : Bay, n = b.val + 1 → s.ctl.run.running = true →
        (s.ctl.outlet b).state = .UNMAPPED ∨ (s.ctl.outlet b).state = .METER_ONLY
          ∨ ((s.ctl.outlet b).state = .OFFLINE ∧ (s.ctl.bay b).map.managed = false) → refused .NOT_MANAGED

/-- OUTLET_ENABLE of a DISABLED outlet and OUTLET_CLEAR of a LOCKED one put it in PLUGGED or IDLE by its latest plug reading; an OFFLINE one
loses that state before silence; OUTLET_CLEAR empties the fault window list and keeps the last fault; any other state is refused
(R58, R60). -/
def Obligations.EnableAndClearReturnToPlugState : Prop :=
  ∀ (s : State) (b : Bay), s.ctl.taking = true → s.ctl.commandable b →
    let o := s.ctl.outlet b
    let frame := fun t : State => t.ctl.credit = s.ctl.credit ∧ t.ctl.pool = s.ctl.pool ∧ t.ctl.link = s.ctl.link
      ∧ s.ctl.outletsBut b t.ctl ∧ s.ctl.quietBlocks t.ctl
    (o.state = .DISABLED → ∃ t, exec (.outletEnable (b.val + 1)) s = .next t ∧ t.ctl.holds 0x21 .OK .none
      ∧ (t.ctl.outlet b).state = s.ctl.plugOf b ∧ (t.ctl.outlet b).session = o.session ∧ frame t)
    ∧ (o.state = .OFFLINE → o.beforeSilence = some .DISABLED → ∃ t, exec (.outletEnable (b.val + 1)) s = .next t
      ∧ t.ctl.holds 0x21 .OK .none ∧ t.ctl.outlet b = { o with beforeSilence := none } ∧ frame t)
    ∧ (o.acting ≠ .DISABLED → exec (.outletEnable (b.val + 1)) s = .next (s.put (s.ctl.answer 0x21 .WRONG_STATE .none)))
    ∧ (o.state = .LOCKED → ∃ t, exec (.outletClear (b.val + 1)) s = .next t ∧ t.ctl.holds 0x24 .OK .none
      ∧ (t.ctl.outlet b).state = s.ctl.plugOf b ∧ (t.ctl.outlet b).faultList = [] ∧ (t.ctl.outlet b).lastFault = o.lastFault
      ∧ (t.ctl.outlet b).session = o.session ∧ frame t)
    ∧ (o.state = .OFFLINE → o.beforeSilence = some .LOCKED → ∃ t, exec (.outletClear (b.val + 1)) s = .next t
      ∧ t.ctl.holds 0x24 .OK .none ∧ t.ctl.outlet b = { o with beforeSilence := none, faultList := [] } ∧ frame t)
    ∧ (o.acting ≠ .LOCKED → exec (.outletClear (b.val + 1)) s = .next (s.put (s.ctl.answer 0x24 .WRONG_STATE .none)))

/-- OUTLET_DISABLE ends a held session with COMMAND, clears the hold-off timer and takes the outlet out of service; an OFFLINE outlet takes
DISABLED as its state before silence; a DISABLED or LOCKED one is refused (R58). That the hold-off timer of an OFFLINE outlet goes too is
the model's inference (log 18). OUTLET_STOP ends the session with COMMAND: ENDING if it was admitted, otherwise PLUGGED, as the state
before silence of an OFFLINE outlet; without a session it is refused (R59, R40). -/
def Obligations.DisableAndStopEndTheSession : Prop :=
  ∀ (s : State) (b : Bay), s.ctl.taking = true → s.ctl.commandable b →
    let o := s.ctl.outlet b
    (o.acting = .DISABLED ∨ o.acting = .LOCKED →
      exec (.outletDisable (b.val + 1)) s = .next (s.put (s.ctl.answer 0x22 .WRONG_STATE .none)))
    ∧ (o.acting ≠ .DISABLED → o.acting ≠ .LOCKED →
      ∃ t, exec (.outletDisable (b.val + 1)) s = .next t ∧ t.ctl.holds 0x22 .OK .none
        ∧ (o.state = .OFFLINE → (t.ctl.outlet b).state = .OFFLINE ∧ (t.ctl.outlet b).beforeSilence = some .DISABLED)
        ∧ (o.state ≠ .OFFLINE → (t.ctl.outlet b).state = .DISABLED ∧ (t.ctl.outlet b).pending = pendingFor o.inForce 0)
        ∧ (t.ctl.outlet b).holdOff = none ∧ (t.ctl.outlet b).session = none ∧ (t.ctl.outlet b).inForce = o.inForce
        ∧ (o.session.isSome = true → t.ctl.endedWith b .COMMAND s.ctl.run.siteTime) ∧ s.ctl.endFrame b t.ctl)
    ∧ ((s.ctl.outlet b).session = none →
      exec (.outletStop (b.val + 1)) s = .next (s.put (s.ctl.answer 0x23 .WRONG_STATE .none)))
    ∧ ∀ ss, (s.ctl.outlet b).session = some ss →
      let after : OutletState := if ss.admitted then .ENDING else .PLUGGED
      ∃ t, exec (.outletStop (b.val + 1)) s = .next t ∧ t.ctl.holds 0x23 .OK .none
        ∧ t.ctl.endedWith b .COMMAND s.ctl.run.siteTime ∧ (t.ctl.outlet b).silenceHold = none
        ∧ ((s.ctl.outlet b).state = .OFFLINE → (t.ctl.outlet b).state = .OFFLINE ∧ (t.ctl.outlet b).beforeSilence = some after)
        ∧ ((s.ctl.outlet b).state ≠ .OFFLINE → (t.ctl.outlet b).state = after)
        ∧ s.ctl.endFrame b t.ctl

/-- OUTLET_SERVICE_START opens a SERVICE session at a PLUGGED outlet with the given cap, answering the outlet's state, and the earlier
notices of the outlet are removed (R132); SITE_BUSY in setup or under STOP_ALL and WRONG_STATE elsewhere change the response alone (R61,
R37). -/
def Obligations.ServiceStartOpensSession : Prop :=
  ∀ (s : State) (b : Bay) (cap : Nat), s.ctl.taking = true → s.ctl.commandable b → cap ≤ 4294967295 →
    let busy := s.ctl.settings.working.isSome = true ∨ s.ctl.lines.stopAll.qualified = true
    let i := Instr.outletServiceStart (b.val + 1) cap
    (busy → exec i s = .next (s.put (s.ctl.answer 0x25 .SITE_BUSY .none)))
    ∧ (¬ busy → (s.ctl.outlet b).state ≠ .PLUGGED → exec i s = .next (s.put (s.ctl.answer 0x25 .WRONG_STATE .none)))
    ∧ (¬ busy → (s.ctl.outlet b).state = .PLUGGED →
      ∃ t, exec i s = .next t ∧ t.ctl.holds 0x25 .OK (.outletState (t.ctl.outlet b).state)
        ∧ s.ctl.openedAt t.ctl b .SERVICE none cap ∧ t.ctl.credit = s.ctl.credit ∧ s.ctl.outletsBut b t.ctl
        ∧ s.ctl.quietBlocks t.ctl)

/-! ### Sessions, timers, meter and targets -/

/-- The end of a session: tail energy, unbind, summary, clearing, queue, target and notices; for a reason that is told, SESSION_ENDED joins
the notice list of the bay's pedestal once, and nothing else of the link changes (R39, R21, R40, R132). -/
def Obligations.SessionEndClearsAndSummarises : Prop :=
  ∀ (c : Controller) (b : Bay) (reason : EndReason) (next : OutletState) (ss : Session), (c.outlet b).session = some ss →
    let c' := c.endSession b reason next
    let tail := min (c.outlet b).unattributed (4294967295 - ss.energy)
    (c'.outlet b).session = none ∧ (c'.outlet b).unattributed = 0 ∧ (c'.outlet b).reasons = .empty
    ∧ (c'.outlet b).startTimer = none ∧ (c'.outlet b).fundingWait = none ∧ (c'.outlet b).pauseMinimum = none
    ∧ (c'.outlet b).silenceHold = none ∧ (next ≠ .ENDING → (c'.outlet b).overdraw = none)
    ∧ (next = .ENDING → (c'.outlet b).overdraw = (c.outlet b).overdraw)
    ∧ ((c.outlet b).state = .OFFLINE → (c'.outlet b).state = .OFFLINE ∧ (c'.outlet b).beforeSilence = some next
      ∧ (c'.outlet b).pending = (c.outlet b).pending)
    ∧ ((c.outlet b).state ≠ .OFFLINE → (c'.outlet b).state = next)
    ∧ ((c.outlet b).state ≠ .OFFLINE → next ≠ .OFFLINE → next ≠ .UNMAPPED →
      (c'.outlet b).pending = pendingFor (c.outlet b).inForce 0)
    ∧ (∃ sm, (c'.outlet b).summary = some sm ∧ sm.reason = reason ∧ sm.endTime = c.run.siteTime
      ∧ sm.session.kind = ss.kind ∧ sm.session.cap = ss.cap ∧ sm.session.solar = ss.solar ∧ sm.session.battery = ss.battery
      ∧ sm.session.grid = satAdd 4294967295 ss.grid tail ∧ sm.session.energy = satAdd 4294967295 ss.energy tail
      ∧ (ss.kind = .CREDIT → sm.session.unfunded = satAdd 4294967295 ss.unfunded tail ∧ sm.session.paidEnergy = ss.paidEnergy)
      ∧ (ss.kind ≠ .CREDIT → sm.session.paidEnergy = satAdd 4294967295 ss.paidEnergy tail ∧ sm.session.unfunded = ss.unfunded)
      ∧ sm.session.interrupted = (ss.interrupted || (reason == .LINK_LOSS || reason == .LINK_DOWN || reason == .RESET)))
    ∧ (∀ k, ss.boundSlot = some k → (c.record k).state = .BOUND →
      c'.record k = (c.record k).unbind c.run.timeValid c.run.siteTime (reason == .RESET))
    ∧ c'.pool = { c.pool with queue := c.pool.queue.filter fun e => e.bay != b, computed := c.pool.computed.set b 0 }
    ∧ c'.raised .outletSessionEnd ∧ c.endFrame b c'
    ∧ (reason = .UNPLUGGED ∨ reason = .LINK_LOSS ∨ reason = .LINK_DOWN ∨ reason = .RESET → c'.link = c.link)
    ∧ (¬ (reason = .UNPLUGGED ∨ reason = .LINK_LOSS ∨ reason = .LINK_DOWN ∨ reason = .RESET) → c.tells c' b [.SESSION_ENDED])

/-- The expiry of the overdraw timer and of the start timer send the outlet through FAULT to HOLDOFF, or to LOCKED once the fault window
list holds the lock-out count (R42, R47, R48). -/
def Obligations.TimerFaultHoldsOffOrLocks : Prop :=
  ∀ (s : State) (b : Bay), s.ctl.taking = true →
    ∀ p ∈ [(Instr.overdrawTimerExpiry b, (s.ctl.outlet b).overdraw, FaultCause.OVERDRAW, FaultFlag.OVERDRAW),
           (Instr.startTimerExpiry b, (s.ctl.outlet b).startTimer, FaultCause.START_TIMEOUT, FaultFlag.START_TIMEOUT)],
      timerRuns p.2.1 = true →
      let now := s.ctl.run.siteTime
      let list := ((s.ctl.outlet b).faultList.filter fun x => decide (now - x ≤ s.ctl.inForce.wFault)) ++ [now]
      ∃ t, exec p.1 s = .next t ∧ (t.ctl.outlet b).lastFault = some (p.2.2.1, now) ∧ (t.ctl.outlet b).faultList = list
        ∧ (t.ctl.outlet b).session = none ∧ (t.ctl.outlet b).overdraw = none ∧ (t.ctl.outlet b).startTimer = none
        ∧ (t.ctl.outlet b).pending = pendingFor (s.ctl.outlet b).inForce 0
        ∧ (s.ctl.inForce.lockoutCount ≤ list.length → (t.ctl.outlet b).state = .LOCKED ∧ (t.ctl.outlet b).holdOff = none
          ∧ t.ctl.raised .outletLocked)
        ∧ (list.length < s.ctl.inForce.lockoutCount → (t.ctl.outlet b).state = .HOLDOFF
          ∧ ((t.ctl.outlet b).holdOff.map (·.left)) = some (s.ctl.inForce.tHold * 1000) ∧ t.ctl.raised .outletFault)
        ∧ t.ctl.flagged p.2.2.2 now s.ctl.run.timeValid ∧ t.ctl.pool.computed = s.ctl.pool.computed.set b 0
        ∧ ((s.ctl.outlet b).session.isSome = true → ((t.ctl.outlet b).summary.map (·.reason)) = some .FAULT)
        ∧ s.ctl.endFrame b t.ctl

/-- The expiries of the other outlet timers: the funding wait ends the session with FUNDING_ENDED (R46), the hold-off sends the outlet to
its plug state (R49), the pause minimum is removed alone (R44), and the silence hold ends the held session with LINK_LOSS, the outlet
staying OFFLINE without a state before silence or a target (R51). -/
def Obligations.TimerExpiriesActOnTheirOutlet : Prop :=
  ∀ (s : State) (b : Bay), s.ctl.taking = true →
    let o := s.ctl.outlet b
    (timerRuns o.fundingWait = true → o.session.isSome = true →
      ∃ t, exec (.fundingWaitExpiry b) s = .next t ∧ t.ctl.endedWith b .FUNDING_ENDED s.ctl.run.siteTime
        ∧ (t.ctl.outlet b).acting = .ENDING ∧ (t.ctl.outlet b).fundingWait = none ∧ s.ctl.endFrame b t.ctl)
    ∧ (timerRuns o.holdOff = true →
      ∃ t, exec (.holdOffExpiry b) s = .next t ∧ (t.ctl.outlet b).state = s.ctl.plugOf b ∧ (t.ctl.outlet b).holdOff = none
        ∧ (t.ctl.outlet b).session = o.session ∧ t.ctl.credit = s.ctl.credit ∧ t.ctl.port = s.ctl.port ∧ t.ctl.link = s.ctl.link
        ∧ s.ctl.outletsBut b t.ctl ∧ s.ctl.quietBlocks t.ctl)
    ∧ (timerRuns o.pauseMinimum = true →
      ∃ t, exec (.pauseMinimumExpiry b) s = .next t ∧ t.ctl.outlet b = { o with pauseMinimum := none }
        ∧ (∀ x, x ≠ b → t.ctl.outlet x = s.ctl.outlet x) ∧ t.ctl.credit = s.ctl.credit ∧ t.ctl.port = s.ctl.port
        ∧ t.ctl.link = s.ctl.link ∧ t.ctl.pool = s.ctl.pool ∧ s.ctl.quietBlocks t.ctl)
    ∧ (timerRuns o.silenceHold = true → o.state = .OFFLINE →
      ∃ t, exec (.silenceHoldExpiry b) s = .next t ∧ (t.ctl.outlet b).state = .OFFLINE ∧ (t.ctl.outlet b).session = none
        ∧ (t.ctl.outlet b).beforeSilence = none ∧ (t.ctl.outlet b).silenceHold = none ∧ (t.ctl.outlet b).fundingWait = none
        ∧ (t.ctl.outlet b).inForce = o.inForce ∧ (t.ctl.outlet b).pending = o.pending
        ∧ (o.session.isSome = true → t.ctl.endedWith b .LINK_LOSS s.ctl.run.siteTime) ∧ s.ctl.endFrame b t.ctl)

/-- PAUSE_ALL sets the site hold and adds SITE to every session, RESUME_ALL clears it and removes SITE from every outlet, which stays
paused for another reason, waits for the next round if it was admitted, and is queued again otherwise; each answers how many outlets it
changed, and no session ends (R160, R161, R43, R44). -/
def Obligations.SiteHoldPausesAndResumesSessions : Prop :=
  ∀ s : State, s.ctl.taking = true →
    (∃ t, exec .pauseAll s = .next t ∧ t.ctl.outlets.siteHold = true
      ∧ t.ctl.holds 0x32 .OK (.count ((List.finRange 24).filter fun b =>
          (s.ctl.outlet b).session.isSome && !(s.ctl.outlet b).reasons.site).length)
      ∧ (∀ b, (s.ctl.outlet b).session.isSome = true → (s.ctl.outlet b).acting.inSession = true →
        (t.ctl.outlet b).reasons.site = true ∧ ((s.ctl.outlet b).reasons.site = false → (t.ctl.outlet b).acting = .PAUSED))
      ∧ (∀ b, (t.ctl.outlet b).session = (s.ctl.outlet b).session) ∧ t.ctl.credit = s.ctl.credit ∧ t.ctl.link = s.ctl.link
      ∧ s.ctl.quietBlocks t.ctl)
    ∧ (∃ t, exec .resumeAll s = .next t ∧ t.ctl.outlets.siteHold = false
      ∧ t.ctl.holds 0x33 .OK (.count ((List.finRange 24).filter fun b => (s.ctl.outlet b).reasons.site).length)
      ∧ (∀ b, (t.ctl.outlet b).reasons.site = false ∧ (t.ctl.outlet b).session = (s.ctl.outlet b).session)
      ∧ (∀ b, (s.ctl.outlet b).reasons.site = true → s.ctl.resumedAt t.ctl b { (s.ctl.outlet b).reasons with site := false })
      ∧ (∀ b, (s.ctl.outlet b).reasons.site = false → (s.ctl.outlet b).alike (t.ctl.outlet b))
      ∧ t.ctl.credit = s.ctl.credit ∧ t.ctl.link = s.ctl.link ∧ s.ctl.quietBlocks t.ctl)

/-- A meter reading: the first is the baseline; an increment within the plausibility limit is counted, in the session too when one is held;
a larger one is discarded with the fault flag and the OUTLET notice; the reading becomes the baseline each time (R35). -/
def Obligations.MeterIncrementIsJudged : Prop :=
  ∀ (c : Controller) (b : Bay) (reading stamp : Nat),
    let o := c.outlet b
    let c' := c.meter b reading stamp
    (c'.outlet b).baseline = some { reading := reading, stamp := stamp } ∧ (c'.outlet b).state = o.state
    ∧ (∀ x, x ≠ b → c'.outlet x = c.outlet x) ∧ c'.credit = c.credit ∧ c'.pool = c.pool ∧ c'.link = c.link
    ∧ (o.baseline = none → (c'.outlet b).lifetime = o.lifetime ∧ (c'.outlet b).unattributed = o.unattributed ∧ c'.port = c.port)
    ∧ ∀ base, o.baseline = some base →
      let inc := (reading + 4294967296 - base.reading) % 4294967296
      let limit := ((c.bay b).pMax * (stamp - base.stamp) * 50 + 14399999) / 14400000
      (inc ≤ limit → (c'.outlet b).lifetime = min 4294967295 (o.lifetime + inc)
        ∧ (c'.outlet b).unattributed = (if o.session.isSome then o.unattributed + inc else o.unattributed) ∧ c'.port = c.port)
      ∧ (limit < inc → (c'.outlet b).lifetime = o.lifetime ∧ (c'.outlet b).unattributed = o.unattributed
        ∧ c'.flagged .METER_IMPLAUSIBLE c.run.siteTime c.run.timeValid ∧ c'.raised .outletMeter)

/-- A new target is marked against the in-force allocation; pending raises are released when no outlet holds a pending DECREASE; a SET_ACK's
echo becomes the in-force value and the pending target is marked again against it (R53 to R55). -/
def Obligations.TargetsAreMarkedReleasedAndEchoed : Prop :=
  (∀ (o : Outlet) (target : Nat),
    (o.mark target).raiseReleased = false ∧ (o.mark target).inForce = o.inForce
    ∧ ((target : Int) < o.inForce → (o.mark target).pending = some { kind := .DECREASE, target := target })
    ∧ (o.inForce < (target : Int) → (o.mark target).pending = some { kind := .RAISE, target := target })
    ∧ ((target : Int) = o.inForce → (o.mark target).pending = none))
  ∧ (∀ (c : Controller) (b : Bay) (target : Nat), (c.outlet b).state = .OFFLINE → c.markTarget b target = c)
  ∧ (∀ c : Controller,
    ((∃ b p, (c.outlet b).pending = some p ∧ p.kind = .DECREASE) → c.judgeRelease = c)
    ∧ ((∀ b p, (c.outlet b).pending = some p → p.kind = .RAISE) → ∀ b,
      c.judgeRelease.outlet b = if (c.outlet b).pending.isSome then { c.outlet b with raiseReleased := true } else c.outlet b))
  ∧ (∀ (o : Outlet) (echo : Int), (o.takeEcho echo).inForce = echo
    ∧ (o.pending = none → (o.takeEcho echo).pending = none)
    ∧ ∀ p, o.pending = some p →
      ((p.target : Int) < echo → (o.takeEcho echo).pending = some { kind := .DECREASE, target := p.target })
      ∧ (echo < (p.target : Int) → (o.takeEcho echo).pending = some { kind := .RAISE, target := p.target })
      ∧ ((p.target : Int) = echo → (o.takeEcho echo).pending = none))


/-! ### Rounds, battery and energy -/

/-- A round is taken whole while the round timer is present, and without the timer none is (R64, R66). Its inputs are the freshly read
figures of the moment: each node's reading with its age, or the value that a stale or missing one gives (R67, R68), the powers of the
bays (R69), the bank and the settings in force (R65, R155). From them follow mode, shop load and pool (R70, R71), the reserve window,
permission and B_off (R89 to R92), outcomes and computed allocations (R77 to R82), what they do to queue and outlets (R41, R53, R54), the
battery setpoint and the canopy cap with their delivery (R93 to R100), and the attribution of the energy counted since (R104 to R109,
R113) with the draws handed to the credit table (R110). The record, the counts and the kept bank are the round's own (R87, R156). That the
P_grid of a SAFE round is recorded as absent, with the age of the reading, is the model's reading of "as used" (log 46). That a round taken
while DISCOVERING, before the battery is entered, removes a pending battery setpoint is its choice between R99 and R101 (log 48). -/
def Obligations.RoundIsTakenWhole : Prop :=
  (∀ (c : Controller) (k : NodeKind) (value : Arrival → Int) (stale : Option Int → Option Int),
    (∀ a, c.singleton k = some a → (c.node a).known = true ∧ (c.node a).kind = some k ∧ c.arrival k = (c.node a).readings)
    ∧ (c.singleton k = none → c.arrival k = none ∧ ∀ a, ¬ ((c.node a).known = true ∧ (c.node a).kind = some k))
    ∧ (c.arrival k = none → c.use k value stale = { value := stale none, age := none, fresh := false })
    ∧ ∀ arr, c.arrival k = some arr →
      let age := c.run.ms - arr.stamp
      let fresh := age ≤ c.inForce.tStale * 1000 ∧ c.link.state ≠ .DOWN
      (fresh → c.use k value stale = { value := some (value arr), age := some age, fresh := true })
      ∧ (¬ fresh → c.use k value stale = { value := stale (some (value arr)), age := some age, fresh := false }))
  ∧ (∀ s : State, s.ctl.taking = true → s.ctl.pool.roundTimer = none → exec .allocationRound s = .next s)
  ∧ ∀ s : State, s.ctl.taking = true → s.ctl.pool.roundTimer.isSome = true →
    let c := s.ctl
    let x := c.inForce
    let sum := fun (p : Bay → Bool) (f : Bay → Int) => (((List.finRange 24).filter p).map f).sum
    let watts := fun b : Bay => ((c.reading b).map (·.measured)).getD 0
    let st1 := (c.storage.selectWindow c.run.timeValid c.run.siteTime x.reserve).evaluate x c.clearBattery
    ∃ t, exec .allocationRound s = .next t ∧ ∃ r, t.ctl.pool.lastRound = some r
      -- the record
      ∧ r.time = c.run.siteTime ∧ r.bank = c.lines.bank ∧ r.lImp = x.lImp c.lines.bank
      ∧ r.pGrid = c.use .SUPPLY_METER Arrival.gridPower (fun _ => none)
      ∧ r.pPv = c.use .CANOPY Arrival.canopyPower (fun _ => some 0)
      ∧ r.pPvRaw = c.use .CANOPY Arrival.canopyPower (fun held => some (held.getD 0))
      ∧ r.pBat = c.use .BATTERY Arrival.batteryPower (fun held => some (held.getD 0))
      ∧ r.sumOut = sum (fun b => (c.bay b).map.valid) watts
      ∧ r.u = sum (fun b => (c.bay b).map.valid && !(c.bay b).map.managed) watts
      ∧ r.rSil = sum (fun b => c.managed b && (c.outlet b).state == .OFFLINE && (c.outlet b).silenceHold.isSome)
          (fun b => (c.outlet b).inForce)
      ∧ r.guardBand = x.guardBand ∧ r.cCab = x.cCab ∧ r.cSafe = x.cSafe ∧ r.decay = x.decay ∧ r.stagger = x.stagger
      ∧ r.normal = r.pGrid.fresh ∧ (r.normal = false → r.s = none ∧ r.sEst = c.pool.sPrev)
      ∧ (r.normal = true → r.s = some (max 0 (min 1000000
          (r.pGrid.value.getD 0 + r.pPvRaw.value.getD 0 + r.pBat.value.getD 0 - r.sumOut))))
      ∧ (∀ v, r.s = some v → r.sEst = if c.pool.firstRound then v else max v (c.pool.sPrev - r.decay))
      ∧ r.firstUsed = (r.normal && c.pool.firstRound)
      ∧ r.cRaw = r.lImp + r.pPv.value.getD 0 + r.bOff - r.sEst - r.guardBand - r.u - r.rSil
      ∧ r.cTop = (if r.normal then max 0 (r.cCab - r.u - r.rSil) else min (max 0 (r.cCab - r.u - r.rSil)) r.cSafe)
      ∧ r.c = max 0 (min r.cTop r.cRaw) ∧ r.bOff = st1.bOff ∧ r.bOff = t.ctl.storage.bOff
      ∧ (let pPv := r.pPv.value.getD 0
         let alloc := c.allocate r.c.toNat
         let ended := fun b : Bay => (c.outlet b).session.isSome && (t.ctl.outlet b).session.isNone
         r.outcomes = alloc.1
         -- pool, blocks that stay
         ∧ t.ctl.pool.roundTimer = some (x.tRound * 1000) ∧ t.ctl.pool.roundCount = min 4294967295 (c.pool.roundCount + 1)
         ∧ t.ctl.pool.sPrev = r.sEst ∧ t.ctl.pool.firstRound = (c.pool.firstRound && !r.normal) ∧ t.ctl.pool.keptBank = some r.bank
         ∧ (∀ k, c.pool.keptBank = some k → k ≠ r.bank → t.ctl.raised .inputBank)
         ∧ (∀ b, t.ctl.pool.computed.get b = if ended b then 0 else alloc.2.get b)
         ∧ t.ctl.pool.queue = c.pool.queue.filter (fun e => alloc.1.get e.bay != some .ADMITTED && !ended e.bay)
         ∧ t.ctl.settings = c.settings ∧ t.ctl.lines = c.lines ∧ t.ctl.run = c.run
         ∧ ((∀ b, ended b = false) → t.ctl.credit = c.credit ∧ t.ctl.link = c.link)
         -- battery and canopy
         ∧ (let sumA : Int := (alloc.2.data.sum : Nat)
            let forecast := r.sEst + sumA + r.u - pPv
            let pNeed := sumA + r.u + r.sEst + x.guardBand - r.lImp - pPv
            let setpoint := batterySetpoint x st1 c.drivenBattery pNeed forecast
            let n := forecast - setpoint
            let cap : Cap := if n < -(x.eLim : Int) then .watts (max 0 (pPv - (-(x.eLim : Int) - n))) else .uncapped
            let d := c.storage.battery
            let k := c.storage.canopy
            let st2 := { st1 with pNeed := some pNeed, battery := { d with
              computed := setpoint
              pending := if (c.singleton .BATTERY).isSome = true ∧ d.acked ≠ some setpoint then some setpoint else none } }
            (r.pPv.fresh = false → t.ctl.storage = st2)
            ∧ (r.pPv.fresh = true → t.ctl.storage = { st2 with netImport := some n, canopy := { k with
                computed := some cap
                pending := if (c.singleton .CANOPY).isSome = true ∧ k.acked ≠ some cap then some cap else none } }))
         -- outcomes and targets
         ∧ (∀ b, c.managed b = false ∨ (c.outlet b).state = .OFFLINE →
           (t.ctl.outlet b).state = (c.outlet b).state ∧ (t.ctl.outlet b).pending = (c.outlet b).pending)
         ∧ (∀ b, c.managed b = true → (c.outlet b).state ≠ .OFFLINE → ended b = false →
           let o := c.outlet b
           let o' := t.ctl.outlet b
           let outcome := alloc.1.get b
           ((c.outlet b).state ≠ .UNMAPPED → o'.pending = pendingFor o.inForce (alloc.2.get b))
           ∧ (outcome = some .ADMITTED → o.state = .QUEUED → o'.state = .STARTING
             ∧ o'.startTimer = some { left := x.tStart * 1000, frozenBySilence := false
                                      frozenByWindow := c.link.state == .PASS_THROUGH }
             ∧ (o.session.isSome = true → (o'.session.map fun y => (y.admitted, y.startTime)) = some (true, some c.run.siteTime)))
           ∧ (outcome = some .MINIMUM → o.state = .PAUSED → o.reasons = .budgetAlone →
             o'.state = .CHARGING ∧ o'.reasons = .empty ∧ o'.pauseMinimum = none)
           ∧ (outcome = some .BUDGET → o.state = .STARTING ∨ o.state = .CHARGING → o'.state = .PAUSED
             ∧ o'.reasons = { o.reasons with budget := true } ∧ o'.startTimer = none
             ∧ (o'.pauseMinimum.map (·.left)) = some (x.tPmin * 1000))
           ∧ (¬ (outcome = some .ADMITTED ∧ o.state = .QUEUED) →
             ¬ (outcome = some .MINIMUM ∧ o.state = .PAUSED ∧ o.reasons = .budgetAlone) →
             ¬ (outcome = some .BUDGET ∧ (o.state = .STARTING ∨ o.state = .CHARGING)) →
             o'.state = o.state ∧ o'.reasons = o.reasons ∧ o'.startTimer = o.startTimer ∧ o'.pauseMinimum = o.pauseMinimum))
         ∧ ((∀ b, (t.ctl.outlet b).decreasing = false) →
           ∀ b, (t.ctl.outlet b).pending.isSome = true → (t.ctl.outlet b).raiseReleased = true)
         -- attribution and draws
         ∧ (let m := sum (fun b => c.managed b && (c.outlet b).session.isSome && (c.outlet b).state != .OFFLINE) watts
            let pv := min m (max 0 (pPv - r.sEst))
            let bat := min (m - pv) (max 0 (if r.pBat.fresh then r.pBat.value.getD 0 else 0))
            let e := fun b : Bay => match (c.outlet b).session with
              | some ss => min (c.outlet b).unattributed (4294967295 - ss.energy)
              | none => 0
            let p := fun b : Bay => share (e b) pv m
            let q := fun b : Bay => share (e b) bat m
            let g := fun b : Bay => e b - p b - q b
            (∀ b ss, (c.outlet b).session = some ss → c.managed b = true →
              (t.ctl.outlet b).unattributed = 0
              ∧ (ended b = true ↔ ss.kind ≠ .CREDIT ∧ ss.cap ≠ 0 ∧ ss.cap ≤ satAdd 4294967295 ss.paidEnergy (e b))
              ∧ (ended b = true → ((t.ctl.outlet b).summary.map fun y => (y.reason, y.endTime)) = some (.CAP_REACHED, c.run.siteTime)
                ∧ (t.ctl.outlet b).acting = .ENDING)
              ∧ ∀ ss', ((t.ctl.outlet b).session <|> (t.ctl.outlet b).summary.map (·.session)) = some ss' →
                ss'.kind = ss.kind ∧ ss'.cap = ss.cap ∧ ss'.solar = satAdd 4294967295 ss.solar (p b)
                ∧ ss'.battery = satAdd 4294967295 ss.battery (q b) ∧ ss'.grid = satAdd 4294967295 ss.grid (g b)
                ∧ ss'.energy = satAdd 4294967295 ss.energy (e b) ∧ ss'.creditFunded = ss.creditFunded ∧ ss'.uncovered = ss.uncovered
                ∧ (ss.kind = .CREDIT → ss'.unfunded = satAdd 4294967295 ss.unfunded (e b) ∧ ss'.paidEnergy = ss.paidEnergy)
                ∧ (ss.kind ≠ .CREDIT → ss'.paidEnergy = satAdd 4294967295 ss.paidEnergy (e b) ∧ ss'.unfunded = ss.unfunded))
            ∧ (∀ b, (c.outlet b).session = none ∨ c.managed b = false →
              (t.ctl.outlet b).unattributed = (c.outlet b).unattributed
              ∧ ((t.ctl.outlet b).session.map fun y => { y with boundSlot := none })
                = ((c.outlet b).session.map fun y => { y with boundSlot := none }))
            ∧ (let before := c.pool.draws.length
               t.ctl.pool.draws.take before = c.pool.draws
               ∧ ((t.ctl.pool.draws.drop before).map fun d => (d.bay, d.p, d.b, d.g, d.d))
                 = (((List.finRange 24).filter fun b => c.managed b && (((c.outlet b).session.map (·.kind)) == some .CREDIT)).map fun b =>
                     (b, p b, q b, g b, drawOf x.tariff (p b) (q b) (g b)))
               ∧ ∀ d ∈ t.ctl.pool.draws.drop before,
                 let slot := fun b : Bay => (c.outlet b).session.bind (·.boundSlot)
                 d.slot = slot d.bay ∨ ∃ y, ended y = true ∧ slot y = slot d.bay)))

/-- In every round the computed allocations sum to no more than the pool C that the walk starts with (R82). The first-pass list holds the
running outlets and the candidates, ordered by effective priority, at equal priority the running ones by bay and then the candidates in
queue order (R77). The walk takes it in that order: each place gets its minimum where what is left covers it, a candidate where the start
count is below the stagger limit too, and the outcome says so (R78, R79). -/
def Obligations.AllocationsSumWithinPool : Prop :=
  (∀ (c : Controller) (pool : Nat), (c.allocate pool).2.data.sum ≤ pool)
  ∧ (∀ c : Controller,
    let runs := fun b : Bay => c.managed b && ((c.outlet b).state == .STARTING || (c.outlet b).state == .CHARGING
      || ((c.outlet b).state == .PAUSED && (c.outlet b).reasons == { Reasons.empty with budget := true }
        && (c.outlet b).pauseMinimum.isNone))
    let place := fun (running : Bool) (b : Bay) =>
      ({ bay := b, priority := c.priority b, running := running, starting := (c.outlet b).state == .STARTING
         minimum := (c.bay b).pMin } : PassEntry)
    c.firstPassList.Pairwise (fun x y => x.priority ≤ y.priority)
    ∧ ∀ level, (c.firstPassList.filter fun x => x.priority == level)
      = (((List.finRange 24).filter fun b => runs b && c.priority b == level).map (place true))
        ++ ((c.pool.queue.filter fun e => e.active && c.priority e.bay == level).map fun e => place false e.bay))
  ∧ ∀ (stagger pool starts : Nat) (l : List PassEntry),
    let walked := walk stagger pool starts l
    let spent := fun w : List (PassEntry × PassOutcome) =>
      ((w.filter fun x => x.2 == .MINIMUM || x.2 == .ADMITTED).map fun x => x.1.minimum).sum
    let count := fun w : List (PassEntry × PassOutcome) => w.foldl (fun n x =>
      if x.2 = .ADMITTED then n + 1 else if x.2 = .BUDGET ∧ x.1.starting = true then n - 1 else n) starts
    (walked.1.map fun x => x.1) = l ∧ walked.2 = pool - spent walked.1
    ∧ ∀ i x, walked.1[i]? = some x →
      let before := walked.1.take i
      let fits := x.1.minimum ≤ pool - spent before
      x.2 = if x.1.running then (if fits then .MINIMUM else .BUDGET)
            else if fits ∧ count before < stagger then .ADMITTED else .WAITING

/-- A queue entry joins before the first entry whose entry priority is above its own, and the others keep their places (R74). Every computed
allocation that a round forms is 0 or between the outlet's minimum and maximum power (R83, R80). A session's effective priority (R72). An
outlet that the walk gave its minimum gets its extra besides, its request clamped to m..P_max less m, where what the walk and the lower
priority levels left covers the extras of its level, and otherwise a share by the water-fill of its level; every other bay gets 0 W (R80).
The water-fill gives away all there is: each outlet its whole extra up to one share for all, those above it the share, and 1 W more the
first of them in bay order (R81). The walk starts with the outlets STARTING or STARTING before silence (R79). -/
def Obligations.QueueOrderAndAllocationLimits : Prop :=
  (∀ (e : QueueEntry) (q : List QueueEntry), ∃ before after, q = before ++ after ∧ queueInsert e q = before ++ e :: after
     ∧ (∀ x ∈ before, x.priority ≤ e.priority) ∧ ∀ x, after.head? = some x → e.priority < x.priority)
  ∧ (∀ (c : Controller) (pool : Nat) (b : Bay), (c.bay b).pMin ≤ (c.bay b).pMax →
       (c.allocate pool).2.get b = 0
         ∨ ((c.bay b).pMin ≤ (c.allocate pool).2.get b ∧ (c.allocate pool).2.get b ≤ (c.bay b).pMax))
  ∧ (∀ (c : Controller) (b : Bay) (ss : Session), (c.outlet b).session = some ss →
       (ss.kind = .SERVICE → c.priority b = 0)
       ∧ (ss.kind = .PAID ∨ (ss.kind = .CREDIT ∧ ss.boundSlot = none) →
         c.priority b = (c.bay b).priority - c.inForce.tariff.boosts.get 0)
       ∧ ∀ (k : SlotNo) (tier : Fin 4), ss.kind = .CREDIT → ss.boundSlot = some k → (c.record k).tier = tier.val →
         c.priority b = (c.bay b).priority - c.inForce.tariff.boosts.get tier)
  ∧ (∀ (c : Controller) (b : Bay), (c.reading b = none → c.extra b = 0)
       ∧ ∀ e, c.reading b = some e →
         c.extra b = (max ((c.bay b).pMin : Int) (min (c.bay b).pMax e.request) - (c.bay b).pMin).toNat)
  ∧ (∀ (q : Nat) (g : List (Bay × Nat)), (g.map (·.1)).Nodup →
       let shares := (shareLevel q g).1
       let sum := (g.map (·.2)).sum
       (sum ≤ q → shares = g ∧ (shareLevel q g).2 = q - sum)
       ∧ (q < sum → (shareLevel q g).2 = 0 ∧ shares.length = g.length ∧ (shares.map (·.2)).sum = q
         ∧ ∃ share ≤ q, ∃ more < g.length, ∀ x ∈ g,
           (x.1, if x.2 ≤ share then x.2
                 else if (g.filter fun y => decide (share < y.2 ∧ y.1 < x.1)).length < more then share + 1 else share) ∈ shares))
  ∧ ∀ (c : Controller) (pool : Nat),
      let starts := ((List.finRange 24).filter fun b => (c.outlet b).state == .STARTING
        || ((c.outlet b).state == .OFFLINE && (c.outlet b).beforeSilence == some .STARTING)).length
      let walked := walk c.inForce.stagger pool starts c.firstPassList
      let given := walked.1.filter fun x => x.2 == .MINIMUM || x.2 == .ADMITTED
      let outcomes := (c.allocate pool).1
      let allocs := (c.allocate pool).2
      (∀ b, (∀ x ∈ walked.1, x.1.bay ≠ b) → outcomes.get b = none)
      ∧ (∀ i x, walked.1[i]? = some x → (∀ y ∈ walked.1.take i, y.1.bay ≠ x.1.bay) → outcomes.get x.1.bay = some x.2)
      ∧ (∀ b, (∀ x ∈ given, x.1.bay ≠ b) → allocs.get b = 0)
      ∧ ∀ i x, given[i]? = some x → (∀ y ∈ given.take i, y.1.bay ≠ x.1.bay) → x.1.priority ≤ 31 →
        let lower := ((given.filter fun y => decide (y.1.priority < x.1.priority)).map fun y => c.extra y.1.bay).sum
        let level := (given.filter fun y => y.1.priority == x.1.priority).map fun y => (y.1.bay, c.extra y.1.bay)
        allocs.get x.1.bay = x.1.minimum
          + ((((shareLevel (walked.2 - lower) level).1.find? fun y => y.1 == x.1.bay).map (·.2)).getD 0)

/-- The reserve window that a round selects by the minute of day, its floor and its grid charging (R89); the readings that make the
evaluation of the discharge permission clear (R90); the permission after a clear or a held evaluation, and the discharge offered right
after it (R90 to R92). -/
def Obligations.DischargePermissionAndOffer : Prop :=
  (∀ (s : Settings) (st : Storage),
    (∀ b : BatteryReading,
      let st' := st.evaluate s (some b)
      (st'.allowed = true ↔ (if st.allowed then st.floor < b.energy else st.floor + s.hBat ≤ b.energy ∧ st.floor < b.energy))
      ∧ (st'.allowed = true → st'.bOff = min (s.pDisSet : Int) (max 0 b.dischargeLimit))
      ∧ (st'.allowed = false → st'.bOff = 0) ∧ st'.lastClear = some true)
    ∧ (st.evaluate s none).allowed = false ∧ (st.evaluate s none).bOff = 0 ∧ (st.evaluate s none).lastClear = some false)
  ∧ (∀ (c : Controller) (b : BatteryReading), c.clearBattery = some b ↔
      ∃ a, c.singleton .BATTERY = some a ∧ (c.node a).state = .PRESENT ∧ b.faultCode = 0 ∧ b.empty = false
        ∧ ∃ arr, (c.node a).readings = some arr ∧ arr.body = .battery b
          ∧ c.run.ms - arr.stamp ≤ c.inForce.tStale * 1000 ∧ c.link.state ≠ .DOWN)
  ∧ ∀ (st : Storage) (now : Nat) (ws : List ReserveWindow),
      let minute := now / 60 % 1440
      let at' := st.selectWindow true now ws
      let unsure := st.selectWindow false now ws
      unsure.windowStart = none ∧ unsure.gridCharge = false ∧ (∀ w ∈ ws, w.floor ≤ unsure.floor)
      ∧ (unsure.floor = 0 ∨ ∃ w ∈ ws, w.floor = unsure.floor)
      ∧ (ws = [] → at'.windowStart = none ∧ at'.floor = 0 ∧ at'.gridCharge = false)
      ∧ ∀ w ∈ ws, (∀ v ∈ ws, v.start = w.start → v = w) →
        (w.start ≤ minute ∧ ∀ v ∈ ws, v.start ≤ minute → v.start ≤ w.start)
          ∨ ((∀ v ∈ ws, minute < v.start) ∧ ∀ v ∈ ws, v.start ≤ w.start) →
        at'.windowStart = some w.start ∧ at'.floor = w.floor ∧ at'.gridCharge = w.gridCharge

/-- The battery setpoint never discharges more than B_off and never charges more than the lesser of P_chg_set and the charge limit; it is 0
with no battery that R94 and R95 apply to: they apply to the fresh reading of a PRESENT node without a fault code while STOP_ALL is not
asserted, and to no other (R94 to R96). A need above 0 W is discharged by the least of need, B_off and forecast import (R94); any other is
charged by the least of the headroom, those limits and, where grid charging is not permitted, the canopy surplus, and by nothing where the
battery is full (R95). Every step keeps B_off from being negative. -/
def Obligations.SetpointStaysWithinBounds : Prop :=
  (Invariant fun s => 0 ≤ s.ctl.storage.bOff)
  ∧ (∀ (s : Settings) (st : Storage) (b : BatteryReading) (need forecast : Int), 0 ≤ st.bOff →
    batterySetpoint s st (some b) need forecast ≤ st.bOff
    ∧ -(min (s.pChgSet : Int) (max 0 b.chargeLimit)) ≤ batterySetpoint s st (some b) need forecast
    ∧ (0 < need → batterySetpoint s st (some b) need forecast = min need (min st.bOff (max 0 forecast)))
    ∧ (need ≤ 0 → b.full = true → batterySetpoint s st (some b) need forecast = 0)
    ∧ (need ≤ 0 → b.full = false →
      let limit := min (s.pChgSet : Int) (max 0 b.chargeLimit)
      (st.gridCharge = true → batterySetpoint s st (some b) need forecast = -(min (-need) limit))
      ∧ (st.gridCharge = false → batterySetpoint s st (some b) need forecast = -(min (min (-need) limit) (max 0 (-forecast))))))
  ∧ (∀ (s : Settings) (st : Storage) (need forecast : Int), batterySetpoint s st none need forecast = 0)
  ∧ ∀ c : Controller,
    (c.lines.stopAll.qualified = true → c.drivenBattery = none)
    ∧ (∀ a, c.singleton .BATTERY = some a → (c.node a).state ≠ .PRESENT → c.drivenBattery = none)
    ∧ (c.freshBattery = none → c.drivenBattery = none)
    ∧ (∀ b, c.freshBattery = some b → b.faultCode ≠ 0 → c.drivenBattery = none)
    ∧ ∀ b, c.drivenBattery = some b ↔
      ∃ a, c.singleton .BATTERY = some a ∧ (c.node a).state = .PRESENT ∧ c.lines.stopAll.qualified = false ∧ b.faultCode = 0
        ∧ ∃ arr, (c.node a).readings = some arr ∧ arr.body = .battery b
          ∧ c.run.ms - arr.stamp ≤ c.inForce.tStale * 1000 ∧ c.link.state ≠ .DOWN

/-- The split of an increment by the round's totals: solar and battery parts rounded down and no more than the increment, all grid when M is
0 W; and the draw between the grid part and the increment, weighted and rounded up (R106, R109). -/
def Obligations.IncrementSplitAndDraw : Prop :=
  (∀ (e : Nat) (pv bat m : Int), 0 ≤ pv → 0 ≤ bat → pv + bat ≤ m →
    share e pv m + share e bat m ≤ e
    ∧ (0 < m → share e pv m = ((e : Int) * pv / m).toNat ∧ share e bat m = ((e : Int) * bat / m).toNat)
    ∧ (m = 0 → share e pv m = 0 ∧ share e bat m = 0))
  ∧ ∀ (t : Tariff) (p b g : Nat), drawOf t p b g = (16 * g + t.wBat * b + t.wPv * p + 15) / 16
    ∧ (t.wPv ≤ 16 → t.wBat ≤ 16 → g ≤ drawOf t p b g ∧ drawOf t p b g ≤ p + b + g)

/-! ### Bay link -/

/-- START enters DISCOVERING from IDLE with the node table emptied and IDENT_REQ to address 1, its response waiting; RUNNING and a link that
is not IDLE refuse it (R196, R125). FRAME_SENT starts the wait for a reply with the T_reply read at the exchange (R118). In DISCOVERING
nothing waits for the exchange in progress, no window is asked for, and no final cycle runs, in every state that a step reaches from one
where this holds (R123, R141, R142, R146). -/
def Obligations.StartDiscoversAndFramesAwaitReplies : Prop :=
  (Invariant fun s => s.ctl.link.state = .DISCOVERING → s.ctl.link.finalCycle = false ∧ s.ctl.link.stopWaiting = false
    ∧ s.ctl.link.restartWaiting = false ∧ s.ctl.link.window.phase = .NONE)
  ∧ ∀ s : State, s.ctl.taking = true →
    (s.ctl.run.running = true → exec .start s = .next (s.put (s.ctl.answer 0x60 .WRONG_STATE .none)))
    ∧ (s.ctl.run.running = false → s.ctl.link.state ≠ .IDLE → exec .start s = .next (s.put (s.ctl.answer 0x60 .BUSY .none)))
    ∧ (s.ctl.run.running = false → s.ctl.link.state = .IDLE →
      ∃ t, exec .start s = .next t ∧ t.ctl.link.state = .DISCOVERING ∧ (∀ a, t.ctl.node a = .absent)
        ∧ t.ctl.link.exchange = some { sent := .identReq 0, tReply := s.ctl.inForce.tReply, waiting := none }
        ∧ t.ctl.port.buffer = .PENDING 0x60 ∧ t.ctl.outlets = s.ctl.outlets ∧ t.ctl.credit = s.ctl.credit ∧ t.ctl.pool = s.ctl.pool
        ∧ s.ctl.quietBlocks t.ctl)
    ∧ (∀ ex, s.ctl.link.exchange = some ex → ex.waiting = none → ex.sent.unanswered = false →
      exec .frameSent s = .next (s.put { s.ctl with link :=
        { s.ctl.link with exchange := some { ex with waiting := some ex.tReply } } }))

/-- A discovery asks the thirty addresses in ascending order, with nothing waiting for its exchanges and no final cycle, as O39 says of
every discovery: after an IDENT or an IDENT_TIMEOUT of an address below 30 the next address is asked; a good IDENT enters the node PRESENT,
or IGNORED with the first cause of R121 that applies and its notice, and the bays mapped to it are checked; a timeout leaves the table
(R125, R121, R126). After address 30 the link is RUNNING and its counts are 0, a bay whose node was not found is NOT_SEEN, the run mode is
RUNNING, START is answered with the counts of nodes, the round timer runs, and the first cycle polls the lowest known node, without one
probes the lowest ABSENT address, and without either, every node being IGNORED, begins its windows, which clear every report-used flag (R126
to R128, R133, R196, R64). After an attach probe the windows begin with every report-used flag clear; an IDENT enters the node as in a
discovery, and one entered PRESENT raises ATTACHED and makes the all-silent count 0 (R133, R128, R139). That MAP_MISMATCH is raised at every
failing map check, also for a bay that had that cause, is the model's inference (log 17). -/
def Obligations.DiscoveryAsksEachAddressInTurn : Prop :=
  (∀ (s : State) (a : Addr), s.ctl.taking = true → s.ctl.link.state = .DISCOVERING →
    s.ctl.link.awaited = some (.identReq a) → s.ctl.link.stopWaiting = false →
    s.ctl.link.restartWaiting = false → s.ctl.link.window.phase = .NONE → s.ctl.link.finalCycle = false →
    let asks := fun (t : State) (f : Sent) => t.ctl.link.exchange = some { sent := f, tReply := s.ctl.inForce.tReply, waiting := none }
    let number := fun (t : State) (st : NodeState) => ((List.finRange 30).filter fun x => (t.ctl.node x).state == st).length
    let goesOn := fun t : State =>
      (∀ next : Addr, next.val = a.val + 1 → asks t (.identReq next) ∧ t.ctl.link.state = .DISCOVERING ∧ t.ctl.pool = s.ctl.pool
        ∧ t.ctl.run = s.ctl.run)
      ∧ (a.val = 29 →
        t.ctl.link.state = .RUNNING ∧ t.ctl.link.cycles = 0 ∧ t.ctl.link.allSilent = 0 ∧ t.ctl.link.lastWindows = 0
        ∧ t.ctl.link.lastReports = 0 ∧ t.ctl.raised .linkDiscovered
        ∧ t.ctl.run = { s.ctl.run with running := true }
        ∧ (s.ctl.run.running = false → s.ctl.port.buffer = .PENDING 0x60 →
          t.ctl.holds 0x60 .OK (.nodes (number t .PRESENT) (number t .IGNORED)))
        ∧ t.ctl.pool = { s.ctl.pool with roundTimer := some (s.ctl.pool.roundTimer.getD (s.ctl.inForce.tRound * 1000)) }
        ∧ (∀ b, (s.ctl.bay b).map.valid = true → (s.ctl.outlet b).offlineCause = some .MAP_MISMATCH →
          (t.ctl.node (s.ctl.bay b).map.node).state = .ABSENT → (t.ctl.outlet b).offlineCause = some .NOT_SEEN)
        ∧ (∀ x, t.ctl.lowestKnown x → asks t (.poll x) ∧ t.ctl.link.probe = 0)
        ∧ (∀ x, (∀ y, (t.ctl.node y).known = false) → (t.ctl.node x).state = .ABSENT →
          (∀ y, y < x → (t.ctl.node y).state ≠ .ABSENT) → asks t (.identReq x) ∧ t.ctl.link.probe.val = (x.val + 1) % 30)
        ∧ ((∀ y, (t.ctl.node y).state = .IGNORED) → t.ctl.windowsBegin ∧ t.ctl.link.probe = 0))
    let keeps := fun (t : State) (x : Addr) =>
      let opens := a.val = 29 ∧ ∀ y, (t.ctl.node y).state = .IGNORED
      (¬ opens → t.ctl.node x = s.ctl.node x) ∧ (opens → t.ctl.node x = { s.ctl.node x with reportUsed := false })
    (∀ kind count rating serial,
      let id : Identity := { kindCode := kind, outletCount := count, rating := rating, serial := serial }
      ∃ t, exec (.ident a kind count rating serial) s = .next t ∧ goesOn t ∧ s.ctl.enteredAt t.ctl a id
      ∧ (∀ x, x ≠ a → keeps t x) ∧ t.ctl.credit = s.ctl.credit
      ∧ t.ctl.settings = s.ctl.settings ∧ t.ctl.lines = s.ctl.lines)
    ∧ (∃ t, exec .identTimeout s = .next t ∧ goesOn t ∧ (∀ x, keeps t x)
      ∧ (a.val < 29 → t.ctl.outlets = s.ctl.outlets ∧ t.ctl.port = s.ctl.port)
      ∧ t.ctl.credit = s.ctl.credit ∧ t.ctl.storage = s.ctl.storage ∧ t.ctl.settings = s.ctl.settings ∧ t.ctl.lines = s.ctl.lines))
  ∧ (∀ (s : State) (a : Addr), s.ctl.taking = true → s.ctl.ordinaryCycle → s.ctl.link.awaited = some (.identReq a) →
    (∀ kind count rating serial,
      let id : Identity := { kindCode := kind, outletCount := count, rating := rating, serial := serial }
      let cause := s.ctl.link.ignoreCause a id
      ∃ t, exec (.ident a kind count rating serial) s = .next t ∧ t.ctl.windowsBegin ∧ s.ctl.enteredAt t.ctl a id
        ∧ (cause = none → t.ctl.raised .nodeAttached) ∧ (cause ≠ none → t.ctl.link.allSilent = s.ctl.link.allSilent)
        ∧ (∀ x, x ≠ a → t.ctl.node x = { s.ctl.node x with reportUsed := false }) ∧ t.ctl.link.state = .RUNNING
        ∧ t.ctl.link.probe = s.ctl.link.probe ∧ t.ctl.link.cycles = s.ctl.link.cycles ∧ t.ctl.credit = s.ctl.credit
        ∧ t.ctl.pool = s.ctl.pool ∧ t.ctl.settings = s.ctl.settings ∧ t.ctl.lines = s.ctl.lines ∧ t.ctl.run = s.ctl.run)
    ∧ ∃ t, exec .identTimeout s = .next t ∧ t.ctl.windowsBegin ∧ (∀ x, t.ctl.node x = { s.ctl.node x with reportUsed := false })
      ∧ t.ctl.link.state = .RUNNING ∧ t.ctl.link.allSilent = s.ctl.link.allSilent ∧ t.ctl.link.probe = s.ctl.link.probe
      ∧ t.ctl.outlets = s.ctl.outlets ∧ t.ctl.credit = s.ctl.credit ∧ t.ctl.pool = s.ctl.pool ∧ t.ctl.port = s.ctl.port
      ∧ s.ctl.quietBlocks t.ctl)
  ∧ ∀ (l : Link) (a : Addr) (id : Identity),
    let kind := kindOfCode id.kindCode
    let other := fun p : Node → Prop => ∃ x, x ≠ a ∧ (l.nodes.get x).known = true ∧ p (l.nodes.get x)
    let sameKind := kind.isSome = true ∧ kind ≠ some .PEDESTAL ∧ other fun n => n.kind = kind
    let sameSerial := other fun n => (n.identity.map (·.serial)) = some id.serial
    let bad := kind = none ∨ (kind = some .PEDESTAL ∧ ¬ (1 ≤ id.outletCount ∧ id.outletCount ≤ 4))
    (sameKind → l.ignoreCause a id = some .DUPLICATE_KIND)
    ∧ (¬ sameKind → sameSerial → l.ignoreCause a id = some .DUPLICATE_SERIAL)
    ∧ (¬ sameKind → ¬ sameSerial → bad → l.ignoreCause a id = some .BAD_IDENT)
    ∧ (¬ sameKind → ¬ sameSerial → ¬ bad → l.ignoreCause a id = none)

/-- A good STATUS stores its readings with their arrival, clears the miss count and makes a SILENT node PRESENT, and its contents reach
their block (R129, R138): a pedestal's entries their bays in ascending outlet index, first the return from OFFLINE by R51, then R34 (with
R42, R44, R47); a canopy's reported cap the delivery record (R100); a supply meter's voltage the supply window by R162, whose change adds
SUPPLY to every session or removes it (R163). That an outlet heard again is given a target of 0 W where its state runs no charge is the
model's inference (log 10). The visit then goes on with the frame that R130 gives, a SETPOINT, a notice or the next POLL, its value recorded
as outstanding and a notice taken from its list (R130 to R132). In the final cycle of a STOP a STATUS is taken in the same way, and where no
frame of a visit follows it the link enters IDLE (R142, R197). That the outlets of a step are fixed when it is reached is the model's choice
(log 36), and so is that a canopy's report makes the computed cap pending also in the final cycle of a STOP (log 49) and at the first report
after a discovery that follows IDLE or DOWN (log 50). -/
def Obligations.StatusStoresReadingsAndJudgesSupply : Prop :=
  (∀ (s : State) (a : Addr) (body : StatusBody), s.ctl.taking = true → s.ctl.lastCycle → s.ctl.link.awaited = some (.poll a) →
    (s.ctl.node a).known = true → (s.ctl.node a).accepts body = true → s.finalAsAny (.status a body))
  ∧ (∀ (s : State) (a : Addr) (body : StatusBody), s.ctl.taking = true → s.ctl.ordinaryCycle →
     s.ctl.link.awaited = some (.poll a) → (s.ctl.node a).known = true → (s.ctl.node a).accepts body = true →
     ∃ t, exec (.status a body) s = .next t
       ∧ (t.ctl.node a).readings = some { body := body, time := s.ctl.run.siteTime, stamp := s.ctl.run.ms }
       ∧ (t.ctl.node a).misses = 0 ∧ (t.ctl.node a).state = .PRESENT ∧ (t.ctl.node a).identity = (s.ctl.node a).identity
       ∧ ((s.ctl.node a).state = .SILENT → t.ctl.raised .nodeReturned)
       ∧ t.ctl.settings = s.ctl.settings ∧ t.ctl.lines = s.ctl.lines ∧ t.ctl.run = s.ctl.run
       ∧ (∀ es, body = .pedestal es →
         let returned := (s.ctl.node a).state == .SILENT
         let c1 := s.ctl.updNode a (Node.take body s.ctl.run.siteTime s.ctl.run.ms)
         let c2 := if returned then c1.nodeReturns (some .PEDESTAL) else c1
         let c3 := if returned then c2.eachEntry a es fun b e c => c.heard b e.plugged else c2
         let c4 := c3.eachEntry a es fun b e c => (c.heard b e.plugged).outletEntry b e
         t.ctl.outlets = c4.outlets ∧ t.ctl.credit = c4.credit ∧ t.ctl.pool = c4.pool ∧ t.ctl.port = c4.port
         ∧ t.ctl.storage = s.ctl.storage ∧ s.ctl.visitGoesOn t.ctl a (c4.node a).notices)
       ∧ ((∀ es, body ≠ .pedestal es) → s.ctl.visitGoesOn t.ctl a (s.ctl.node a).notices)
       ∧ (∀ r, body = .battery r → t.ctl.credit = s.ctl.credit ∧ t.ctl.outlets = s.ctl.outlets ∧ t.ctl.pool = s.ctl.pool
         ∧ ((s.ctl.node a).state = .SILENT → t.ctl.storage.battery.acked = none))
       ∧ (∀ p cap, body = .canopy p cap → t.ctl.credit = s.ctl.credit ∧ t.ctl.outlets = s.ctl.outlets ∧ t.ctl.pool = s.ctl.pool
         ∧ (s.ctl.storage.canopy.acked ≠ some cap → t.ctl.storage.canopy.acked = none
           ∧ t.ctl.storage.canopy.pending = (s.ctl.storage.canopy.pending <|> s.ctl.storage.canopy.computed)))
       ∧ (∀ p v, body = .supplyMeter p v → t.ctl.credit = s.ctl.credit ∧ t.ctl.outlets.lastVoltage = some v
         ∧ (let before := s.ctl.outlets.window
            let after := windowAfter s.ctl.inForce v before
            t.ctl.outlets.window = after
            ∧ (∀ b, (t.ctl.outlet b).session = (s.ctl.outlet b).session)
            ∧ (∀ side, before = none → after = some side →
              (∀ b, (s.ctl.outlet b).session.isSome = true → (s.ctl.outlet b).acting.inSession = true →
                (t.ctl.outlet b).reasons.supply = true
                ∧ ((s.ctl.outlet b).reasons.supply = false → (t.ctl.outlet b).acting = .PAUSED))
              ∧ t.ctl.flagged .SUPPLY_WINDOW s.ctl.run.siteTime s.ctl.run.timeValid ∧ t.ctl.raised side.cause)
            ∧ (∀ side, before = some side → after = none →
              (∀ b, (s.ctl.outlet b).reasons.supply = true → s.ctl.resumedAt t.ctl b { (s.ctl.outlet b).reasons with supply := false })
              ∧ (∀ b, (s.ctl.outlet b).reasons.supply = false → (s.ctl.outlet b).alike (t.ctl.outlet b))
              ∧ t.ctl.raised .supplyBackIn)
            ∧ (∀ x y, before = some x → after = some y → x ≠ y → t.ctl.raised y.cause)
            ∧ (before.isSome = after.isSome → t.ctl.outlets.entries = s.ctl.outlets.entries ∧ t.ctl.pool = s.ctl.pool))))
  ∧ (∀ (s : Settings) (v : Nat),
       (v < s.vLow → windowAfter s v none = some .LOW) ∧ (s.vLow ≤ v → s.vHigh < v → windowAfter s v none = some .HIGH)
       ∧ (s.vLow ≤ v → v ≤ s.vHigh → windowAfter s v none = none)
       ∧ ∀ side, (s.vLow + s.vHys ≤ v → v + s.vHys ≤ s.vHigh → windowAfter s v (some side) = none)
         ∧ (¬ (s.vLow + s.vHys ≤ v ∧ v + s.vHys ≤ s.vHigh) →
           (side = .LOW → windowAfter s v (some side) = if s.vHigh < v then some .HIGH else some .LOW)
           ∧ (side = .HIGH → windowAfter s v (some side) = if v < s.vLow then some .LOW else some .HIGH)))
  ∧ Side.LOW.cause = .supplyOutLow ∧ Side.HIGH.cause = .supplyOutHigh
  ∧ (∀ (c : Controller) (b : Bay) (plugged : Bool),
      let o := c.outlet b
      let c' := c.heard b plugged
      let o' := c'.outlet b
      let st := o.beforeSilence.getD (if (c.bay b).map.managed = false then .METER_ONLY else if plugged then .PLUGGED else .IDLE)
      let thawed := fun x : Option Timer => x.map fun y => { y with frozenBySilence := false }
      (o.state ≠ .OFFLINE ∨ o.offlineCause = some .MAP_MISMATCH → c' = c)
      ∧ (o.state = .OFFLINE → o.offlineCause ≠ some .MAP_MISMATCH →
        o'.state = st ∧ o'.offlineCause = none ∧ o'.beforeSilence = none ∧ o'.silenceHold = none ∧ o'.session = o.session
        ∧ o'.inForce = o.inForce ∧ o'.reasons = o.reasons ∧ o'.overdraw = thawed o.overdraw ∧ o'.startTimer = thawed o.startTimer
        ∧ o'.fundingWait = thawed o.fundingWait ∧ o'.holdOff = thawed o.holdOff ∧ o'.pauseMinimum = thawed o.pauseMinimum
        ∧ (st = .QUEUED → ∃ e, e ∈ c'.pool.queue ∧ e.bay = b ∧ e.active = true) ∧ (st ≠ .QUEUED → c'.pool = c.pool)
        ∧ (st ≠ .STARTING → st ≠ .CHARGING → st ≠ .OFFLINE → st ≠ .UNMAPPED → st ≠ .METER_ONLY → o'.pending = pendingFor o.inForce 0)
        ∧ c'.credit = c.credit ∧ c'.port = c.port ∧ c'.link = c.link ∧ c.outletsBut b c' ∧ c.quietBlocks c'))
  ∧ ∀ (c : Controller) (b : Bay) (e : OutletReading),
      let o := c.outlet b
      let c1 := c.meter b e.meter c.run.ms
      let c' := c.outletEntry b e
      let o' := c'.outlet b
      let margin := (o.inForce * c.inForce.marginPct).fdiv 100 + c.inForce.marginAbs
      let admitted := (o.session.map (·.admitted)) = some true
      let overdraws := o'.overdraw = if o.inForce + margin < e.measured
        then some (o.overdraw.getD { left := c.inForce.tOvd * 1000, frozenBySilence := false, frozenByWindow := false }) else none
      (o.state = .OFFLINE ∨ o.state = .UNMAPPED → c' = c)
      ∧ (o.state = .METER_ONLY ∨ o.state = .DISABLED ∨ o.state = .HOLDOFF ∨ o.state = .LOCKED → c' = c1)
      ∧ (o.state.inSession = true ∨ o.state = .IDLE ∨ o.state = .PLUGGED ∨ o.state = .ENDING → e.moduleFault ≠ 0 →
        c.faultedAt c' b .MODULE)
      ∧ (e.moduleFault = 0 →
        (o.state = .IDLE → (e.plugged = true → o'.state = .PLUGGED) ∧ (e.plugged = false → c' = c1))
        ∧ (o.state = .PLUGGED → (e.plugged = true → c' = c1) ∧ (e.plugged = false → o'.state = .IDLE))
        ∧ (o.state = .ENDING → (e.plugged = true → o'.state = .ENDING ∧ overdraws)
          ∧ (e.plugged = false → o'.state = .IDLE ∧ o'.overdraw = none))
        ∧ (o.state.inSession = true → e.plugged = false → c' = c1.endSession b .UNPLUGGED .IDLE)
        ∧ (o.state.inSession = true → e.plugged = true →
          let steady := e.customerPause = o.reasons.customer
          (e.vehicleDone = false → e.customerPause = true → o.reasons.customer = false → o.session.isSome = true →
            o'.state = .PAUSED ∧ o'.reasons = { o.reasons with customer := true })
          ∧ (e.vehicleDone = false → e.customerPause = false → o.reasons.customer = true → o.state = .PAUSED →
            c.resumedAt c' b { o.reasons with customer := false })
          ∧ (e.vehicleDone = true → o.state ≠ .QUEUED → admitted →
            c'.endedWith b .VEHICLE_DONE c.run.siteTime ∧ o'.state = .ENDING)
          ∧ (steady → o.state = .QUEUED → c' = c1)
          ∧ (steady → o.state = .PAUSED → e.vehicleDone = false ∨ ¬ admitted → o'.state = .PAUSED ∧ o'.reasons = o.reasons ∧ overdraws)
          ∧ (steady → o.state = .CHARGING → e.vehicleDone = false → o'.state = .CHARGING ∧ overdraws)
          ∧ (steady → o.state = .STARTING → e.vehicleDone = false →
            (o.inForce + 2 * margin < e.measured → c.faultedAt c' b .START_OVERLOAD)
            ∧ (e.measured ≤ o.inForce + 2 * margin → ((c.bay b).pMin / 2 : Nat) ≤ e.measured →
              o'.state = .CHARGING ∧ o'.startTimer = none)
            ∧ (e.measured ≤ o.inForce + 2 * margin → e.measured < ((c.bay b).pMin / 2 : Nat) → c' = c1))))

/-- A missed POLL raises the miss count of its node by one up to three; the third makes a PRESENT node SILENT, with the NODE notice and the
fault flag (R137). The silence of a pedestal takes its bays OFFLINE with cause SILENT: state and timers are kept, target and computed
allocation go, and a held session waits for T_res (R50). While a node is PRESENT the next visit follows, or after the last one the attach
probe, and without one the next visit follows while a later node is known (R128, R133); at the end of the visits of a cycle in which none
is, the all-silent count rises, and at three the link collapses to DOWN, where every mapped bay loses its session and its target, and queue,
round timer and storage values go (R139, R140, R52, R85, R101). -/
def Obligations.MissedPollsMakeANodeSilent : Prop :=
  ∀ (s : State) (a : Addr), s.ctl.taking = true → s.ctl.ordinaryCycle → s.ctl.link.awaited = some (.poll a) →
    let n := s.ctl.node a
    let falls := n.state = .PRESENT ∧ 2 ≤ n.misses
    let mapped := fun b : Bay => (s.ctl.bay b).map.valid = true ∧ (s.ctl.bay b).map.node = a
    let frozen := fun x : Option Timer => x.map fun y => { y with frozenBySilence := true }
    ((∃ x, x ≠ a ∧ (s.ctl.node x).state = .PRESENT) ∨ (n.state = .PRESENT ∧ ¬ falls) ∨ (∃ x, a < x ∧ (s.ctl.node x).known = true) →
      ∃ t, exec .statusTimeout s = .next t ∧ (t.ctl.node a).misses = min 3 (n.misses + 1) ∧ (t.ctl.node a).readings = n.readings
        ∧ (¬ falls → (t.ctl.node a).state = n.state ∧ t.ctl.port = s.ctl.port)
        ∧ (falls → (t.ctl.node a).state = .SILENT ∧ t.ctl.raised .nodeSilent
          ∧ t.ctl.flagged .NODE_SILENT s.ctl.run.siteTime s.ctl.run.timeValid)
        ∧ (¬ falls ∨ n.kind ≠ some .PEDESTAL → t.ctl.outlets = s.ctl.outlets ∧ t.ctl.pool = s.ctl.pool)
        ∧ (falls → n.kind = some .PEDESTAL →
          (∀ b, mapped b → (s.ctl.outlet b).state ≠ .UNMAPPED → (s.ctl.outlet b).state ≠ .OFFLINE →
            let o := s.ctl.outlet b
            t.ctl.outlet b = { o with
              state := .OFFLINE, offlineCause := some .SILENT, beforeSilence := some o.state, pending := none, raiseReleased := false
              session := o.session.map fun ss => { ss with interrupted := true }
              silenceHold := if o.session.isSome
                then some { left := s.ctl.inForce.tRes * 1000, frozenBySilence := false, frozenByWindow := false } else none
              overdraw := frozen o.overdraw, startTimer := frozen o.startTimer, fundingWait := frozen o.fundingWait
              holdOff := frozen o.holdOff, pauseMinimum := frozen o.pauseMinimum, changed := true }
            ∧ t.ctl.pool.computed.get b = 0
            ∧ (o.state = .QUEUED → ∀ e ∈ t.ctl.pool.queue, e.bay = b → e.active = false))
          ∧ (∀ b, ¬ mapped b ∨ (s.ctl.outlet b).state = .UNMAPPED ∨ (s.ctl.outlet b).state = .OFFLINE →
            (s.ctl.outlet b).alike (t.ctl.outlet b) ∧ t.ctl.pool.computed.get b = s.ctl.pool.computed.get b)
          ∧ (t.ctl.pool.queue.map fun e => (e.bay, e.priority)) = (s.ctl.pool.queue.map fun e => (e.bay, e.priority)))
        ∧ t.ctl.link.state = .RUNNING ∧ s.ctl.visitsGoOn t.ctl (a.val + 1) ∧ t.ctl.credit = s.ctl.credit ∧ s.ctl.quietBlocks t.ctl)
    ∧ ((∀ x, x ≠ a → (s.ctl.node x).state ≠ .PRESENT) → (∀ x, a < x → (s.ctl.node x).known = false) → n.state = .SILENT ∨ falls →
      ∃ t, exec .statusTimeout s = .next t ∧ (t.ctl.node a).state = .SILENT ∧ t.ctl.run = s.ctl.run ∧ t.ctl.settings = s.ctl.settings
        ∧ t.ctl.lines = s.ctl.lines ∧ t.ctl.link.allSilent = s.ctl.link.allSilent + 1
        ∧ (s.ctl.link.allSilent + 1 < 3 → t.ctl.link.state = .RUNNING ∧ t.ctl.link.exchange.isSome = true)
        ∧ (3 ≤ s.ctl.link.allSilent + 1 →
          t.ctl.link.state = .DOWN ∧ t.ctl.link.exchange = none ∧ (∀ x, x ≠ a → t.ctl.node x = s.ctl.node x)
          ∧ t.ctl.raised .linkDown ∧ t.ctl.flagged .LINK_DOWN s.ctl.run.siteTime s.ctl.run.timeValid
          ∧ t.ctl.pool.roundTimer = none ∧ t.ctl.pool.queue = [] ∧ (∀ b, t.ctl.pool.computed.get b = 0)
          ∧ t.ctl.pool.firstRound = true
          ∧ t.ctl.storage = { s.ctl.storage with
              allowed := false, bOff := 0, battery := { s.ctl.storage.battery with acked := none, pending := none }
              canopy := { s.ctl.storage.canopy with acked := none, pending := none } }
          ∧ ∀ b, (s.ctl.bay b).map.valid = true →
            let o := s.ctl.outlet b
            let o' := t.ctl.outlet b
            o'.state = .OFFLINE ∧ o'.session = none ∧ o'.inForce = 0 ∧ o'.pending = none ∧ o'.overdraw = none ∧ o'.startTimer = none
            ∧ o'.fundingWait = none ∧ o'.holdOff = none ∧ o'.pauseMinimum = none ∧ o'.silenceHold = none
            ∧ (o.offlineCause ≠ some .MAP_MISMATCH → o'.offlineCause = some .LINK)
            ∧ (o.state = .OFFLINE → o.offlineCause = some .MAP_MISMATCH → o'.offlineCause = some .MAP_MISMATCH)
            ∧ (o.session.isSome = true → (o'.summary.map fun y => (y.reason, y.endTime)) = some (.LINK_DOWN, s.ctl.run.siteTime))
            ∧ (o.session = none → o'.beforeSilence =
              if o.acting = .DISABLED ∨ o.acting = .LOCKED then some o.acting else none)))

/-- A SET_ACK's echo becomes the in-force allocation of the bay, or the acknowledged value of the battery or canopy, with the ACK_MISMATCH
notice when it differs from what was sent; a missed one leaves target and pending values as they were (R55, R99, R100, R131). The visit then
goes on with its next SETPOINT, notice or POLL, and so it does when a NOTICE_TO_NODE has been sent (R130, R132). In the final cycle of a
STOP all of these act in the same way, and where no frame of a visit follows the link enters IDLE (R142, R197). That a differing echo
removes the pending value of battery or canopy, also a newer one, is the model's reading of R99 (log 40), and that the outlets of a step are
fixed when it is reached its choice (log 36). -/
def Obligations.SetAckSettlesTheSetpoint : Prop :=
  (∀ (s : State) (i : Instr), s.ctl.taking = true → s.ctl.lastCycle →
    (s.ctl.repliesTo i ∧ ∃ a body, i = .setAck a body) ∨ (s.ctl.endsExchange i ∧ i = .setAckTimeout)
      ∨ (i = .frameSent ∧ ∃ ex a n, s.ctl.link.exchange = some ex ∧ ex.waiting = none ∧ ex.sent = .notice a n) → s.finalAsAny i)
  ∧ ∀ (s : State) (a : Addr), s.ctl.taking = true → s.ctl.ordinaryCycle → (s.ctl.node a).state = .PRESENT →
    let goesOn := fun t : State => s.ctl.visitGoesOn t.ctl a (s.ctl.node a).notices
    (∀ ex e, s.ctl.link.exchange = some ex → ex.waiting = none → ex.sent = .notice a e →
      ∃ t, exec .frameSent s = .next t ∧ goesOn t ∧ t.ctl.outlets = s.ctl.outlets ∧ t.ctl.credit = s.ctl.credit
        ∧ t.ctl.pool = s.ctl.pool ∧ t.ctl.port = s.ctl.port ∧ s.ctl.quietBlocks t.ctl)
    ∧ (∀ (ix : OutIx) (b : Bay) (sent w : Int), s.ctl.link.awaited = some (.setOutlet a ix w) → ix ∈ s.ctl.link.sentOutlets →
      (s.ctl.node a).outOutlet.get ix = some sent → s.ctl.bayAt a ix = some b →
      let o := s.ctl.outlet b
      (∀ echo, ∃ t, exec (.setAck a (.outlet (ix.val + 1) echo)) s = .next t ∧ (t.ctl.outlet b).inForce = echo
        ∧ (t.ctl.outlet b).pending = o.pending.bind (fun p => pendingFor echo p.target)
        ∧ (t.ctl.outlet b).state = o.state ∧ (t.ctl.outlet b).session = o.session
        ∧ (t.ctl.node a).outOutlet.get ix = none ∧ (echo ≠ sent → t.ctl.raised .outletAckMismatch)
        ∧ (echo = sent → t.ctl.port = s.ctl.port) ∧ s.ctl.outletsBut b t.ctl ∧ t.ctl.credit = s.ctl.credit
        ∧ t.ctl.pool = s.ctl.pool ∧ s.ctl.quietBlocks t.ctl ∧ goesOn t)
      ∧ (∃ t, exec .setAckTimeout s = .next t ∧ goesOn t ∧ (t.ctl.node a).outOutlet.get ix = none ∧ t.ctl.outlets = s.ctl.outlets
        ∧ t.ctl.credit = s.ctl.credit ∧ t.ctl.pool = s.ctl.pool ∧ t.ctl.port = s.ctl.port ∧ s.ctl.quietBlocks t.ctl))
    ∧ (∀ (sent w : Int), s.ctl.link.awaited = some (.setBattery a w) → (s.ctl.node a).outBattery = some sent →
      let d := s.ctl.storage.battery
      (∀ echo, ∃ t, exec (.setAck a (.battery echo)) s = .next t ∧ goesOn t
        ∧ t.ctl.storage = { s.ctl.storage with battery :=
            { d with acked := some echo, pending := if echo ≠ sent ∨ d.pending = some echo then none else d.pending } }
        ∧ (echo ≠ sent → t.ctl.raised .nodeAckMismatch) ∧ (echo = sent → t.ctl.port = s.ctl.port)
        ∧ t.ctl.outlets = s.ctl.outlets ∧ t.ctl.credit = s.ctl.credit ∧ t.ctl.pool = s.ctl.pool ∧ t.ctl.settings = s.ctl.settings)
      ∧ (∃ t, exec .setAckTimeout s = .next t ∧ goesOn t ∧ t.ctl.storage = s.ctl.storage ∧ t.ctl.outlets = s.ctl.outlets
        ∧ t.ctl.credit = s.ctl.credit ∧ t.ctl.pool = s.ctl.pool ∧ t.ctl.port = s.ctl.port))
    ∧ (∀ (sent cap : Cap), s.ctl.link.awaited = some (.setCanopy a cap) → (s.ctl.node a).outCanopy = some sent →
      let d := s.ctl.storage.canopy
      (∀ echo, ∃ t, exec (.setAck a (.canopy echo)) s = .next t ∧ goesOn t
        ∧ t.ctl.storage = { s.ctl.storage with canopy :=
            { d with acked := some echo, pending := if echo ≠ sent ∨ d.pending = some echo then none else d.pending } }
        ∧ (echo ≠ sent → t.ctl.raised .nodeAckMismatch) ∧ (echo = sent → t.ctl.port = s.ctl.port)
        ∧ t.ctl.outlets = s.ctl.outlets ∧ t.ctl.credit = s.ctl.credit ∧ t.ctl.pool = s.ctl.pool ∧ t.ctl.settings = s.ctl.settings)
      ∧ (∃ t, exec .setAckTimeout s = .next t ∧ goesOn t ∧ t.ctl.storage = s.ctl.storage ∧ t.ctl.outlets = s.ctl.outlets
        ∧ t.ctl.credit = s.ctl.credit ∧ t.ctl.pool = s.ctl.pool ∧ t.ctl.port = s.ctl.port))

/-- An empty window ends the cycle, which is counted with its windows and REPORTs, and the next cycle polls the lowest known node (R136,
R143, R128); a discarded frame changes nothing (R119). A REPORT from a node that has reported in this cycle is a chain fault: it ends the
cycle with the NODE notice, reaches no outlet and draws no ANSWER (R136). When an ANSWER has been sent the next window opens, and after the
fourth the cycle ends (R134, R136). That the empty window is counted among the windows taken, and the REPORT of a chain fault among those
received, is the model's choice (log 15). -/
def Obligations.EmptyWindowEndsTheCycle : Prop :=
  ∀ s : State, s.ctl.taking = true →
    (∀ a, s.ctl.link.awaited = some .window → s.ctl.link.stopWaiting = false → s.ctl.link.restartWaiting = false →
      s.ctl.link.window.phase = .NONE → (s.ctl.node a).known = true → (∀ x, x < a → (s.ctl.node x).known = false) →
      ∃ t, exec .windowTimeout s = .next t ∧ t.ctl.link.cycles = min 4294967295 (s.ctl.link.cycles + 1)
        ∧ t.ctl.link.lastWindows = s.ctl.link.windows ∧ t.ctl.link.lastReports = s.ctl.link.reports
        ∧ t.ctl.link.exchange = some { sent := .poll a, tReply := s.ctl.inForce.tReply, waiting := none }
        ∧ (∀ x, t.ctl.node x = s.ctl.node x) ∧ t.ctl.outlets = s.ctl.outlets ∧ t.ctl.credit = s.ctl.credit
        ∧ t.ctl.pool = s.ctl.pool ∧ t.ctl.port = s.ctl.port ∧ s.ctl.quietBlocks t.ctl)
    ∧ (∀ bytes, exec (.discardedFrame bytes) s = .next s)
    ∧ (s.ctl.ordinaryCycle →
      let cycleEnds := fun (t : State) (reports : Nat) => t.ctl.link.cycles = min 4294967295 (s.ctl.link.cycles + 1)
        ∧ t.ctl.link.lastWindows = s.ctl.link.windows ∧ t.ctl.link.lastReports = reports ∧ s.ctl.visitsGoOn t.ctl 0
      (s.ctl.link.awaited = some .window → ∃ t, exec .windowTimeout s = .next t ∧ cycleEnds t s.ctl.link.reports)
      ∧ (∀ a n x, s.ctl.link.awaited = some .window → (s.ctl.node a).reportUsed = true → (∃ y, (s.ctl.node y).state = .PRESENT) →
        ∀ i ∈ [Instr.present a n x, .paidAuth a n x, .customerStop a n],
          ∃ t, exec i s = .next t ∧ t.ctl.raised .nodeChainFault ∧ cycleEnds t (s.ctl.link.reports + 1)
            ∧ t.ctl.outlets = s.ctl.outlets ∧ t.ctl.credit = s.ctl.credit ∧ t.ctl.pool = s.ctl.pool ∧ s.ctl.quietBlocks t.ctl)
      ∧ ∀ ex a n code tier left, s.ctl.link.exchange = some ex → ex.waiting = none → ex.sent = .answer a n code tier left →
        (∃ y, (s.ctl.node y).state = .PRESENT) →
        ∃ t, exec .frameSent s = .next t
          ∧ (s.ctl.link.windows < 4 → t.ctl.sends .window ∧ t.ctl.link.windows = s.ctl.link.windows + 1
            ∧ t.ctl.link.reports = s.ctl.link.reports ∧ t.ctl.link.cycles = s.ctl.link.cycles ∧ ∀ x, t.ctl.node x = s.ctl.node x)
          ∧ (4 ≤ s.ctl.link.windows → cycleEnds t s.ctl.link.reports)
          ∧ t.ctl.outlets = s.ctl.outlets ∧ t.ctl.credit = s.ctl.credit ∧ t.ctl.pool = s.ctl.pool ∧ t.ctl.port = s.ctl.port
          ∧ s.ctl.quietBlocks t.ctl)

/-- LINK_RESTART by the link state: refused LINK_HELD, BUSY or NOT_RUNNING; from DOWN the link enters DISCOVERING with an empty node table;
in RUNNING it waits for the exchange in progress (R141). LINK_REQUEST by the link state, BUSY while a restart waits or STOP's final cycle
runs, and the grant: in RUNNING with an exchange in progress the phase becomes GRANT_PENDING, without one the window is granted at the
command, with the frame count 0, the timer of T_pt and the answer GRANTED (R146, R147). That a STOP which waits for the exchange in progress
counts as its final cycle, so that both are answered BUSY, is the model's choice (log 33). At the end of the exchange in progress a waiting
LINK_RESTART enters DISCOVERING, where every session ends with LINK_DOWN (R141, R123, R52), and a GRANT_PENDING request is granted, the
cycle being abandoned where it stands, also where that exchange would end its windows, which is log 15's. A grant freezes the overdraw and
start timers of every outlet with their remaining time (R147, R52). -/
def Obligations.LinkRestartAndRequestByLinkState : Prop :=
  (∀ s : State, s.ctl.taking = true →
     let refused := fun st => exec .linkRestart s = .next (s.put (s.ctl.answer 0x41 st .none))
     (s.ctl.link.state = .PASS_THROUGH → refused .LINK_HELD) ∧ (s.ctl.link.state = .DISCOVERING → refused .BUSY)
     ∧ (s.ctl.link.state = .IDLE → refused .NOT_RUNNING)
     ∧ (s.ctl.link.state = .DOWN → ∃ t, exec .linkRestart s = .next t ∧ t.ctl.holds 0x41 .OK .none
       ∧ t.ctl.link.state = .DISCOVERING ∧ (∀ a, t.ctl.node a = .absent)
       ∧ t.ctl.link.exchange = some { sent := .identReq 0, tReply := s.ctl.inForce.tReply, waiting := none }
       ∧ t.ctl.outlets = s.ctl.outlets ∧ t.ctl.credit = s.ctl.credit ∧ t.ctl.pool = s.ctl.pool ∧ s.ctl.quietBlocks t.ctl)
     ∧ (s.ctl.link.state = .RUNNING →
       (s.ctl.link.window.phase = .GRANT_PENDING → refused .LINK_HELD)
       ∧ (s.ctl.link.window.phase ≠ .GRANT_PENDING →
         s.ctl.link.restartWaiting = true ∨ s.ctl.link.stopWaiting = true ∨ s.ctl.link.finalCycle = true → refused .BUSY)
       ∧ (s.ctl.link.window.phase ≠ .GRANT_PENDING → s.ctl.link.restartWaiting = false → s.ctl.link.stopWaiting = false →
         s.ctl.link.finalCycle = false → s.ctl.link.exchange.isSome = true →
         exec .linkRestart s = .next (s.put (
           ({ s.ctl with link := { s.ctl.link with restartWaiting := true } } : Controller).answer 0x41 .OK .none)))))
  ∧ (∀ s : State, s.ctl.taking = true →
       let refused := fun st => exec .linkRequest s = .next (s.put (s.ctl.answer 0x42 st .none))
       let free := s.ctl.link.state = .RUNNING ∧ s.ctl.link.window.phase ≠ .GRANT_PENDING ∧ s.ctl.link.restartWaiting = false
         ∧ s.ctl.link.stopWaiting = false ∧ s.ctl.link.finalCycle = false
       (s.ctl.link.state = .PASS_THROUGH ∨ (s.ctl.link.state = .RUNNING ∧ s.ctl.link.window.phase = .GRANT_PENDING) → refused .LINK_HELD)
       ∧ (s.ctl.link.state = .DISCOVERING → refused .BUSY)
       ∧ (s.ctl.link.state = .IDLE ∨ s.ctl.link.state = .DOWN → refused .NOT_RUNNING)
       ∧ (s.ctl.link.state = .RUNNING → s.ctl.link.window.phase ≠ .GRANT_PENDING →
         s.ctl.link.restartWaiting = true ∨ s.ctl.link.stopWaiting = true ∨ s.ctl.link.finalCycle = true → refused .BUSY)
       ∧ (free → s.ctl.link.exchange.isSome = true → exec .linkRequest s = .next (s.put { s.ctl with
           port := s.ctl.port.take 0x42
           link := { s.ctl.link with window := { s.ctl.link.window with phase := .GRANT_PENDING } } }))
       ∧ (free → s.ctl.link.exchange = none → ∃ t, exec .linkRequest s = .next t ∧ t.ctl.link.state = .PASS_THROUGH
         ∧ t.ctl.link.window = { phase := .HELD, timer := some (s.ctl.inForce.tPt * 1000), raw := none, frameCount := 0
                                 expired := false, ending := none }
         ∧ t.ctl.holds 0x42 .GRANTED (.granted s.ctl.inForce.tPt) ∧ (∀ a, t.ctl.node a = s.ctl.node a)
         ∧ (∀ b, t.ctl.outlet b = (s.ctl.outlet b).windowed true)
         ∧ t.ctl.credit = s.ctl.credit ∧ t.ctl.pool = s.ctl.pool ∧ s.ctl.quietBlocks t.ctl))
  ∧ (∀ (c : Controller) (go : Controller → Controller), c.link.stopWaiting = false → c.link.restartWaiting = true →
       c.exchangeDone go = c.exchangeDone Controller.enterDiscovering)
  ∧ (∀ (c : Controller) (go : Controller → Controller), c.link.stopWaiting = false → c.link.restartWaiting = false →
       c.link.window.phase = .GRANT_PENDING → c.exchangeDone go = c.exchangeDone Controller.grant)
  ∧ ∀ (s : State) (i : Instr), s.ctl.taking = true → s.ctl.endsExchange i ∨ s.ctl.repliesTo i → s.ctl.link.state = .RUNNING →
      s.ctl.link.stopWaiting = false →
      (s.ctl.link.restartWaiting = true →
        ∃ t, exec i s = .next t ∧ t.ctl.link.state = .DISCOVERING ∧ (∀ a, t.ctl.node a = .absent) ∧ t.ctl.sends (.identReq 0)
          ∧ t.ctl.link.restartWaiting = false ∧ t.ctl.link.window.phase = .NONE
          ∧ (∀ b, (s.ctl.bay b).map.valid = true → (t.ctl.outlet b).state = .OFFLINE ∧ (t.ctl.outlet b).session = none
            ∧ (t.ctl.outlet b).inForce = 0 ∧ (t.ctl.outlet b).pending = none
            ∧ (s.ctl.endsExchange i → (s.ctl.outlet b).session.isSome = true →
              ((t.ctl.outlet b).summary.map fun y => (y.reason, y.endTime)) = some (.LINK_DOWN, s.ctl.run.siteTime)))
          ∧ t.ctl.pool.roundTimer = s.ctl.pool.roundTimer ∧ t.ctl.settings = s.ctl.settings ∧ t.ctl.lines = s.ctl.lines
          ∧ t.ctl.run = s.ctl.run ∧ (s.ctl.endsExchange i → t.ctl.storage = s.ctl.storage))
      ∧ (s.ctl.link.restartWaiting = false → s.ctl.link.window.phase = .GRANT_PENDING →
        ∃ t, exec i s = .next t ∧ t.ctl.link.state = .PASS_THROUGH ∧ t.ctl.link.exchange = none
          ∧ t.ctl.link.window = { phase := .HELD, timer := some (s.ctl.inForce.tPt * 1000), raw := none, frameCount := 0
                                  expired := false, ending := none }
          ∧ t.ctl.link.probe = s.ctl.link.probe ∧ t.ctl.link.cycles = s.ctl.link.cycles
          ∧ (s.ctl.port.buffer = .PENDING 0x42 → t.ctl.holds 0x42 .GRANTED (.granted s.ctl.inForce.tPt))
          ∧ (∀ b, timerRuns (t.ctl.outlet b).overdraw = false ∧ timerRuns (t.ctl.outlet b).startTimer = false)
          ∧ (s.ctl.endsExchange i → ∀ b, (i ≠ .statusTimeout → t.ctl.outlet b = (s.ctl.outlet b).windowed true)
            ∧ ((t.ctl.outlet b).overdraw.map (·.left)) = ((s.ctl.outlet b).overdraw.map (·.left))
            ∧ ((t.ctl.outlet b).startTimer.map (·.left)) = ((s.ctl.outlet b).startTimer.map (·.left)))
          ∧ t.ctl.settings = s.ctl.settings ∧ t.ctl.lines = s.ctl.lines ∧ t.ctl.run = s.ctl.run
          ∧ (s.ctl.endsExchange i →
            t.ctl.link.allSilent = s.ctl.link.allSilent ∧ t.ctl.credit = s.ctl.credit ∧ t.ctl.storage = s.ctl.storage))

/-- LINK_FRAME in a held window records the raw exchange and counts it, its response waiting; the reply or the end of the wait removes the
exchange and answers LINK_FRAME while the buffer is still its own; parameters out of range, a window not held and a raw exchange in progress
are refused (R148, R184). When the raw frame has been sent the wait for its reply begins (R148). That LINK_FRAME is answered NOT_HELD in a
window whose expiry waits for a raw exchange is the model's choice (log 9). -/
def Obligations.RawExchangeIsMadeAndAnswered : Prop :=
  ∀ s : State, s.ctl.taking = true →
    (∀ (a : Addr) (payload : List Byte), 1 ≤ payload.length → payload.length ≤ 32 →
      (s.ctl.link.window.phase ≠ .HELD →
        exec (.linkFrame (a.val + 1) payload) s = .next (s.put (s.ctl.answer 0x43 .NOT_HELD .none)))
      ∧ (s.ctl.link.window.phase = .HELD → s.ctl.link.window.expired = true →
        exec (.linkFrame (a.val + 1) payload) s = .next (s.put (s.ctl.answer 0x43 .NOT_HELD .none)))
      ∧ (s.ctl.link.window.phase = .HELD → s.ctl.link.window.expired = false → s.ctl.link.window.raw.isSome = true →
        exec (.linkFrame (a.val + 1) payload) s = .next (s.put (s.ctl.answer 0x43 .BUSY .none)))
      ∧ (s.ctl.link.window.phase = .HELD → s.ctl.link.window.expired = false → s.ctl.link.window.raw = none →
        exec (.linkFrame (a.val + 1) payload) s = .next (s.put { s.ctl with
          port := s.ctl.port.take 0x43
          link := { s.ctl.link with window := { s.ctl.link.window with
            raw := some { address := a, bytes := payload, tReply := s.ctl.inForce.tReply, waiting := none }
            frameCount := min 65535 (s.ctl.link.window.frameCount + 1) } } })))
    ∧ (∀ n payload, ¬ (1 ≤ n ∧ n ≤ 30) ∨ payload.length < 1 ∨ 32 < payload.length →
      exec (.linkFrame n payload) s = .next (s.put (s.ctl.answer 0x43 .BAD_PARAM .none)))
    ∧ (∀ raw, s.ctl.link.exchange = none → s.ctl.link.window.raw = some raw → raw.waiting = none →
      exec .frameSent s = .next (s.put { s.ctl with link := { s.ctl.link with window := { s.ctl.link.window with
        raw := some { raw with waiting := some raw.tReply } } } }))
    ∧ ∀ raw, s.ctl.link.window.raw = some raw → raw.waiting.isSome = true → s.ctl.link.window.ending = none →
      let after := fun (st : Status) (y : Body) =>
        s.put { s.ctl with
          port := if s.ctl.port.buffer = .PENDING 0x43 then s.ctl.port.answer 0x43 st y else s.ctl.port
          link := { s.ctl.link with window := { s.ctl.link.window with raw := none } } }
      (∀ bytes, exec (.rawReply raw.address bytes) s = .next (after .OK (.reply bytes)))
      ∧ exec .rawReplyTimeout s = .next (after .NO_REPLY .none)
      ∧ ∀ x bytes, x ≠ raw.address → exec (.rawReply x bytes) s = .next s

/-- A held window without a raw exchange ends at LINK_RELEASE, answered OK, or at its expiry, with the expired flag and the LINK notice; the
link is RUNNING with a new cycle's first POLL. With a raw exchange in progress both wait for it: when it completes the window ends, and
LINK_RELEASE is then answered OK, or LINK_FRAME by its own rule at an expiry (R184). Without a window LINK_RELEASE is refused TOO_LATE after
an expiry and NOT_HELD otherwise. The end of a window lets the overdraw and start timers run on from their remaining time, but for those
that a silence froze (R151 to R153, R52). That flag and notice come at an expiry that waits for a raw exchange, and that LINK_RELEASE is
answered TOO_LATE meanwhile, and NOT_HELD where a STOP waits for it, is the model's choice (log 9). -/
def Obligations.WindowEndsAtReleaseOrExpiry : Prop :=
  ∀ s : State, s.ctl.taking = true →
    let w := s.ctl.link.window
    (w.expired = true → exec .linkRelease s = .next (s.put (s.ctl.answer 0x44 .TOO_LATE .none)))
    ∧ (w.expired = false → w.phase ≠ .HELD ∨ w.ending = some .STOP →
      exec .linkRelease s = .next (s.put (s.ctl.answer 0x44 .NOT_HELD .none)))
    ∧ (∀ raw, w.expired = false → w.phase = .HELD → w.raw = some raw → w.ending = none →
      exec .linkRelease s = .next (s.put { s.ctl with
        port := s.ctl.port.take 0x44
        link := { s.ctl.link with window := { w with timer := none, ending := some .RELEASE } } }))
    ∧ (∀ raw, w.timer.isSome = true → w.raw = some raw →
      exec .ptExpired s = .next (s.put { s.ctl with
        port := s.ctl.port.raise .linkPtExpired
        link := { s.ctl.link with window := { w with timer := none, expired := true, ending := some .EXPIRY } } }))
    ∧ ∀ a, (s.ctl.node a).known = true → (∀ x, x < a → (s.ctl.node x).known = false) →
      let ended := fun t : State => t.ctl.link.state = .RUNNING ∧ t.ctl.link.window.phase = .NONE ∧ t.ctl.link.window.timer = none
        ∧ t.ctl.link.window.frameCount = w.frameCount
        ∧ t.ctl.link.exchange = some { sent := .poll a, tReply := s.ctl.inForce.tReply, waiting := none }
        ∧ (∀ x, t.ctl.node x = s.ctl.node x) ∧ (∀ b, t.ctl.outlet b = (s.ctl.outlet b).windowed false)
        ∧ t.ctl.credit = s.ctl.credit ∧ t.ctl.pool = s.ctl.pool ∧ s.ctl.quietBlocks t.ctl
      (w.raw = none → w.expired = false → w.phase = .HELD → w.ending ≠ some .STOP →
        ∃ t, exec .linkRelease s = .next t ∧ t.ctl.holds 0x44 .OK .none ∧ ended t ∧ t.ctl.link.window.expired = false)
      ∧ (w.raw = none → w.timer.isSome = true →
        ∃ t, exec .ptExpired s = .next t ∧ ended t ∧ t.ctl.link.window.expired = true ∧ t.ctl.port = s.ctl.port.raise .linkPtExpired)
      ∧ ∀ raw, w.raw = some raw → raw.waiting.isSome = true →
        let completes := fun (i : Instr) (st : Status) (y : Body) =>
          (w.ending = some .RELEASE → ∃ t, exec i s = .next t ∧ ended t ∧ t.ctl.link.window.raw = none
            ∧ t.ctl.link.window.expired = w.expired ∧ t.ctl.port.notices = s.ctl.port.notices
            ∧ (s.ctl.port.buffer = .PENDING 0x44 → t.ctl.holds 0x44 .OK .none))
          ∧ (w.ending = some .EXPIRY → ∃ t, exec i s = .next t ∧ ended t ∧ t.ctl.link.window.raw = none
            ∧ t.ctl.link.window.expired = w.expired ∧ t.ctl.port.notices = s.ctl.port.notices
            ∧ (s.ctl.port.buffer = .PENDING 0x43 → t.ctl.holds 0x43 st y))
        completes .rawReplyTimeout .NO_REPLY .none ∧ ∀ bytes, completes (.rawReply raw.address bytes) .OK (.reply bytes)

/-- STOP in RUNNING makes the run mode STOPPED, ends every session with COMMAND, empties the queue and every computed allocation, and marks a
battery setpoint of 0 W (R197, R85, R101). The link then goes to IDLE: at the command from DISCOVERING and DOWN; from RUNNING by a final
cycle, which begins when the exchange in progress completes; from PASS_THROUGH by the final cycle after the window's end, which a raw
exchange delays (R142, R153). The final cycle visits the known nodes in ascending order; after its last visit the link enters IDLE, and
STOP is answered (R142, R197). In STOPPED it is refused WRONG_STATE with the link IDLE and BUSY during a final cycle, and it ends the
discovery of a START. That a GRANT_PENDING phase is NONE at the command, and that a STOP which still waits for its exchange is answered
BUSY, is the model's choice (log 33), and so is that a STOP after an expiry which waits clears the expired flag (log 9). -/
def Obligations.StopEndsEverySession : Prop :=
  (∀ s : State, s.ctl.taking = true →
    let w := s.ctl.link.window
    let cycling := fun t : State => (∀ a, s.ctl.lowestKnown a → t.ctl.link.state = .RUNNING ∧ t.ctl.link.finalCycle = true
        ∧ t.ctl.link.stopWaiting = false ∧ t.ctl.link.window.phase = .NONE ∧ s.ctl.pollsNext t.ctl a ∧ t.ctl.port.buffer = .PENDING 0x61)
      ∧ ((∀ a, (s.ctl.node a).known = false) → t.ctl.linkIdle ∧ t.ctl.holds 0x61 .OK .none)
    (s.ctl.run.running = false → s.ctl.link.state = .IDLE →
      exec .stop s = .next (s.put (s.ctl.answer 0x61 .WRONG_STATE .none)))
    ∧ (s.ctl.run.running = false → s.ctl.link.state = .RUNNING ∨ s.ctl.link.state = .PASS_THROUGH ∨ s.ctl.link.state = .DOWN →
      exec .stop s = .next (s.put (s.ctl.answer 0x61 .BUSY .none)))
    ∧ (s.ctl.run.running = false → s.ctl.link.state = .DISCOVERING →
      ∃ t, exec .stop s = .next t ∧ t.ctl.linkIdle ∧ t.ctl.holds 0x61 .OK .none ∧ t.ctl.run = s.ctl.run
        ∧ t.ctl.settings = s.ctl.settings)
    ∧ (s.ctl.run.running = true → s.ctl.link.state = .DISCOVERING ∨ s.ctl.link.state = .DOWN →
      ∃ t, exec .stop s = .next t ∧ s.ctl.haltedTo t.ctl ∧ t.ctl.linkIdle ∧ t.ctl.holds 0x61 .OK .none)
    ∧ (s.ctl.run.running = true → s.ctl.link.state = .RUNNING → s.ctl.link.exchange.isSome = true →
      ∃ t, exec .stop s = .next t ∧ s.ctl.haltedTo t.ctl ∧ t.ctl.port.buffer = .PENDING 0x61
        ∧ t.ctl.storage.battery.pending = some 0 ∧ t.ctl.storage.canopy.pending = none
        ∧ t.ctl.link.state = .RUNNING ∧ t.ctl.link.stopWaiting = true ∧ t.ctl.link.restartWaiting = false
        ∧ t.ctl.link.window.phase = .NONE ∧ t.ctl.link.exchange = s.ctl.link.exchange)
    ∧ (s.ctl.run.running = true → s.ctl.link.state = .RUNNING → s.ctl.link.exchange = none →
      ∃ t, exec .stop s = .next t ∧ s.ctl.haltedTo t.ctl ∧ cycling t)
    ∧ (s.ctl.run.running = true → s.ctl.link.state = .PASS_THROUGH → w.raw = none →
      ∃ t, exec .stop s = .next t ∧ s.ctl.haltedTo t.ctl ∧ cycling t)
    ∧ (s.ctl.run.running = true → s.ctl.link.state = .PASS_THROUGH → w.raw.isSome = true →
      ∃ t, exec .stop s = .next t ∧ s.ctl.haltedTo t.ctl ∧ t.ctl.port.buffer = .PENDING 0x61 ∧ t.ctl.link.state = .PASS_THROUGH
        ∧ t.ctl.storage.battery.pending = some 0 ∧ t.ctl.storage.canopy.pending = none
        ∧ t.ctl.link.window = { w with timer := none, expired := false, ending := some .STOP }))
  ∧ (∀ (c : Controller) (go : Controller → Controller) (a : Addr), c.link.stopWaiting = true → c.lowestKnown a →
      let c' := c.exchangeDone go
      c'.link.finalCycle = true ∧ c'.link.stopWaiting = false ∧ c'.link.state = c.link.state ∧ c.pollsNext c' a
        ∧ (∀ x, c'.node x = c.node x) ∧ c'.outlets = c.outlets ∧ c'.credit = c.credit ∧ c'.port = c.port)
  ∧ (∀ (s : State) (a : Addr), s.ctl.taking = true → s.ctl.lowestKnown a →
      (s.ctl.link.awaited = some .window → s.ctl.link.stopWaiting = true →
        ∃ t, exec .windowTimeout s = .next t ∧ t.ctl.link.finalCycle = true ∧ t.ctl.link.stopWaiting = false ∧ s.ctl.pollsNext t.ctl a)
      ∧ (∀ raw, s.ctl.link.window.raw = some raw → raw.waiting.isSome = true → s.ctl.link.window.ending = some .STOP →
        ∀ i, i = .rawReplyTimeout ∨ (∃ bytes, i = .rawReply raw.address bytes) →
          ∃ t, exec i s = .next t ∧ t.ctl.link.state = .RUNNING ∧ t.ctl.link.window.phase = .NONE ∧ t.ctl.link.finalCycle = true
            ∧ s.ctl.pollsNext t.ctl a))
  ∧ ∀ (s : State) (a : Addr), s.ctl.taking = true → s.ctl.link.finalCycle = true → s.ctl.link.awaited = some (.poll a) →
      s.ctl.link.stopWaiting = false → s.ctl.link.restartWaiting = false → s.ctl.link.window.phase = .NONE →
      (∀ x, a < x → (s.ctl.node x).known = true → (∀ y, a < y → y < x → (s.ctl.node y).known = false) →
        ∃ t, exec .statusTimeout s = .next t ∧ t.ctl.link.finalCycle = true ∧ s.ctl.pollsNext t.ctl x
          ∧ t.ctl.outlets = s.ctl.outlets)
      ∧ ((∀ x, a < x → (s.ctl.node x).known = false) →
        ∃ t, exec .statusTimeout s = .next t ∧ t.ctl.linkIdle ∧ t.ctl.run = s.ctl.run ∧ t.ctl.settings = s.ctl.settings
          ∧ t.ctl.lines = s.ctl.lines ∧ (s.ctl.port.buffer = .PENDING 0x61 → t.ctl.holds 0x61 .OK .none))

/-! ### Site lines -/

/-- A level on a wire starts, keeps or drops its qualification; a qualified level is taken by the grid-limit lines alone, by STOP_ALL's
release and by KEYLOCK with their INPUT notices; a row for a line whose qualified level is already the wire's, or for the level that the
wire does not have, changes nothing (R154, R159, R164; log 2, log 8). The bank number counts GL0 1, GL1 2 and GL2 4, and selects the stored
value of its bank (R155). -/
def Obligations.LinesQualifyAndAct : Prop :=
  (∀ l : Lines, l.bank = (if l.gl0.qualified then 1 else 0) + (if l.gl1.qualified then 2 else 0) + if l.gl2.qualified then 4 else 0)
  ∧ (∀ (x : Settings) (i : Fin 8), x.lImp i.val = x.banks.get i)
  ∧ ∀ s : State,
    (∀ (line : LineId) (active : Bool),
      let l := s.ctl.lines.get line
      let left := if active = l.qualified then none else if l.wire = active then some (l.left.getD 20) else some 20
      (s.ctl.taking = true → exec (.lineChange line active) s = .next (s.put { s.ctl with
        lines := s.ctl.lines.set line { wire := active, qualified := l.qualified, left := left } }))
      ∧ (s.ctl.taking = false → exec (.lineChange line active) s = .next (s.put { s.ctl with
        lines := s.ctl.lines.set line { wire := active, qualified := l.qualified, left := l.left } })))
    ∧ (s.ctl.taking = true →
      let taken := fun line : LineId => s.ctl.lines.set line
        { wire := (s.ctl.lines.get line).wire, qualified := (s.ctl.lines.get line).wire, left := none }
      (∀ i, (s.ctl.lines.get (gridLine i)).wire ≠ (s.ctl.lines.get (gridLine i)).qualified →
        exec (.gridLimitQualified i) s = .next (s.put { s.ctl with lines := taken (gridLine i) }))
      ∧ (∀ i, (s.ctl.lines.get (gridLine i)).wire = (s.ctl.lines.get (gridLine i)).qualified →
        exec (.gridLimitQualified i) s = .next s)
      ∧ (s.ctl.lines.stopAll.wire = false ∨ s.ctl.lines.stopAll.qualified = true → exec .stopAsserted s = .next s)
      ∧ (s.ctl.lines.stopAll.wire = true ∨ s.ctl.lines.stopAll.qualified = false → exec .stopReleased s = .next s)
      ∧ (∀ opened, s.ctl.lines.keylock.wire ≠ opened ∨ s.ctl.lines.keylock.qualified = s.ctl.lines.keylock.wire →
        exec (.keylockQualified opened) s = .next s)
      ∧ (s.ctl.lines.stopAll.wire = false → s.ctl.lines.stopAll.qualified = true →
        exec .stopReleased s = .next (s.put { s.ctl with
          lines := taken .stopAll, port := s.ctl.port.raise .inputStopReleased }))
      ∧ (s.ctl.lines.keylock.wire = true → s.ctl.lines.keylock.qualified = false →
        exec (.keylockQualified true) s = .next (s.put { s.ctl with
          lines := taken .keylock, port := s.ctl.port.raise .inputKeyOpened }))
      ∧ (s.ctl.lines.keylock.wire = false → s.ctl.lines.keylock.qualified = true →
        exec (.keylockQualified false) s = .next (s.put { s.ctl with
          lines := taken .keylock, port := s.ctl.port.raise .inputKeyClosed })))

/-- The assertion of STOP_ALL ends every session with STOP_INPUT: ENDING for an admitted one and PLUGGED otherwise, the queue left without
their entries, the INPUT notice raised; run mode, link state, site hold and supply window stay (R157). -/
def Obligations.StopAllEndsEverySession : Prop :=
  ∀ s : State, s.ctl.taking = true → s.ctl.lines.stopAll.wire = true → s.ctl.lines.stopAll.qualified = false →
    ∃ t, exec .stopAsserted s = .next t ∧ t.ctl.lines.stopAll = { wire := true, qualified := true, left := none }
      ∧ (∀ b, (t.ctl.outlet b).session = none)
      ∧ (∀ b ss, (s.ctl.outlet b).session = some ss → ((t.ctl.outlet b).summary.map (·.reason)) = some .STOP_INPUT
        ∧ ((s.ctl.outlet b).state ≠ .OFFLINE → (t.ctl.outlet b).state = if ss.admitted then .ENDING else .PLUGGED)
        ∧ ((s.ctl.outlet b).state = .OFFLINE → (t.ctl.outlet b).state = .OFFLINE
          ∧ (t.ctl.outlet b).beforeSilence = some (if ss.admitted then .ENDING else .PLUGGED)))
      ∧ (∀ e ∈ t.ctl.pool.queue, e ∈ s.ctl.pool.queue ∧ (s.ctl.outlet e.bay).session = none)
      ∧ t.ctl.raised .inputStopAsserted ∧ t.ctl.run = s.ctl.run ∧ t.ctl.link.state = s.ctl.link.state
      ∧ t.ctl.link.exchange = s.ctl.link.exchange ∧ t.ctl.outlets.siteHold = s.ctl.outlets.siteHold
      ∧ t.ctl.outlets.window = s.ctl.outlets.window ∧ t.ctl.settings = s.ctl.settings ∧ t.ctl.storage = s.ctl.storage

/-! ### Settings -/

/-- SETUP_BEGIN loads the working copy from the stored copy, its OPEN level raised to KEYED under the latch; SETUP_ABANDON discards it, or
commits the stored copy at KEYED; SETTING_WRITE puts one item into it; the refusals change the response alone (R169, R170, R174, R176,
R179). The items are named by the numbers of R205, and each takes the values of its range in R167 and no others; SETTING_READ then returns
the value written, and every other item as it was (R171). That a value of another shape than its item's is answered BAD_PARAM, and that the
discarding SETUP_ABANDON answers OK without fields, are the model's inferences (log 31). -/
def Obligations.SetupEditsTheWorkingCopy : Prop :=
  (∀ g i ix it, itemOf g i ix = some it ↔ it.named = (g, i, ix))
  ∧ (∀ (w : Working) (it : Item) (v : SettingValue), (w.write it v).isSome = true ↔ it.takes v)
  ∧ (∀ (b : SettingsBlock) (w w' : Working) (it : Item) (v : SettingValue), b.working = some w → w.write it v = some w' →
    (it = .siteNumber → b.siteCell = none) → (it = .cabinetSerial → b.serialCell = none) →
    let b' := { b with working := some w' }
    (b'.read it).isWritten v ∧ ∀ x, x ≠ it → b'.read x = b.read x)
  ∧ ∀ s : State, s.ctl.taking = true →
    let b := s.ctl.settings
    (b.commit.isSome = true → exec .setupBegin s = .next (s.put (s.ctl.answer 0x50 .BUSY .none)))
    ∧ (b.commit = none → b.working.isSome = true → exec .setupBegin s = .next (s.put (s.ctl.answer 0x50 .WRONG_STATE .none)))
    ∧ (∀ y : Bay, b.commit = none → b.working = none → (s.ctl.outlet y).session.isSome = true →
      (∀ x, x < y → (s.ctl.outlet x).session = none) →
      exec .setupBegin s = .next (s.put (s.ctl.answer 0x50 .NOT_QUIET (.lowestBay y))))
    ∧ (b.commit = none → b.working = none → (∀ y, (s.ctl.outlet y).session = none) →
      let level : StoredLevel := if b.stored.level = .OPEN ∧ b.latch = true then .KEYED else b.stored.level
      let copy : Working := { settings := { b.stored with level := level }, siteNumber := none, serial := none }
      exec .setupBegin s = .next (s.put (
        ({ s.ctl with settings := { b with working := some copy } } : Controller).answer 0x50 .OK .none)))
    ∧ (∀ i c, (i, c) ∈ [(Instr.setupEnd, 0x53), (.setupAbandon, 0x54), (.fuse, 0x56)] →
      (b.working = none → exec i s = .next (s.put (s.ctl.answer c .NOT_IN_SETUP .none)))
      ∧ (b.working.isSome = true → b.commit.isSome = true → exec i s = .next (s.put (s.ctl.answer c .BUSY .none))))
    ∧ (b.working.isSome = true → b.commit = none →
      (b.latch = true → b.stored.level = .OPEN →
        let copy : Working := { settings := { b.stored with level := .KEYED }, siteNumber := none, serial := none }
        exec .setupAbandon s = .next (s.put (
          ({ s.ctl with settings := { b with working := some copy, commit := some 250 } } : Controller).answer 0x54 .OK
            (.committing true))))
      ∧ (b.latch = false ∨ b.stored.level ≠ .OPEN → exec .setupAbandon s = .next (s.put (
        ({ s.ctl with settings := { b with working := none } } : Controller).answer 0x54 .OK .none))))
    ∧ ∀ (g i : Nat) (ix : Option Nat) (v : SettingValue),
      let refused := fun st => exec (.settingWrite g i ix v) s = .next (s.put (s.ctl.answer 0x51 st .none))
      (itemOf g i ix = none → refused .BAD_PARAM)
      ∧ (∀ it, itemOf g i ix = some it →
        ((∀ w0 : Working, w0.write it v = none) → refused .BAD_PARAM)
        ∧ ((∀ w0 : Working, (w0.write it v).isSome = true) → b.working = none → refused .NOT_IN_SETUP))
      ∧ ∀ it w, itemOf g i ix = some it → b.working = some w →
        (w.write it v = none → refused .BAD_PARAM)
        ∧ ∀ w', w.write it v = some w' →
          (b.commit.isSome = true → refused .BUSY)
          ∧ (b.commit = none → it.tariff = true → lockedLevel ≤ b.level → refused .LOCKED_TARIFF)
          ∧ (b.commit = none → it.tariff = true → b.level = 1 → s.ctl.lines.keylock.qualified = false → refused .KEY_CLOSED)
          ∧ (b.commit = none → it = .siteNumber → b.siteCell.isSome = true ∨ w.siteNumber.isSome = true → refused .WRITTEN)
          ∧ (b.commit = none → it = .cabinetSerial → b.serialCell.isSome = true ∨ w.serial.isSome = true → refused .WRITTEN)
          ∧ (b.commit = none → (it.tariff = true → b.level = 0 ∨ (b.level = 1 ∧ s.ctl.lines.keylock.qualified = true)) →
            (it = .siteNumber → b.siteCell = none ∧ w.siteNumber = none) →
            (it = .cabinetSerial → b.serialCell = none ∧ w.serial = none) →
            exec (.settingWrite g i ix v) s = .next (s.put (
              ({ s.ctl with settings := { b with working := some w' } } : Controller).answer 0x51 .OK (.written g i v))))

/-- LOCK_SET changes the working level or sets the latch by the table of R177, with its refusals in order; FUSE makes the working level
FUSED with the key OPEN (R177, R178). -/
def Obligations.LockLevelsAreRaisedAndLowered : Prop :=
  (∀ (s : State) (p : Nat), s.ctl.taking = true →
    let refused := fun st => exec (.lockSet p) s = .next (s.put (s.ctl.answer 0x55 st .none))
    (2 < p → refused .BAD_PARAM)
    ∧ (p ≤ 2 → s.ctl.settings.working = none → refused .NOT_IN_SETUP)
    ∧ (p ≤ 2 → s.ctl.settings.working.isSome = true → s.ctl.settings.commit.isSome = true → refused .BUSY))
  ∧ ∀ (s : State) (w : Working), s.ctl.taking = true → s.ctl.settings.working = some w → s.ctl.settings.commit = none →
    let b := s.ctl.settings
    let keyOpen := s.ctl.lines.keylock.qualified
    let fused := b.fuseCell.isSome = true ∨ w.settings.level = .FUSED
    let refused := fun p st => exec (.lockSet p) s = .next (s.put (s.ctl.answer 0x55 st .none))
    let becomes := fun (p : Nat) (l : StoredLevel) (latch : Bool) (shown : Nat) =>
      exec (.lockSet p) s = .next (s.put (({ s.ctl with settings := { b with
        working := some { w with settings := { w.settings with level := l } }, latch := latch } } : Controller).answer 0x55 .OK
          (.level shown)))
    (∀ p, p ≤ 2 → fused → refused p .LOCKED_TARIFF)
    ∧ (∀ p, p < 2 → ¬ fused → b.latch = true → refused p .LOCKED_TARIFF)
    ∧ (¬ fused → b.latch = true → becomes 2 w.settings.level true 2)
    ∧ (¬ fused → b.latch = false →
      becomes 2 .KEYED true 2 ∧ becomes 1 .KEYED false 1
      ∧ (w.settings.level = .OPEN → becomes 0 .OPEN false 0)
      ∧ (w.settings.level = .KEYED → keyOpen = true → becomes 0 .OPEN false 0)
      ∧ (w.settings.level = .KEYED → keyOpen = false → refused 0 .KEY_CLOSED))
    ∧ (fused → exec .fuse s = .next (s.put (s.ctl.answer 0x56 .LOCKED_TARIFF .none)))
    ∧ (¬ fused → keyOpen = false → exec .fuse s = .next (s.put (s.ctl.answer 0x56 .KEY_CLOSED .none)))
    ∧ (¬ fused → keyOpen = true → exec .fuse s = .next (s.put (({ s.ctl with settings := { b with
        working := some { w with settings := { w.settings with level := .FUSED } } } } : Controller).answer 0x56 .OK .none)))

/-- SETUP_END is refused outside setup and during a commit; it begins a commit exactly when the five checks pass, and answers INVALID with
the group, item and index of the first failing check otherwise (R172). -/
def Obligations.SetupEndValidatesAndCommits : Prop :=
  ∀ s : State, s.ctl.taking = true →
    let answers := fun st y => exec .setupEnd s = .next (s.put (s.ctl.answer 0x53 st y))
    (s.ctl.settings.working = none → answers .NOT_IN_SETUP .none)
    ∧ (s.ctl.settings.working.isSome = true → s.ctl.settings.commit.isSome = true → answers .BUSY .none)
    ∧ ∀ w, s.ctl.settings.working = some w → s.ctl.settings.commit = none →
      let x := w.settings
      let fails1 := fun b : Bay => (x.bays.get b).pMax < (x.bays.get b).pMin
      let fails2 := fun b : Bay => ∃ d, d < b ∧ (x.bays.get b).map.valid = true ∧ (x.bays.get d).map.valid = true
        ∧ (x.bays.get d).map.node = (x.bays.get b).map.node ∧ (x.bays.get d).map.outlet = (x.bays.get b).map.outlet
      let fails3 := fun i : Fin 6 => ∃ j v u, j < i ∧ x.windows.get i = some v ∧ x.windows.get j = some u ∧ v.start = u.start
      let fails4 := x.vHigh < x.vLow + 2 * x.vHys
      let fails5 := fun k : SlotNo => (s.ctl.record k).state ≠ .FREE ∧ x.region.side (s.ctl.record k).kind k = false
      (∀ b, fails1 b → (∀ d, d < b → ¬ fails1 d) → answers .INVALID (.invalid 1 2 (some (b.val + 1))))
      ∧ ((∀ b, ¬ fails1 b) →
        (∀ b, fails2 b → (∀ d, d < b → ¬ fails2 d) → answers .INVALID (.invalid 1 0 (some (b.val + 1))))
        ∧ ((∀ b, ¬ fails2 b) →
          (∀ i, fails3 i → (∀ j, j < i → ¬ fails3 j) → answers .INVALID (.invalid 0 13 (some i.val)))
          ∧ ((∀ i, ¬ fails3 i) →
            (fails4 → answers .INVALID (.invalid 4 2 none))
            ∧ (¬ fails4 →
              (∀ k, fails5 k → (∀ j, j < k → ¬ fails5 j) → answers .INVALID (.invalid 3 0 (some k.val)))
              ∧ ((∀ k, ¬ fails5 k) → exec .setupEnd s = .next (s.put (
                ({ s.ctl with settings := { s.ctl.settings with commit := some 250 } } : Controller).answer 0x53 .OK
                  (.committing true))))))))

/-- The completion of a commit: the stored copy becomes the working copy, which goes with the setup flag and the commit state; fuse and
identity cells are programmed at most once; the bays whose map entry changed start anew without timers, OFFLINE with cause NOT_SEEN, or
MAP_MISMATCH where the node that the new entry names does not carry the outlet, and the others stay (R173, R31, R126, R178, R179). The
outstanding setpoints of the outlets that a changed entry names are removed (R131), and that these are those of the old and of the new entry
is the model's inference (log 35). -/
def Obligations.CommitStoresTheWorkingCopy : Prop :=
  ∀ (s : State) (w : Working), s.ctl.taking = true → s.ctl.settings.commit.isSome = true → s.ctl.settings.working = some w →
    let b := s.ctl.settings
    ∃ t, exec .commitComplete s = .next t
      ∧ t.ctl.settings = { b with
          stored := w.settings, working := none, commit := none
          fuseCell := if b.fuseCell.isSome then b.fuseCell
                      else if w.settings.level = .FUSED then some w.settings.tariff else none
          siteCell := if b.siteCell.isSome then b.siteCell else w.siteNumber
          serialCell := if b.serialCell.isSome then b.serialCell else w.serial }
      ∧ t.ctl.raised .settingsCommitted ∧ t.ctl.credit = s.ctl.credit ∧ t.ctl.pool = s.ctl.pool ∧ t.ctl.run = s.ctl.run
      ∧ t.ctl.lines = s.ctl.lines ∧ t.ctl.storage = s.ctl.storage
      ∧ t.ctl.link = { s.ctl.link with nodes := t.ctl.link.nodes }
      ∧ (∀ a, t.ctl.node a = { s.ctl.node a with outOutlet := (t.ctl.node a).outOutlet })
      ∧ (let named := fun (a : Addr) (ix : OutIx) (m : MapEntry) => m.valid = true ∧ m.node = a ∧ m.outlet = ix
         let forgets := fun (a : Addr) (ix : OutIx) => ∃ y : Bay, (w.settings.bays.get y).map ≠ (b.stored.bays.get y).map
           ∧ (named a ix (b.stored.bays.get y).map ∨ named a ix (w.settings.bays.get y).map)
         ∀ a ix, (forgets a ix → (t.ctl.node a).outOutlet.get ix = none)
           ∧ (¬ forgets a ix → (t.ctl.node a).outOutlet.get ix = (s.ctl.node a).outOutlet.get ix))
      ∧ ∀ y : Bay,
        let old := (b.stored.bays.get y).map
        let new := (w.settings.bays.get y).map
        let n := s.ctl.node new.node
        let found := n.state ≠ .IGNORED ∧ n.kind = some .PEDESTAL ∧ new.outlet.val < n.outlets
        (new = old → (s.ctl.outlet y).alike (t.ctl.outlet y))
        ∧ (new ≠ old → (t.ctl.outlet y).state = (if new.valid then .OFFLINE else .UNMAPPED)
          ∧ (t.ctl.outlet y).inForce = 0 ∧ (t.ctl.outlet y).pending = none ∧ (t.ctl.outlet y).baseline = none
          ∧ (t.ctl.outlet y).beforeSilence = none ∧ (t.ctl.outlet y).faultList = []
          ∧ (t.ctl.outlet y).lifetime = (s.ctl.outlet y).lifetime
          ∧ (t.ctl.outlet y).overdraw = none ∧ (t.ctl.outlet y).startTimer = none ∧ (t.ctl.outlet y).fundingWait = none
          ∧ (t.ctl.outlet y).holdOff = none ∧ (t.ctl.outlet y).pauseMinimum = none ∧ (t.ctl.outlet y).silenceHold = none
          ∧ (new.valid = true → n.state = .ABSENT ∨ found → (t.ctl.outlet y).offlineCause = some .NOT_SEEN)
          ∧ (new.valid = true → n.state ≠ .ABSENT → ¬ found →
            (t.ctl.outlet y).offlineCause = some .MAP_MISMATCH ∧ t.ctl.raised .outletMapMismatch))

/-! ### Site port -/

/-- NOTICE_CLEAR takes the named sources' raised flags, causes and counts away, NOTICE_ENABLE enables the named sources alone, FAULTS_CLEAR
clears the named flags; each judges or keeps ATTN, answers the set after it, and changes the site port alone (R187, R189, R190, R193).
That the bits 11 to 15 of FAULTS_CLEAR name nothing and the command is answered OK is the model's choice (log 32). -/
def Obligations.NoticeAndFaultCommandsChangeTheirSet : Prop :=
  ∀ s : State, s.ctl.taking = true →
    let p := s.ctl.port
    let attnFollows := fun q : Port => q.attn = true ↔ ∃ x : Fin 8,
      (q.notices.get x).raised.isSome = true ∧ (q.notices.get x).enabled = true
    (∀ sources : Byte, ∃ q : Port, exec (.noticeClear sources) s = .next (s.put { s.ctl with port := q })
      ∧ (∀ x : Fin 8, q.notices.get x = if sources.getLsbD x.val then { p.notices.get x with raised := none } else p.notices.get x)
      ∧ attnFollows q ∧ q.faults = p.faults
      ∧ q.buffer = .READY { status := .OK, command := 0x71, body := .notices q.notices q.attn none })
    ∧ (∀ sources : Byte, ∃ q : Port, exec (.noticeEnable sources) s = .next (s.put { s.ctl with port := q })
      ∧ (∀ x : Fin 8, q.notices.get x = { p.notices.get x with enabled := sources.getLsbD x.val })
      ∧ attnFollows q ∧ q.faults = p.faults
      ∧ q.buffer = .READY { status := .OK, command := 0x72, body := .notices q.notices q.attn none })
    ∧ ∀ flags : BitVec 16, ∃ q : Port, exec (.faultsClear flags) s = .next (s.put { s.ctl with port := q })
      ∧ (∀ x : Fin 11, q.faults.get x =
        if flags.getLsbD x.val then { set := false, count := 0, time := none } else p.faults.get x)
      ∧ q.notices = p.notices ∧ q.attn = p.attn
      ∧ q.buffer = .READY { status := .OK, command := 0x74, body := .faults q.faults }

/-- A command transfer that fails a check of R182 is answered by its first failing check and reaches no owner; BAD_FRAME sets its fault
flag. A transfer of no bytes and a response transfer change nothing, and the refusal of a transfer of one byte names command 0 (R181 to
R183, R191; log 14). ISSUE and FIND_NEXT refuse a flag byte that is neither 0 nor 1 (log 32). -/
def Obligations.FailingTransfersAreRefused : Prop :=
  (∀ (s : State) (f : Nat), s.ctl.taking = true → flagOf? f = none →
    (∀ code kind till tier credit validity,
      exec (.issue code kind till tier credit validity f) s = .next (s.put (s.ctl.answer 0x10 .BAD_PARAM .none)))
    ∧ ∀ first states, exec (.findNext first states f) s = .next (s.put (s.ctl.answer 0x16 .BAD_PARAM .none)))
  ∧ (∀ (s : State) (len : Byte), s.ctl.taking = true → len ≠ 0 →
    exec (.unknownCommand [len]) s = .next (s.put { s.ctl with
      port := (s.ctl.port.answer 0 .BAD_FRAME .none).setFault .BAD_FRAME s.ctl.run.siteTime s.ctl.run.timeValid }))
  ∧ ∀ (s : State) (len code : Byte) (rest : List Byte), s.ctl.taking = true → len ≠ 0 →
    let bytes := len :: code :: rest
    let framed := bytes.length = len.toNat + 1 ∧ 2 ≤ len.toNat ∧ len.toNat ≤ 63 ∧ byteSum bytes = 0
    exec (.unknownCommand []) s = .next s ∧ (∀ more, exec (.unknownCommand (0#8 :: more)) s = .next s)
    ∧ (¬ framed → exec (.unknownCommand bytes) s = .next (s.put { s.ctl with
        port := (s.ctl.port.answer code.toNat .BAD_FRAME .none).setFault .BAD_FRAME s.ctl.run.siteTime s.ctl.run.timeValid }))
    ∧ (framed → knownCode code.toNat = false →
      exec (.unknownCommand bytes) s = .next (s.put (s.ctl.answer code.toNat .UNKNOWN_COMMAND .none)))
    ∧ (framed → knownCode code.toNat = true → (∀ i, params code.toNat rest.dropLast ≠ some (i, [])) →
      exec (.unknownCommand bytes) s = .next (s.put (s.ctl.answer code.toNat .BAD_PARAM .none)))

/-- A site port command as its transfer bytes is read back as that command, whatever its operands, by the checks of R182 (R181, R205): no
operand and no bit of one is dropped. -/
def Obligations.TransferOfACommandIsThatCommand : Prop :=
  ∀ i : Instr, i.wf = true → formed i = true → checkTransfer (transfer i) = .good i

/-! ### Time, resets and power -/

/-- SET_TIME writes the count, makes it valid, raises the TIME notice and answers the old count; the site second advances the count by one up
to its largest value, and an advance onto a multiple of 60 with valid time is a site-minute boundary for the sweep (R198, R199, R26;
log 8, log 13). -/
def Obligations.SiteTimeIsSetAndAdvances : Prop :=
  ∀ s : State,
    (s.ctl.taking = true → ∀ v, v ≤ 4294967295 → exec (.setTime v) s = .next (s.put (
      ({ s.ctl with run := { s.ctl.run with siteTime := v, timeValid := true }
                    port := s.ctl.port.raise .timeSet } : Controller).answer 0x62 .OK (.time s.ctl.run.siteTime s.ctl.run.timeValid))))
    ∧ (s.ctl.run.supplyOn = true ∨ s.ctl.run.marker = true →
      (s.ctl.run.siteTime < 4294967295 → exec .siteSecondTick s = .next (s.put { s.ctl with run := { s.ctl.run with
        siteTime := s.ctl.run.siteTime + 1
        sweepAt := if s.ctl.taking = true ∧ s.ctl.run.timeValid = true ∧ (s.ctl.run.siteTime + 1) % 60 = 0
                   then some (s.ctl.run.siteTime + 1) else s.ctl.run.sweepAt } }))
      ∧ (4294967295 ≤ s.ctl.run.siteTime → exec .siteSecondTick s = .next s))
    ∧ (s.ctl.run.supplyOn = false → s.ctl.run.marker = false → exec .siteSecondTick s = .next s)

/-- A warm reset, by the RESET command or at the release of the RESET line: sessions end with RESET, every block takes its reset values,
each line begins its qualification against the level it has, and retained memory, site time, settings and the LOCKED latch are kept. A
record that is not bound stays as it is, a bound one is unbound with its interrupted flag set, and one on the wrong side of the pass region
is moved or discarded (R201, R28, R9, R63, R86, R103, R144, R154, R165, R180, R194). The assertion of the line holds the part in reset, and
a release without power moves the line alone (log 8). -/
def Obligations.WarmResetGivesResetValues : Prop :=
  (∀ s : State, exec .resetLineAsserted s = .next (s.put { s.ctl with run := { s.ctl.run with resetHeld := true } }))
  ∧ (∀ s : State, s.ctl.run.supplyOn = false →
    exec .resetLine s = .next (s.put { s.ctl with run := { s.ctl.run with resetHeld := false } }))
  ∧ ∀ (s : State) (i : Instr) (cause : ResetCause),
    (i = .reset ∧ cause = .RESET_COMMAND ∧ s.ctl.taking = true) ∨ (i = .resetLine ∧ cause = .RESET_LINE ∧ s.ctl.run.supplyOn = true) →
    ∃ t, exec i s = .next t
      ∧ t.ctl.run = { s.ctl.run with running := false, ms := 0, cause := cause, resetHeld := false }
      ∧ (∀ b, t.ctl.outlet b
          = Outlet.resetEntry (s.ctl.bay b).map.valid (t.ctl.outlet b).summary (s.ctl.outlet b).lifetime
        ∧ ((s.ctl.outlet b).session.isSome = true → ((t.ctl.outlet b).summary.map (·.reason)) = some .RESET)
        ∧ ((s.ctl.outlet b).session = none → (t.ctl.outlet b).summary = (s.ctl.outlet b).summary))
      ∧ s.ctl.creditAfterReset t.ctl ∧ (∀ k, (t.ctl.record k).state ≠ .BOUND) ∧ t.ctl.pool = .initial ∧ t.ctl.storage = .initial ∧ t.ctl.link = .initial
      ∧ t.ctl.settings = { s.ctl.settings with working := none, commit := none }
      ∧ t.ctl.port.buffer = .EMPTY ∧ t.ctl.port.faults = s.ctl.port.faults
      ∧ (∀ x, (t.ctl.port.notices.get x).enabled = true
        ∧ (x ≠ Cause.receiptRelocated.source.ix → (t.ctl.port.notices.get x).raised = none))
      ∧ (t.ctl.port.attn = true ↔ ∃ x, (t.ctl.port.notices.get x).raised.isSome = true)
      ∧ t.ctl.outlets.siteHold = false ∧ t.ctl.outlets.window = none ∧ t.ctl.outlets.lastVoltage = none
      ∧ ∀ line, t.ctl.lines.get line = (s.ctl.lines.get line).resetEntry

/-- The main supply's fall, the backup cell's loss, and the power-on reset with retention held or lost, the settings store passing or
failing (R200, R202, R175, R29, R192). With retention held the records are kept as at a warm reset, under the settings that the store check
leaves (R28, R9); with retention lost every slot is FREE. Every outlet takes its entry of R63, the notice set is emptied but for what the
checks of the reset raise (R194), and each line begins its qualification against the level it has (R154). A failing store takes the factory
settings, their TARIFF items from a programmed fuse cell at level FUSED. That a rise of a supply that stands in range is a fall and a rise
is log 8's; that MAIN_SUPPLY_FALL carries the level of VBAK, that BACKUP_CELL_LOSS makes it bad, and that a commit in flight leaves the
store incomplete is log 27's. -/
def Obligations.PowerCutsAndPowerOnReset : Prop :=
  (∀ (s : State) (good : Bool), exec (.mainSupplyFall good) s = .next (s.put { s.ctl with
    settings := { s.ctl.settings with storeTorn := s.ctl.settings.storeTorn || s.ctl.settings.commit.isSome, commit := none }
    run := { s.ctl.run with supplyOn := false, cellGood := good, marker := s.ctl.run.marker && good } }))
  ∧ (∀ s : State, exec .backupCellLoss s = .next (s.put { s.ctl with
    run := { s.ctl.run with cellGood := false, marker := s.ctl.run.marker && s.ctl.run.supplyOn } }))
  ∧ (∀ s : State, s.ctl.run.supplyOn = true → exec .powerOn s = exec .powerOn (s.put (s.ctl.supplyFalls s.ctl.run.cellGood)))
  ∧ ∀ s : State, s.ctl.run.supplyOn = false →
    ∃ t, exec .powerOn s = .next t ∧ t.ctl.run.supplyOn = true ∧ t.ctl.run.running = false ∧ t.ctl.run.ms = 0
      ∧ t.ctl.run.cause = .POWER_ON ∧ t.ctl.run.marker = true ∧ t.ctl.run.held = s.ctl.run.marker
      ∧ t.ctl.settings = { s.ctl.settings with
          working := none, commit := none, latch := false, storeTorn := false
          stored := if s.ctl.settings.storeTorn = false then s.ctl.settings.stored
                    else match s.ctl.settings.fuseCell with
                      | some tariff => { Settings.factory with tariff := tariff, level := .FUSED }
                      | none => Settings.factory }
      ∧ t.ctl.pool = .initial ∧ t.ctl.storage = .initial ∧ t.ctl.link = .initial ∧ t.ctl.port.buffer = .EMPTY
      ∧ (∀ b, t.ctl.outlet b = Outlet.resetEntry (t.ctl.bay b).map.valid none (t.ctl.outlet b).lifetime)
      ∧ (∀ x, (t.ctl.port.notices.get x).enabled = true
        ∧ (x ≠ Cause.receiptRelocated.source.ix → x ≠ Cause.settingsLost.source.ix → (t.ctl.port.notices.get x).raised = none))
      ∧ (s.ctl.settings.storeTorn = false → (t.ctl.port.notices.get Cause.settingsLost.source.ix).raised = none)
      ∧ (t.ctl.port.attn = true ↔ ∃ x, (t.ctl.port.notices.get x).raised.isSome = true)
      ∧ t.ctl.outlets.siteHold = false ∧ t.ctl.outlets.window = none ∧ t.ctl.outlets.lastVoltage = none
      ∧ (∀ line, t.ctl.lines.get line = (s.ctl.lines.get line).resetEntry)
      ∧ (∀ k, (t.ctl.record k).state ≠ .BOUND)
      ∧ (s.ctl.settings.storeTorn = true → t.ctl.raised .settingsLost ∧ (t.ctl.port.faults.get FaultFlag.SETTINGS_LOST.ix).set = true)
      ∧ (s.ctl.run.marker = true → s.ctl.creditAfterReset t.ctl ∧ t.ctl.run.siteTime = s.ctl.run.siteTime ∧ t.ctl.run.timeValid = s.ctl.run.timeValid
        ∧ (∀ b, (t.ctl.outlet b).lifetime = (s.ctl.outlet b).lifetime)
        ∧ (s.ctl.settings.storeTorn = false → t.ctl.port.faults = s.ctl.port.faults))
      ∧ (s.ctl.run.marker = false → t.ctl.run.siteTime = 0 ∧ t.ctl.run.timeValid = false
        ∧ (∀ b, (t.ctl.outlet b).lifetime = 0) ∧ (∀ k, (t.ctl.record k).state = .FREE)
        ∧ t.ctl.port.faults.get FaultFlag.RETENTION_LOST.ix = { set := true, count := 1, time := some (0, false) }
        ∧ ∀ x, x ≠ FaultFlag.RETENTION_LOST.ix → x ≠ FaultFlag.SETTINGS_LOST.ix →
          t.ctl.port.faults.get x = { set := false, count := 0, time := none })
end

