-- ==== Sys2Proof/Laws/Table.lean ====
section
/-! SUPPORT. Lemmas about tables and the plainest arithmetic. -/

namespace Sys2Proof

@[simp] theorem Table.get_set_self {α : Type} {n : Nat} (t : Table α n) (i : Fin n) (v : α) : (t.set i v).get i = v := by
  simp [Table.get, Table.set]

theorem Table.get_set_of_ne {α : Type} {n : Nat} (t : Table α n) {i j : Fin n} (v : α) (h : i ≠ j) :
    (t.set i v).get j = t.get j := by
  simp only [Table.get, Table.set]
  exact List.getElem_set_ne (fun e => h (Fin.ext e)) _

theorem Table.get_set {α : Type} {n : Nat} (t : Table α n) (i j : Fin n) (v : α) :
    (t.set i v).get j = if i = j then v else t.get j := by
  by_cases h : i = j
  · subst h; simp
  · simp [h, t.get_set_of_ne v h]

@[simp] theorem Table.get_replicate {α : Type} {n : Nat} (v : α) (i : Fin n) : (Table.replicate n v).get i = v := by
  simp [Table.get, Table.replicate]

@[simp] theorem Table.get_map {α β : Type} {n : Nat} (f : α → β) (t : Table α n) (i : Fin n) : (t.map f).get i = f (t.get i) := by
  simp [Table.get, Table.map]

@[simp] theorem Table.get_ofFn {α : Type} {n : Nat} (f : Fin n → α) (i : Fin n) : (Table.ofFn f).get i = f i := by
  simp [Table.get, Table.ofFn]

/-- Two tables with the same entries are the same table. -/
theorem Table.ext_get {α : Type} {n : Nat} {t u : Table α n} (h : ∀ i, t.get i = u.get i) : t = u := by
  obtain ⟨a, ha⟩ := t
  obtain ⟨b, hb⟩ := u
  have : a = b := by
    apply List.ext_getElem (by rw [ha, hb])
    intro i h1 h2
    exact h ⟨i, by omega⟩
  subst this
  rfl

/-- An entry of a table is a member of its data. -/
theorem Table.get_mem {α : Type} {n : Nat} (t : Table α n) (i : Fin n) : t.get i ∈ t.data := List.getElem_mem _

/-- Every member of a table's data is an entry. -/
theorem Table.mem_data {α : Type} {n : Nat} {t : Table α n} {x : α} (h : x ∈ t.data) : ∃ i, t.get i = x := by
  obtain ⟨i, hi, hx⟩ := List.getElem_of_mem h
  exact ⟨⟨i, by rw [← t.size_eq]; exact hi⟩, hx⟩

/-- A test holds of some member exactly when it holds of some entry. -/
theorem Table.any_data {α : Type} {n : Nat} (t : Table α n) (p : α → Bool) : t.data.any p = true ↔ ∃ i, p (t.get i) = true := by
  rw [List.any_eq_true]
  constructor
  · rintro ⟨x, hx, hp⟩
    obtain ⟨i, rfl⟩ := Table.mem_data hx
    exact ⟨i, hp⟩
  · rintro ⟨i, hp⟩
    exact ⟨_, t.get_mem i, hp⟩

theorem lowestFrom_some {α : Type} (p : Nat → α → Bool) (l : List α) (s i : Nat) (h : lowestFrom p s l = some i) :
    s ≤ i ∧ ∃ hi : i - s < l.length, p i l[i - s] = true ∧ ∀ j, s ≤ j → (hj : j < i) → p j (l[j - s]'(by omega)) = false := by
  induction l generalizing s with
  | nil => simp [lowestFrom] at h
  | cons x xs ih =>
    simp only [lowestFrom] at h
    split at h
    · rename_i hp
      obtain rfl : s = i := by simpa using h
      refine ⟨le_refl _, by simp, by simpa using hp, ?_⟩
      intro j h1 h2
      omega
    · rename_i hp
      obtain ⟨h1, hi, hpi, hmin⟩ := ih (s + 1) h
      refine ⟨by omega, by simp; omega, ?_, ?_⟩
      · have : i - s = (i - (s + 1)) + 1 := by omega
        simpa [this] using hpi
      · intro j hj1 hj2
        by_cases hjs : j = s
        · subst hjs; simpa using hp
        · have h3 := hmin j (by omega) hj2
          have : j - s = (j - (s + 1)) + 1 := by omega
          simpa [this] using h3

theorem lowestFrom_none {α : Type} (p : Nat → α → Bool) (l : List α) (s : Nat) (h : lowestFrom p s l = none) :
    ∀ j (hj : j < l.length), p (s + j) l[j] = false := by
  induction l generalizing s with
  | nil => intro j hj; simp at hj
  | cons x xs ih =>
    simp only [lowestFrom] at h
    split at h
    · simp at h
    · rename_i hp
      intro j hj
      cases j with
      | zero => simpa using hp
      | succ k =>
        have := ih (s + 1) h k (by simpa using hj)
        have e : s + (k + 1) = s + 1 + k := by omega
        simpa [e] using this

/-- The lowest entry that satisfies a test: it satisfies it, and no lower entry does. -/
theorem Table.lowest_some {α : Type} {n : Nat} {p : Nat → α → Bool} {t : Table α n} {i : Fin n} (h : t.lowest p = some i) :
    p i.val (t.get i) = true ∧ ∀ j : Fin n, j < i → p j.val (t.get j) = false := by
  unfold Table.lowest at h
  split at h
  · rename_i k hk
    split at h
    · rename_i hkn
      obtain rfl : (⟨k, hkn⟩ : Fin n) = i := by simpa using h
      obtain ⟨_, _, hp, hmin⟩ := lowestFrom_some p t.data 0 k hk
      refine ⟨by simpa [Table.get] using hp, ?_⟩
      intro j hj
      have := hmin j.val (by omega) hj
      simpa [Table.get] using this
    · simp at h
  · simp at h

/-- No entry satisfies a test when none is found. -/
theorem Table.lowest_none {α : Type} {n : Nat} {p : Nat → α → Bool} {t : Table α n} (h : t.lowest p = none) (j : Fin n) :
    p j.val (t.get j) = false := by
  unfold Table.lowest at h
  split at h
  · rename_i k hk
    split at h
    · simp at h
    · rename_i hkn
      obtain ⟨_, hlt, _⟩ := lowestFrom_some p t.data 0 k hk
      exact absurd (by rw [t.size_eq] at hlt; omega) hkn
  · rename_i hn
    have := lowestFrom_none p t.data 0 hn j.val (by rw [t.size_eq]; exact j.isLt)
    simpa [Table.get] using this

end Sys2Proof
end

