-- ==== Sys2Proof/Laws/State.lean ====
section
/-! SUPPORT. Projections of the record updates that every operation is made of: one lemma per field per update, and the outcome of a command, an event and a change of the hardware. -/

namespace Sys2Proof.Machine

/-! ### Outcomes -/

@[simp] theorem onController_eq (f : Controller → Controller) (s : State) : onController f s = .next { s with ctl := f s.ctl } := rfl

@[simp] theorem event_eq (f : Controller → Controller) (s : State) : event f s = .next { s with ctl := whenTaking f s.ctl } := rfl

/-- An event of a controller that takes events. -/
theorem event_taking (f : Controller → Controller) {s : State} (h : s.ctl.taking = true) :
    event f s = .next { s with ctl := f s.ctl } := by simp [whenTaking, h]

/-- An event of a controller that takes none changes nothing. -/
theorem event_idle (f : Controller → Controller) {s : State} (h : s.ctl.taking = false) : event f s = .next s := by
  simp [whenTaking, h]

/-- A site port command: it is taken, and its owner works. -/
theorem command_taking (code : Nat) (f : Controller → Controller) {s : State} (h : s.ctl.taking = true) :
    command code f s = .next { s with ctl := f { s.ctl with port := s.ctl.port.take code } } := by
  simp [command, whenTaking, h]

/-- A site port command when the controller takes no events changes nothing. -/
theorem command_idle (code : Nat) (f : Controller → Controller) {s : State} (h : s.ctl.taking = false) :
    command code f s = .next s := by simp [command, whenTaking, h]

/-- Every outcome of a command is a next state with the same queue. -/
theorem command_next (code : Nat) (f : Controller → Controller) (s : State) :
    ∃ c, command code f s = .next { s with ctl := c } := ⟨_, rfl⟩

/-! ### updOutlet -/

@[simp] theorem updOutlet_credit (c : Controller) (x : Bay) (f : Outlet → Outlet) : (c.updOutlet x f).credit = c.credit := rfl
@[simp] theorem updOutlet_pool (c : Controller) (x : Bay) (f : Outlet → Outlet) : (c.updOutlet x f).pool = c.pool := rfl
@[simp] theorem updOutlet_storage (c : Controller) (x : Bay) (f : Outlet → Outlet) : (c.updOutlet x f).storage = c.storage := rfl
@[simp] theorem updOutlet_link (c : Controller) (x : Bay) (f : Outlet → Outlet) : (c.updOutlet x f).link = c.link := rfl
@[simp] theorem updOutlet_settings (c : Controller) (x : Bay) (f : Outlet → Outlet) : (c.updOutlet x f).settings = c.settings := rfl
@[simp] theorem updOutlet_port (c : Controller) (x : Bay) (f : Outlet → Outlet) : (c.updOutlet x f).port = c.port := rfl
@[simp] theorem updOutlet_lines (c : Controller) (x : Bay) (f : Outlet → Outlet) : (c.updOutlet x f).lines = c.lines := rfl
@[simp] theorem updOutlet_run (c : Controller) (x : Bay) (f : Outlet → Outlet) : (c.updOutlet x f).run = c.run := rfl
@[simp] theorem updOutlet_record (c : Controller) (x : Bay) (f : Outlet → Outlet) (k : SlotNo) : (c.updOutlet x f).record k = c.record k := rfl
@[simp] theorem updOutlet_node (c : Controller) (x : Bay) (f : Outlet → Outlet) (a : Addr) : (c.updOutlet x f).node a = c.node a := rfl
@[simp] theorem updOutlet_inForce (c : Controller) (x : Bay) (f : Outlet → Outlet) : (c.updOutlet x f).inForce = c.inForce := rfl
@[simp] theorem updOutlet_bay (c : Controller) (x : Bay) (f : Outlet → Outlet) (b : Bay) : (c.updOutlet x f).bay b = c.bay b := rfl

/-! ### updRecord -/

@[simp] theorem updRecord_outlets (c : Controller) (x : SlotNo) (f : Record → Record) : (c.updRecord x f).outlets = c.outlets := rfl
@[simp] theorem updRecord_pool (c : Controller) (x : SlotNo) (f : Record → Record) : (c.updRecord x f).pool = c.pool := rfl
@[simp] theorem updRecord_storage (c : Controller) (x : SlotNo) (f : Record → Record) : (c.updRecord x f).storage = c.storage := rfl
@[simp] theorem updRecord_link (c : Controller) (x : SlotNo) (f : Record → Record) : (c.updRecord x f).link = c.link := rfl
@[simp] theorem updRecord_settings (c : Controller) (x : SlotNo) (f : Record → Record) : (c.updRecord x f).settings = c.settings := rfl
@[simp] theorem updRecord_port (c : Controller) (x : SlotNo) (f : Record → Record) : (c.updRecord x f).port = c.port := rfl
@[simp] theorem updRecord_lines (c : Controller) (x : SlotNo) (f : Record → Record) : (c.updRecord x f).lines = c.lines := rfl
@[simp] theorem updRecord_run (c : Controller) (x : SlotNo) (f : Record → Record) : (c.updRecord x f).run = c.run := rfl
@[simp] theorem updRecord_outlet (c : Controller) (x : SlotNo) (f : Record → Record) (b : Bay) : (c.updRecord x f).outlet b = c.outlet b := rfl
@[simp] theorem updRecord_node (c : Controller) (x : SlotNo) (f : Record → Record) (a : Addr) : (c.updRecord x f).node a = c.node a := rfl
@[simp] theorem updRecord_inForce (c : Controller) (x : SlotNo) (f : Record → Record) : (c.updRecord x f).inForce = c.inForce := rfl
@[simp] theorem updRecord_bay (c : Controller) (x : SlotNo) (f : Record → Record) (b : Bay) : (c.updRecord x f).bay b = c.bay b := rfl

/-! ### updNode -/

@[simp] theorem updNode_credit (c : Controller) (x : Addr) (f : Node → Node) : (c.updNode x f).credit = c.credit := rfl
@[simp] theorem updNode_outlets (c : Controller) (x : Addr) (f : Node → Node) : (c.updNode x f).outlets = c.outlets := rfl
@[simp] theorem updNode_pool (c : Controller) (x : Addr) (f : Node → Node) : (c.updNode x f).pool = c.pool := rfl
@[simp] theorem updNode_storage (c : Controller) (x : Addr) (f : Node → Node) : (c.updNode x f).storage = c.storage := rfl
@[simp] theorem updNode_settings (c : Controller) (x : Addr) (f : Node → Node) : (c.updNode x f).settings = c.settings := rfl
@[simp] theorem updNode_port (c : Controller) (x : Addr) (f : Node → Node) : (c.updNode x f).port = c.port := rfl
@[simp] theorem updNode_lines (c : Controller) (x : Addr) (f : Node → Node) : (c.updNode x f).lines = c.lines := rfl
@[simp] theorem updNode_run (c : Controller) (x : Addr) (f : Node → Node) : (c.updNode x f).run = c.run := rfl
@[simp] theorem updNode_outlet (c : Controller) (x : Addr) (f : Node → Node) (b : Bay) : (c.updNode x f).outlet b = c.outlet b := rfl
@[simp] theorem updNode_record (c : Controller) (x : Addr) (f : Node → Node) (k : SlotNo) : (c.updNode x f).record k = c.record k := rfl
@[simp] theorem updNode_inForce (c : Controller) (x : Addr) (f : Node → Node) : (c.updNode x f).inForce = c.inForce := rfl
@[simp] theorem updNode_bay (c : Controller) (x : Addr) (f : Node → Node) (b : Bay) : (c.updNode x f).bay b = c.bay b := rfl

/-! ### raise -/

@[simp] theorem raise_credit (c : Controller) (x : Cause) : (c.raise x).credit = c.credit := rfl
@[simp] theorem raise_outlets (c : Controller) (x : Cause) : (c.raise x).outlets = c.outlets := rfl
@[simp] theorem raise_pool (c : Controller) (x : Cause) : (c.raise x).pool = c.pool := rfl
@[simp] theorem raise_storage (c : Controller) (x : Cause) : (c.raise x).storage = c.storage := rfl
@[simp] theorem raise_link (c : Controller) (x : Cause) : (c.raise x).link = c.link := rfl
@[simp] theorem raise_settings (c : Controller) (x : Cause) : (c.raise x).settings = c.settings := rfl
@[simp] theorem raise_lines (c : Controller) (x : Cause) : (c.raise x).lines = c.lines := rfl
@[simp] theorem raise_run (c : Controller) (x : Cause) : (c.raise x).run = c.run := rfl
@[simp] theorem raise_outlet (c : Controller) (x : Cause) (b : Bay) : (c.raise x).outlet b = c.outlet b := rfl
@[simp] theorem raise_record (c : Controller) (x : Cause) (k : SlotNo) : (c.raise x).record k = c.record k := rfl
@[simp] theorem raise_node (c : Controller) (x : Cause) (a : Addr) : (c.raise x).node a = c.node a := rfl
@[simp] theorem raise_inForce (c : Controller) (x : Cause) : (c.raise x).inForce = c.inForce := rfl
@[simp] theorem raise_bay (c : Controller) (x : Cause) (b : Bay) : (c.raise x).bay b = c.bay b := rfl

/-! ### setFault -/

@[simp] theorem setFault_credit (c : Controller) (x : FaultFlag) : (c.setFault x).credit = c.credit := rfl
@[simp] theorem setFault_outlets (c : Controller) (x : FaultFlag) : (c.setFault x).outlets = c.outlets := rfl
@[simp] theorem setFault_pool (c : Controller) (x : FaultFlag) : (c.setFault x).pool = c.pool := rfl
@[simp] theorem setFault_storage (c : Controller) (x : FaultFlag) : (c.setFault x).storage = c.storage := rfl
@[simp] theorem setFault_link (c : Controller) (x : FaultFlag) : (c.setFault x).link = c.link := rfl
@[simp] theorem setFault_settings (c : Controller) (x : FaultFlag) : (c.setFault x).settings = c.settings := rfl
@[simp] theorem setFault_lines (c : Controller) (x : FaultFlag) : (c.setFault x).lines = c.lines := rfl
@[simp] theorem setFault_run (c : Controller) (x : FaultFlag) : (c.setFault x).run = c.run := rfl
@[simp] theorem setFault_outlet (c : Controller) (x : FaultFlag) (b : Bay) : (c.setFault x).outlet b = c.outlet b := rfl
@[simp] theorem setFault_record (c : Controller) (x : FaultFlag) (k : SlotNo) : (c.setFault x).record k = c.record k := rfl
@[simp] theorem setFault_node (c : Controller) (x : FaultFlag) (a : Addr) : (c.setFault x).node a = c.node a := rfl
@[simp] theorem setFault_inForce (c : Controller) (x : FaultFlag) : (c.setFault x).inForce = c.inForce := rfl
@[simp] theorem setFault_bay (c : Controller) (x : FaultFlag) (b : Bay) : (c.setFault x).bay b = c.bay b := rfl

/-! ### answer -/

@[simp] theorem answer_credit (c : Controller) (n : Nat) (x : Status) (y : Body) : (c.answer n x y).credit = c.credit := rfl
@[simp] theorem answer_outlets (c : Controller) (n : Nat) (x : Status) (y : Body) : (c.answer n x y).outlets = c.outlets := rfl
@[simp] theorem answer_pool (c : Controller) (n : Nat) (x : Status) (y : Body) : (c.answer n x y).pool = c.pool := rfl
@[simp] theorem answer_storage (c : Controller) (n : Nat) (x : Status) (y : Body) : (c.answer n x y).storage = c.storage := rfl
@[simp] theorem answer_link (c : Controller) (n : Nat) (x : Status) (y : Body) : (c.answer n x y).link = c.link := rfl
@[simp] theorem answer_settings (c : Controller) (n : Nat) (x : Status) (y : Body) : (c.answer n x y).settings = c.settings := rfl
@[simp] theorem answer_lines (c : Controller) (n : Nat) (x : Status) (y : Body) : (c.answer n x y).lines = c.lines := rfl
@[simp] theorem answer_run (c : Controller) (n : Nat) (x : Status) (y : Body) : (c.answer n x y).run = c.run := rfl
@[simp] theorem answer_outlet (c : Controller) (n : Nat) (x : Status) (y : Body) (b : Bay) : (c.answer n x y).outlet b = c.outlet b := rfl
@[simp] theorem answer_record (c : Controller) (n : Nat) (x : Status) (y : Body) (k : SlotNo) : (c.answer n x y).record k = c.record k := rfl
@[simp] theorem answer_node (c : Controller) (n : Nat) (x : Status) (y : Body) (a : Addr) : (c.answer n x y).node a = c.node a := rfl
@[simp] theorem answer_inForce (c : Controller) (n : Nat) (x : Status) (y : Body) : (c.answer n x y).inForce = c.inForce := rfl
@[simp] theorem answer_bay (c : Controller) (n : Nat) (x : Status) (y : Body) (b : Bay) : (c.answer n x y).bay b = c.bay b := rfl

/-! ### answerLate -/

@[simp] theorem answerLate_credit (c : Controller) (n : Nat) (x : Status) (y : Body) : (c.answerLate n x y).credit = c.credit := rfl
@[simp] theorem answerLate_outlets (c : Controller) (n : Nat) (x : Status) (y : Body) : (c.answerLate n x y).outlets = c.outlets := rfl
@[simp] theorem answerLate_pool (c : Controller) (n : Nat) (x : Status) (y : Body) : (c.answerLate n x y).pool = c.pool := rfl
@[simp] theorem answerLate_storage (c : Controller) (n : Nat) (x : Status) (y : Body) : (c.answerLate n x y).storage = c.storage := rfl
@[simp] theorem answerLate_link (c : Controller) (n : Nat) (x : Status) (y : Body) : (c.answerLate n x y).link = c.link := rfl
@[simp] theorem answerLate_settings (c : Controller) (n : Nat) (x : Status) (y : Body) : (c.answerLate n x y).settings = c.settings := rfl
@[simp] theorem answerLate_lines (c : Controller) (n : Nat) (x : Status) (y : Body) : (c.answerLate n x y).lines = c.lines := rfl
@[simp] theorem answerLate_run (c : Controller) (n : Nat) (x : Status) (y : Body) : (c.answerLate n x y).run = c.run := rfl
@[simp] theorem answerLate_outlet (c : Controller) (n : Nat) (x : Status) (y : Body) (b : Bay) : (c.answerLate n x y).outlet b = c.outlet b := rfl
@[simp] theorem answerLate_record (c : Controller) (n : Nat) (x : Status) (y : Body) (k : SlotNo) : (c.answerLate n x y).record k = c.record k := rfl
@[simp] theorem answerLate_node (c : Controller) (n : Nat) (x : Status) (y : Body) (a : Addr) : (c.answerLate n x y).node a = c.node a := rfl
@[simp] theorem answerLate_inForce (c : Controller) (n : Nat) (x : Status) (y : Body) : (c.answerLate n x y).inForce = c.inForce := rfl
@[simp] theorem answerLate_bay (c : Controller) (n : Nat) (x : Status) (y : Body) (b : Bay) : (c.answerLate n x y).bay b = c.bay b := rfl

/-! ### refuse -/

@[simp] theorem refuse_credit (c : Controller) (n : Nat) (x : Status) : (c.refuse n x).credit = c.credit := rfl
@[simp] theorem refuse_outlets (c : Controller) (n : Nat) (x : Status) : (c.refuse n x).outlets = c.outlets := rfl
@[simp] theorem refuse_pool (c : Controller) (n : Nat) (x : Status) : (c.refuse n x).pool = c.pool := rfl
@[simp] theorem refuse_storage (c : Controller) (n : Nat) (x : Status) : (c.refuse n x).storage = c.storage := rfl
@[simp] theorem refuse_link (c : Controller) (n : Nat) (x : Status) : (c.refuse n x).link = c.link := rfl
@[simp] theorem refuse_settings (c : Controller) (n : Nat) (x : Status) : (c.refuse n x).settings = c.settings := rfl
@[simp] theorem refuse_lines (c : Controller) (n : Nat) (x : Status) : (c.refuse n x).lines = c.lines := rfl
@[simp] theorem refuse_run (c : Controller) (n : Nat) (x : Status) : (c.refuse n x).run = c.run := rfl
@[simp] theorem refuse_outlet (c : Controller) (n : Nat) (x : Status) (b : Bay) : (c.refuse n x).outlet b = c.outlet b := rfl
@[simp] theorem refuse_record (c : Controller) (n : Nat) (x : Status) (k : SlotNo) : (c.refuse n x).record k = c.record k := rfl
@[simp] theorem refuse_node (c : Controller) (n : Nat) (x : Status) (a : Addr) : (c.refuse n x).node a = c.node a := rfl
@[simp] theorem refuse_inForce (c : Controller) (n : Nat) (x : Status) : (c.refuse n x).inForce = c.inForce := rfl
@[simp] theorem refuse_bay (c : Controller) (n : Nat) (x : Status) (b : Bay) : (c.refuse n x).bay b = c.bay b := rfl

/-! ### ok -/

@[simp] theorem ok_credit (c : Controller) (n : Nat) (y : Body) : (c.ok n y).credit = c.credit := rfl
@[simp] theorem ok_outlets (c : Controller) (n : Nat) (y : Body) : (c.ok n y).outlets = c.outlets := rfl
@[simp] theorem ok_pool (c : Controller) (n : Nat) (y : Body) : (c.ok n y).pool = c.pool := rfl
@[simp] theorem ok_storage (c : Controller) (n : Nat) (y : Body) : (c.ok n y).storage = c.storage := rfl
@[simp] theorem ok_link (c : Controller) (n : Nat) (y : Body) : (c.ok n y).link = c.link := rfl
@[simp] theorem ok_settings (c : Controller) (n : Nat) (y : Body) : (c.ok n y).settings = c.settings := rfl
@[simp] theorem ok_lines (c : Controller) (n : Nat) (y : Body) : (c.ok n y).lines = c.lines := rfl
@[simp] theorem ok_run (c : Controller) (n : Nat) (y : Body) : (c.ok n y).run = c.run := rfl
@[simp] theorem ok_outlet (c : Controller) (n : Nat) (y : Body) (b : Bay) : (c.ok n y).outlet b = c.outlet b := rfl
@[simp] theorem ok_record (c : Controller) (n : Nat) (y : Body) (k : SlotNo) : (c.ok n y).record k = c.record k := rfl
@[simp] theorem ok_node (c : Controller) (n : Nat) (y : Body) (a : Addr) : (c.ok n y).node a = c.node a := rfl
@[simp] theorem ok_inForce (c : Controller) (n : Nat) (y : Body) : (c.ok n y).inForce = c.inForce := rfl
@[simp] theorem ok_bay (c : Controller) (n : Nat) (y : Body) (b : Bay) : (c.ok n y).bay b = c.bay b := rfl

/-! ### putQueue -/

@[simp] theorem putQueue_credit (c : Controller) (q : List QueueEntry) : (c.putQueue q).credit = c.credit := rfl
@[simp] theorem putQueue_outlets (c : Controller) (q : List QueueEntry) : (c.putQueue q).outlets = c.outlets := rfl
@[simp] theorem putQueue_storage (c : Controller) (q : List QueueEntry) : (c.putQueue q).storage = c.storage := rfl
@[simp] theorem putQueue_link (c : Controller) (q : List QueueEntry) : (c.putQueue q).link = c.link := rfl
@[simp] theorem putQueue_settings (c : Controller) (q : List QueueEntry) : (c.putQueue q).settings = c.settings := rfl
@[simp] theorem putQueue_port (c : Controller) (q : List QueueEntry) : (c.putQueue q).port = c.port := rfl
@[simp] theorem putQueue_lines (c : Controller) (q : List QueueEntry) : (c.putQueue q).lines = c.lines := rfl
@[simp] theorem putQueue_run (c : Controller) (q : List QueueEntry) : (c.putQueue q).run = c.run := rfl
@[simp] theorem putQueue_outlet (c : Controller) (q : List QueueEntry) (b : Bay) : (c.putQueue q).outlet b = c.outlet b := rfl
@[simp] theorem putQueue_record (c : Controller) (q : List QueueEntry) (k : SlotNo) : (c.putQueue q).record k = c.record k := rfl
@[simp] theorem putQueue_node (c : Controller) (q : List QueueEntry) (a : Addr) : (c.putQueue q).node a = c.node a := rfl
@[simp] theorem putQueue_inForce (c : Controller) (q : List QueueEntry) : (c.putQueue q).inForce = c.inForce := rfl
@[simp] theorem putQueue_bay (c : Controller) (q : List QueueEntry) (b : Bay) : (c.putQueue q).bay b = c.bay b := rfl

/-! ### depart -/

@[simp] theorem depart_credit (c : Controller) (x : Bay) : (c.depart x).credit = c.credit := rfl
@[simp] theorem depart_outlets (c : Controller) (x : Bay) : (c.depart x).outlets = c.outlets := rfl
@[simp] theorem depart_storage (c : Controller) (x : Bay) : (c.depart x).storage = c.storage := rfl
@[simp] theorem depart_link (c : Controller) (x : Bay) : (c.depart x).link = c.link := rfl
@[simp] theorem depart_settings (c : Controller) (x : Bay) : (c.depart x).settings = c.settings := rfl
@[simp] theorem depart_port (c : Controller) (x : Bay) : (c.depart x).port = c.port := rfl
@[simp] theorem depart_lines (c : Controller) (x : Bay) : (c.depart x).lines = c.lines := rfl
@[simp] theorem depart_run (c : Controller) (x : Bay) : (c.depart x).run = c.run := rfl
@[simp] theorem depart_outlet (c : Controller) (x : Bay) (b : Bay) : (c.depart x).outlet b = c.outlet b := rfl
@[simp] theorem depart_record (c : Controller) (x : Bay) (k : SlotNo) : (c.depart x).record k = c.record k := rfl
@[simp] theorem depart_node (c : Controller) (x : Bay) (a : Addr) : (c.depart x).node a = c.node a := rfl
@[simp] theorem depart_inForce (c : Controller) (x : Bay) : (c.depart x).inForce = c.inForce := rfl
@[simp] theorem depart_bay (c : Controller) (x : Bay) (b : Bay) : (c.depart x).bay b = c.bay b := rfl

/-! ### The entry that an update changes -/

@[simp] theorem updOutlet_outlet_self (c : Controller) (b : Bay) (f : Outlet → Outlet) :
    (c.updOutlet b f).outlet b = (c.outlet b).change f := Table.get_set_self _ _ _

theorem updOutlet_outlet (c : Controller) (b b' : Bay) (f : Outlet → Outlet) :
    (c.updOutlet b f).outlet b' = if b = b' then (c.outlet b).change f else c.outlet b' := Table.get_set _ _ _ _

@[simp] theorem updRecord_record_self (c : Controller) (k : SlotNo) (f : Record → Record) :
    (c.updRecord k f).record k = f (c.record k) := Table.get_set_self _ _ _

theorem updRecord_record (c : Controller) (k k' : SlotNo) (f : Record → Record) :
    (c.updRecord k f).record k' = if k = k' then f (c.record k) else c.record k' := Table.get_set _ _ _ _

@[simp] theorem updNode_node_self (c : Controller) (a : Addr) (f : Node → Node) :
    (c.updNode a f).node a = f (c.node a) := Table.get_set_self _ _ _

theorem updNode_node (c : Controller) (a a' : Addr) (f : Node → Node) :
    (c.updNode a f).node a' = if a = a' then f (c.node a) else c.node a' := Table.get_set _ _ _ _

@[simp] theorem putQueue_queue (c : Controller) (q : List QueueEntry) : (c.putQueue q).pool.queue = q := rfl
@[simp] theorem putQueue_computed (c : Controller) (q : List QueueEntry) : (c.putQueue q).pool.computed = c.pool.computed := rfl
@[simp] theorem depart_queue (c : Controller) (b : Bay) : (c.depart b).pool.queue = c.pool.queue := rfl
@[simp] theorem depart_computed (c : Controller) (b : Bay) : (c.depart b).pool.computed = c.pool.computed.set b 0 := rfl

/-! ### The site port -/

@[simp] theorem Port.answer_buffer (p : Port) (n : Nat) (st : Status) (y : Body) :
    (p.answer n st y).buffer = .READY { status := st, command := n, body := y } := rfl
@[simp] theorem Port.answer_notices (p : Port) (n : Nat) (st : Status) (y : Body) : (p.answer n st y).notices = p.notices := rfl
@[simp] theorem Port.answer_attn (p : Port) (n : Nat) (st : Status) (y : Body) : (p.answer n st y).attn = p.attn := rfl
@[simp] theorem Port.answer_faults (p : Port) (n : Nat) (st : Status) (y : Body) : (p.answer n st y).faults = p.faults := rfl
@[simp] theorem Port.take_buffer (p : Port) (n : Nat) : (p.take n).buffer = .PENDING n := rfl
@[simp] theorem Port.take_notices (p : Port) (n : Nat) : (p.take n).notices = p.notices := rfl
@[simp] theorem Port.take_attn (p : Port) (n : Nat) : (p.take n).attn = p.attn := rfl
@[simp] theorem Port.take_faults (p : Port) (n : Nat) : (p.take n).faults = p.faults := rfl
@[simp] theorem Port.raise_buffer (p : Port) (x : Cause) : (p.raise x).buffer = p.buffer := rfl
@[simp] theorem Port.raise_faults (p : Port) (x : Cause) : (p.raise x).faults = p.faults := rfl
@[simp] theorem Port.raise_attn (p : Port) (x : Cause) : (p.raise x).attn = attnOf (p.raise x).notices := rfl
@[simp] theorem Port.setFault_buffer (p : Port) (f : FaultFlag) (t : Nat) (v : Bool) : (p.setFault f t v).buffer = p.buffer := rfl
@[simp] theorem Port.setFault_notices (p : Port) (f : FaultFlag) (t : Nat) (v : Bool) : (p.setFault f t v).notices = p.notices := rfl
@[simp] theorem Port.setFault_attn (p : Port) (f : FaultFlag) (t : Nat) (v : Bool) : (p.setFault f t v).attn = p.attn := rfl
@[simp] theorem raise_port (c : Controller) (x : Cause) : (c.raise x).port = c.port.raise x := rfl
@[simp] theorem setFault_port (c : Controller) (f : FaultFlag) :
    (c.setFault f).port = c.port.setFault f c.run.siteTime c.run.timeValid := rfl
@[simp] theorem answer_port (c : Controller) (n : Nat) (st : Status) (y : Body) : (c.answer n st y).port = c.port.answer n st y := rfl
@[simp] theorem answerLate_port (c : Controller) (n : Nat) (st : Status) (y : Body) :
    (c.answerLate n st y).port = c.port.answerLate n st y := rfl
@[simp] theorem refuse_port (c : Controller) (n : Nat) (st : Status) : (c.refuse n st).port = c.port.answer n st .none := rfl
@[simp] theorem ok_port (c : Controller) (n : Nat) (y : Body) : (c.ok n y).port = c.port.answer n .OK y := rfl

/-- A late response leaves notices, ATTN and faults alone. -/
@[simp] theorem Port.answerLate_notices (p : Port) (n : Nat) (st : Status) (y : Body) : (p.answerLate n st y).notices = p.notices := by
  unfold Port.answerLate; split <;> rfl
@[simp] theorem Port.answerLate_attn (p : Port) (n : Nat) (st : Status) (y : Body) : (p.answerLate n st y).attn = p.attn := by
  unfold Port.answerLate; split <;> rfl
@[simp] theorem Port.answerLate_faults (p : Port) (n : Nat) (st : Status) (y : Body) : (p.answerLate n st y).faults = p.faults := by
  unfold Port.answerLate; split <;> rfl

end Sys2Proof.Machine
end

