-- ==== Sys2Proof/Laws/Link.lean ====
section
/-! SUPPORT. What an exchange that begins leaves alone (R118), what an entry to DISCOVERING, DOWN or IDLE leaves of the link, how a cycle begins (R128) and goes on after one, and what the steps of a visit can do (R130): the outlet that a step sends next, and what sending a SETPOINT leaves alone. -/

namespace Sys2Proof.Machine

/-- What the beginning of an exchange leaves alone: every block but the link controller, and the node table. -/
@[simp] theorem send_leaves (c : Controller) (f : Sent) :
    (c.send f).credit = c.credit ∧ (c.send f).outlets = c.outlets ∧ (c.send f).pool = c.pool ∧ (c.send f).storage = c.storage
      ∧ (c.send f).settings = c.settings ∧ (c.send f).port = c.port ∧ (c.send f).lines = c.lines ∧ (c.send f).run = c.run
      ∧ (c.send f).link.nodes = c.link.nodes :=
  ⟨rfl, rfl, rfl, rfl, rfl, rfl, rfl, rfl, rfl⟩

/-- An entry to DISCOVERING, DOWN or IDLE leaves nothing waiting, no window and no final cycle (R123, R145). -/
@[simp] theorem quiet_waits_for_nothing (st : LinkState) (l : Link) :
    (l.quiet st).state = st ∧ (l.quiet st).finalCycle = false ∧ (l.quiet st).stopWaiting = false ∧ (l.quiet st).restartWaiting = false
      ∧ (l.quiet st).window.phase = .NONE ∧ (l.quiet st).exchange = none :=
  ⟨rfl, rfl, rfl, rfl, rfl, rfl⟩

/-- After the last visit of STOP's final cycle the link enters IDLE (R142). -/
theorem afterVisits_final {c : Controller} (h : c.link.finalCycle = true) : c.afterVisits = c.enterIdle := by
  simp [Controller.afterVisits, h]

/-- Step 4 of a cycle clears the report-used flag of every node, and changes no node otherwise (R128). -/
@[simp] theorem startWindows_node (c : Controller) (x : Addr) : c.startWindows.node x = { c.node x with reportUsed := false } :=
  Table.get_map _ _ _

/-- A cycle begins with the POLL of the lowest known node; without a known node the all-silent count is 0, and the attach probe follows
(R128, R139). -/
theorem beginCycle_cases {c : Controller} (h : c.link.finalCycle = false) :
    (∃ x, (c.node x).known = true ∧ (∀ y, y < x → (c.node y).known = false)
      ∧ c.beginCycle = (c.updLink fun l => { l with stage := .polled, sentOutlets := [] }).send (.poll x))
    ∨ ((∀ y, (c.node y).known = false) ∧ c.beginCycle = (c.updLink fun l => { l with allSilent := 0 }).probeStep) := by
  unfold Controller.beginCycle Controller.visitFrom
  cases hl : c.link.nodes.lowest fun i n => decide (0 ≤ i) && n.known with
  | some x =>
    have hx := Table.lowest_some hl
    exact .inl ⟨x, by simpa [Controller.node] using hx.1, fun y hy => by simpa [Controller.node] using hx.2 y hy, rfl⟩
  | none =>
    have hk : ∀ y, (c.node y).known = false := fun y => by simpa [Controller.node] using Table.lowest_none hl y
    have hs : c.link.allSilentAfter = 0 := by
      have : c.link.nodes.data.any Node.known = false := by
        rw [Bool.eq_false_iff, Ne, Table.any_data]
        rintro ⟨y, hy⟩
        exact absurd ((hk y).symm.trans hy) Bool.false_ne_true
      simp [Link.allSilentAfter, this]
    refine .inr ⟨hk, ?_⟩
    simp [Controller.afterVisits, h, Controller.collapseStep, Controller.updLink, hs, Config.missLimit]

/-- With nothing waiting for its end, the cycle goes on after an exchange (R118). -/
theorem exchangeDone_goes_on (go : Controller → Controller) {c : Controller} (hs : c.link.stopWaiting = false)
    (hr : c.link.restartWaiting = false) (hp : c.link.window.phase ≠ .GRANT_PENDING) :
    c.exchangeDone go = go (c.updLink fun l => { l with exchange := none }) := by
  simp [Controller.exchangeDone, Controller.updLink, hs, hr, hp]

/-- What a SETPOINT to an outlet leaves alone: every block but the link controller. -/
@[simp] theorem sendOutlet_leaves (c : Controller) (a : Addr) (ix : OutIx) (st : Stage) :
    (c.sendOutlet a ix st).credit = c.credit ∧ (c.sendOutlet a ix st).outlets = c.outlets ∧ (c.sendOutlet a ix st).pool = c.pool
      ∧ (c.sendOutlet a ix st).storage = c.storage ∧ (c.sendOutlet a ix st).settings = c.settings
      ∧ (c.sendOutlet a ix st).port = c.port ∧ (c.sendOutlet a ix st).lines = c.lines ∧ (c.sendOutlet a ix st).run = c.run :=
  ⟨rfl, rfl, rfl, rfl, rfl, rfl, rfl, rfl⟩

/-- Step 2 of a visit sends the first of its outlets that is still owed a SETPOINT; without one, step 3 follows (R130). -/
theorem raiseStep_eq (c : Controller) (a : Addr) (l : List OutIx) :
    c.raiseStep a l = match l.dropWhile fun ix => !c.owed a ix with
      | [] => c.singleStep a
      | ix :: todo => c.sendOutlet a ix (.raises todo) := by
  induction l with
  | nil => rfl
  | cons ix l ih =>
    unfold Controller.raiseStep
    cases h : c.owed a ix <;> simp [h, ih]

/-- Step 1 of a visit sends the first of its outlets that is still owed a SETPOINT; without one, step 2 is reached (R130). -/
theorem decreaseStep_eq (c : Controller) (a : Addr) (l : List OutIx) :
    c.decreaseStep a l = match l.dropWhile fun ix => !c.owed a ix with
      | [] => c.reachRaises a
      | ix :: todo => c.sendOutlet a ix (.decreases todo) := by
  induction l with
  | nil => rfl
  | cons ix l ih =>
    unfold Controller.decreaseStep
    cases h : c.owed a ix <;> simp [h, ih]

end Sys2Proof.Machine
end

