-- ==== Sys2Proof/Laws/Ops.lean ====
section
/-! SUPPORT. What the shared operations can do: the blocks that each leaves alone, changes made to every bay, targets and their release, the admission queue, and an outlet after its session's end. -/

set_option linter.unusedTactic false
set_option linter.unreachableTactic false

namespace Sys2Proof.Machine

/-! ### Blocks that an operation leaves alone -/

/-- The blocks that `markTarget` leaves alone. -/
@[simp] theorem markTarget_leaves (c : Controller) (b : Bay) (w : Nat) :
    (c.markTarget b w).credit = c.credit ∧ (c.markTarget b w).pool = c.pool ∧ (c.markTarget b w).storage = c.storage ∧
    (c.markTarget b w).link = c.link ∧ (c.markTarget b w).settings = c.settings ∧ (c.markTarget b w).port = c.port ∧
    (c.markTarget b w).lines = c.lines ∧ (c.markTarget b w).run = c.run := by
  unfold Controller.markTarget; (try dsimp only); repeat' split
  all_goals simp

/-- The blocks that `judgeRelease` leaves alone. -/
@[simp] theorem judgeRelease_leaves (c : Controller) :
    c.judgeRelease.credit = c.credit ∧ c.judgeRelease.pool = c.pool ∧ c.judgeRelease.storage = c.storage ∧
    c.judgeRelease.link = c.link ∧ c.judgeRelease.settings = c.settings ∧ c.judgeRelease.port = c.port ∧
    c.judgeRelease.lines = c.lines ∧ c.judgeRelease.run = c.run := by
  unfold Controller.judgeRelease; (try dsimp only); repeat' split
  all_goals simp

/-- The blocks that `enter` leaves alone. -/
@[simp] theorem enter_leaves (c : Controller) (b : Bay) (st : OutletState) :
    (c.enter b st).credit = c.credit ∧ (c.enter b st).pool = c.pool ∧ (c.enter b st).storage = c.storage ∧ (c.enter b
    st).link = c.link ∧ (c.enter b st).settings = c.settings ∧ (c.enter b st).port = c.port ∧ (c.enter b st).lines = c.lines
    ∧ (c.enter b st).run = c.run := by
  unfold Controller.enter; (try dsimp only); repeat' split
  all_goals simp

/-- The blocks that `tellNode` leaves alone. -/
@[simp] theorem tellNode_leaves (c : Controller) (b : Bay) (k : NodeNoticeKind) :
    (c.tellNode b k).credit = c.credit ∧ (c.tellNode b k).outlets = c.outlets ∧ (c.tellNode b k).pool = c.pool ∧ (c.tellNode
    b k).storage = c.storage ∧ (c.tellNode b k).settings = c.settings ∧ (c.tellNode b k).port = c.port ∧ (c.tellNode b
    k).lines = c.lines ∧ (c.tellNode b k).run = c.run := by
  unfold Controller.tellNode; (try dsimp only); repeat' split
  all_goals simp

/-- Of the link, `tellNode` changes the node table alone. -/
theorem tellNode_link (c : Controller) (b : Bay) (k : NodeNoticeKind) :
    (c.tellNode b k).link = { c.link with nodes := (c.tellNode b k).link.nodes } := by
  unfold Controller.tellNode
  dsimp only
  split <;> rfl

/-- The blocks that `dropNotices` leaves alone. -/
@[simp] theorem dropNotices_leaves (c : Controller) (b : Bay) :
    (c.dropNotices b).credit = c.credit ∧ (c.dropNotices b).outlets = c.outlets ∧ (c.dropNotices b).pool = c.pool ∧
    (c.dropNotices b).storage = c.storage ∧ (c.dropNotices b).settings = c.settings ∧ (c.dropNotices b).port = c.port ∧
    (c.dropNotices b).lines = c.lines ∧ (c.dropNotices b).run = c.run := by
  unfold Controller.dropNotices; (try dsimp only); repeat' split
  all_goals simp

/-- The blocks that `enqueue` leaves alone. -/
@[simp] theorem enqueue_leaves (c : Controller) (b : Bay) :
    (c.enqueue b).credit = c.credit ∧ (c.enqueue b).outlets = c.outlets ∧ (c.enqueue b).storage = c.storage ∧ (c.enqueue
    b).link = c.link ∧ (c.enqueue b).settings = c.settings ∧ (c.enqueue b).port = c.port ∧ (c.enqueue b).lines = c.lines ∧
    (c.enqueue b).run = c.run := by
  unfold Controller.enqueue; (try dsimp only); repeat' split
  all_goals simp

/-- The blocks that `withdraw` leaves alone. -/
@[simp] theorem withdraw_leaves (c : Controller) (b : Bay) :
    (c.withdraw b).credit = c.credit ∧ (c.withdraw b).outlets = c.outlets ∧ (c.withdraw b).storage = c.storage ∧ (c.withdraw
    b).link = c.link ∧ (c.withdraw b).settings = c.settings ∧ (c.withdraw b).port = c.port ∧ (c.withdraw b).lines = c.lines
    ∧ (c.withdraw b).run = c.run := by
  unfold Controller.withdraw; (try dsimp only); repeat' split
  all_goals simp

/-- The blocks that `dequeue` leaves alone. -/
@[simp] theorem dequeue_leaves (c : Controller) (b : Bay) :
    (c.dequeue b).credit = c.credit ∧ (c.dequeue b).outlets = c.outlets ∧ (c.dequeue b).storage = c.storage ∧ (c.dequeue
    b).link = c.link ∧ (c.dequeue b).settings = c.settings ∧ (c.dequeue b).port = c.port ∧ (c.dequeue b).lines = c.lines ∧
    (c.dequeue b).run = c.run := by
  unfold Controller.dequeue; (try dsimp only); repeat' split
  all_goals simp

/-- The blocks that `unbind` leaves alone. -/
@[simp] theorem unbind_leaves (c : Controller) (k : SlotNo) (r : Bool) (x : Cause) :
    (c.unbind k r x).pool = c.pool ∧ (c.unbind k r x).storage = c.storage ∧ (c.unbind k r x).link = c.link ∧ (c.unbind k r
    x).settings = c.settings ∧ (c.unbind k r x).lines = c.lines ∧ (c.unbind k r x).run = c.run := by
  unfold Controller.unbind; (try dsimp only); repeat' split
  all_goals simp

/-- The blocks that `addReason` leaves alone. -/
@[simp] theorem addReason_leaves (c : Controller) (b : Bay) (r : PauseReason) :
    (c.addReason b r).credit = c.credit ∧ (c.addReason b r).storage = c.storage ∧ (c.addReason b r).link = c.link ∧
    (c.addReason b r).settings = c.settings ∧ (c.addReason b r).port = c.port ∧ (c.addReason b r).lines = c.lines ∧
    (c.addReason b r).run = c.run := by
  unfold Controller.addReason; (try dsimp only); repeat' split
  all_goals simp

/-- The blocks that `removeReason` leaves alone. -/
@[simp] theorem removeReason_leaves (c : Controller) (b : Bay) (r : PauseReason) :
    (c.removeReason b r).credit = c.credit ∧ (c.removeReason b r).storage = c.storage ∧ (c.removeReason b r).link = c.link ∧
    (c.removeReason b r).settings = c.settings ∧ (c.removeReason b r).port = c.port ∧ (c.removeReason b r).lines = c.lines ∧
    (c.removeReason b r).run = c.run := by
  unfold Controller.removeReason; (try dsimp only); repeat' split
  all_goals simp

/-- The blocks that `endSession` leaves alone. -/
@[simp] theorem endSession_leaves (c : Controller) (b : Bay) (r : EndReason) (st : OutletState) :
    (c.endSession b r st).storage = c.storage ∧ (c.endSession b r st).settings = c.settings ∧ (c.endSession b r st).lines =
    c.lines ∧ (c.endSession b r st).run = c.run := by
  unfold Controller.endSession; (try dsimp only); repeat' split
  all_goals simp

/-- The blocks that `openSession` leaves alone. -/
@[simp] theorem openSession_leaves (c : Controller) (b : Bay) (k : FundingKind) (sl : Option SlotNo) (cap : Nat) :
    (c.openSession b k sl cap).credit = c.credit ∧ (c.openSession b k sl cap).storage = c.storage ∧ (c.openSession b k sl
    cap).settings = c.settings ∧ (c.openSession b k sl cap).port = c.port ∧ (c.openSession b k sl cap).lines = c.lines ∧
    (c.openSession b k sl cap).run = c.run := by
  unfold Controller.openSession; (try dsimp only); repeat' split
  all_goals simp

/-- The blocks that `withdrawFunding` leaves alone. -/
@[simp] theorem withdrawFunding_leaves (c : Controller) (b : Bay) :
    (c.withdrawFunding b).storage = c.storage ∧ (c.withdrawFunding b).settings = c.settings ∧ (c.withdrawFunding b).lines =
    c.lines ∧ (c.withdrawFunding b).run = c.run := by
  unfold Controller.withdrawFunding; (try dsimp only); repeat' split
  all_goals simp

/-- The blocks that `fault` leaves alone. -/
@[simp] theorem fault_leaves (c : Controller) (b : Bay) (x : FaultCause) :
    (c.fault b x).storage = c.storage ∧ (c.fault b x).settings = c.settings ∧ (c.fault b x).lines = c.lines ∧ (c.fault b
    x).run = c.run := by
  unfold Controller.fault; (try dsimp only); repeat' split
  all_goals simp

/-! ### A change made to every bay -/

/-- What every bay's change keeps, the change of all of them keeps. -/
theorem forBays_keeps {f : Bay → Controller → Controller} (P : Controller → Prop) (h : ∀ b c, P c → P (f b c)) {c : Controller} (hc : P c) :
    P (forBays f c) := by
  unfold forBays
  generalize List.finRange 24 = l
  induction l generalizing c with
  | nil => exact hc
  | cons b l ih => exact ih (h b c hc)

/-! ### Targets and their release -/

/-- A new target reaches the outlet it is for, unless that is OFFLINE or UNMAPPED, and no other (R53). -/
theorem markTarget_outlet (c : Controller) (b x : Bay) (w : Nat) :
    (c.markTarget b w).outlet x =
      if b = x ∧ ¬ ((c.outlet b).state = .OFFLINE ∨ (c.outlet b).state = .UNMAPPED) then (c.outlet b).change (Outlet.mark w)
      else c.outlet x := by
  unfold Controller.markTarget
  by_cases h : (c.outlet b).state = .OFFLINE ∨ (c.outlet b).state = .UNMAPPED
  · simp [h]
  · rw [if_neg h, updOutlet_outlet]; simp [h]

/-- A release changes the raise released flag at most. -/
theorem releaseRaise_eq (o : Outlet) : ∃ v, o.releaseRaise = { o with raiseReleased := v } := by
  unfold Outlet.releaseRaise; split
  · exact ⟨true, rfl⟩
  · exact ⟨o.raiseReleased, rfl⟩

/-- The judging of the release: every outlet's pending RAISE is released, or, while an outlet holds a pending DECREASE, none (R54). -/
theorem judgeRelease_outlet (c : Controller) (x : Bay) :
    c.judgeRelease.outlet x =
      if c.outlets.entries.data.any Outlet.decreasing = true then c.outlet x else (c.outlet x).releaseRaise := by
  unfold Controller.judgeRelease; split
  · rfl
  · exact Table.get_map _ _ _

/-- The judging of the release changes an outlet's raise released flag at most. -/
theorem judgeRelease_outlet_eq (c : Controller) (x : Bay) :
    ∃ v, c.judgeRelease.outlet x = { c.outlet x with raiseReleased := v } := by
  rw [judgeRelease_outlet]; split
  · exact ⟨(c.outlet x).raiseReleased, rfl⟩
  · exact releaseRaise_eq _

/-! ### The admission queue -/

/-- A removal leaves no entry of the bay and every other entry in its place (R76). -/
theorem mem_dequeue (c : Controller) (b : Bay) (e : QueueEntry) :
    e ∈ (c.dequeue b).pool.queue ↔ e ∈ c.pool.queue ∧ e.bay ≠ b := by
  simp [Controller.dequeue]

/-! ### The end of a session -/

/-- An outlet without a session is left as it is. -/
theorem endSession_none {c : Controller} {b : Bay} (h : (c.outlet b).session = none) (r : EndReason) (st : OutletState) :
    c.endSession b r st = c := by
  unfold Controller.endSession; rw [h]

/-- An unbind changes at most the session of an outlet, and there the bound slot alone. -/
theorem unbind_outlet (c : Controller) (k : SlotNo) (r : Bool) (x : Cause) (b : Bay) :
    (c.unbind k r x).outlet b = c.outlet b
      ∨ (c.unbind k r x).outlet b = (c.outlet b).change fun o => { o with session := o.session.map (Session.dropSlot k) } := by
  unfold Controller.unbind
  split
  · cases hb : (c.record k).boundBay with
    | none => left; simp
    | some b' =>
      by_cases e : b' = b
      · right; subst e; simp
      · left; simp [updOutlet_outlet, e]
  · left; rfl

/-- The end of a session leaves its outlet without a session, with no reason set, and with none of the timers that R39 clears; its state
is the one the end reason gives, taken as the state before silence when OFFLINE (R39, R40). -/
theorem endSession_outlet {c : Controller} {b : Bay} (h : (c.outlet b).session.isSome = true) (r : EndReason) (st : OutletState) :
    let o := (c.endSession b r st).outlet b
    o.session = none ∧ o.reasons = .empty ∧ o.startTimer = none ∧ o.fundingWait = none ∧ o.pauseMinimum = none ∧ o.silenceHold = none
      ∧ o.unattributed = 0 ∧ o.state = ((c.outlet b).put st).state ∧ o.beforeSilence = ((c.outlet b).put st).beforeSilence := by
  obtain ⟨ss, hs⟩ := Option.isSome_iff_exists.mp h
  intro o
  have key : ∀ c3 : Controller, ((c3.outlet b).session = none ∧ (c3.outlet b).reasons = .empty ∧ (c3.outlet b).startTimer = none
      ∧ (c3.outlet b).fundingWait = none ∧ (c3.outlet b).pauseMinimum = none ∧ (c3.outlet b).silenceHold = none
      ∧ (c3.outlet b).unattributed = 0 ∧ (c3.outlet b).state = ((c.outlet b).put st).state
      ∧ (c3.outlet b).beforeSilence = ((c.outlet b).put st).beforeSilence) →
      ∀ u : Bool, let d := ((if u then (((c3.dequeue b).depart b).markTarget b 0)
          else (((c3.dequeue b).depart b).markTarget b 0).tellNode b .SESSION_ENDED).raise .outletSessionEnd).judgeRelease
        (d.outlet b).session = none ∧ (d.outlet b).reasons = .empty ∧ (d.outlet b).startTimer = none
        ∧ (d.outlet b).fundingWait = none ∧ (d.outlet b).pauseMinimum = none ∧ (d.outlet b).silenceHold = none
        ∧ (d.outlet b).unattributed = 0 ∧ (d.outlet b).state = ((c.outlet b).put st).state
        ∧ (d.outlet b).beforeSilence = ((c.outlet b).put st).beforeSilence := by
    intro c3 h3 u d
    have hm : ∃ p v w, (((c3.dequeue b).depart b).markTarget b 0).outlet b
        = { c3.outlet b with pending := p, raiseReleased := v, changed := w } := by
      rw [markTarget_outlet]; split
      · exact ⟨_, _, _, rfl⟩
      · exact ⟨_, _, _, rfl⟩
    obtain ⟨p, v, w, hm⟩ := hm
    have ht : ∀ x : Controller, (x.tellNode b .SESSION_ENDED).outlet b = x.outlet b := fun x => by
      show (x.tellNode b .SESSION_ENDED).outlets.entries.get b = _
      rw [(tellNode_leaves x b .SESSION_ENDED).2.1]; rfl
    obtain ⟨y, hy⟩ := judgeRelease_outlet_eq ((if u then (((c3.dequeue b).depart b).markTarget b 0)
          else (((c3.dequeue b).depart b).markTarget b 0).tellNode b .SESSION_ENDED).raise .outletSessionEnd) b
    have hd : d.outlet b = { c3.outlet b with pending := p, raiseReleased := y, changed := w } := by
      show Controller.outlet (Controller.judgeRelease _) b = _
      rw [hy, raise_outlet]
      cases u
      · simp only [Bool.false_eq_true, if_false, ht, hm]
      · simp only [if_true, hm]
    rw [hd]; exact h3
  have conc : ∀ c2 : Controller, (∃ s' v, c2.outlet b = { c.outlet b with session := s', unattributed := 0, changed := v }) →
      let c3 := c2.updOutlet b (Outlet.conclude r c.run.siteTime st)
      (c3.outlet b).session = none ∧ (c3.outlet b).reasons = .empty ∧ (c3.outlet b).startTimer = none
      ∧ (c3.outlet b).fundingWait = none ∧ (c3.outlet b).pauseMinimum = none ∧ (c3.outlet b).silenceHold = none
      ∧ (c3.outlet b).unattributed = 0 ∧ (c3.outlet b).state = ((c.outlet b).put st).state
      ∧ (c3.outlet b).beforeSilence = ((c.outlet b).put st).beforeSilence := by
    rintro c2 ⟨s', v, h2⟩ c3
    have : c3.outlet b = (c2.outlet b).change (Outlet.conclude r c.run.siteTime st) := updOutlet_outlet_self _ _ _
    rw [this, h2]
    refine ⟨rfl, rfl, rfl, rfl, rfl, rfl, ?_, ?_, ?_⟩ <;>
      (unfold Outlet.change Outlet.conclude Outlet.put; dsimp only; split <;> rfl)
  have h1 : ∃ s' v, (c.updOutlet b Outlet.closeTail).outlet b = { c.outlet b with session := s', unattributed := 0, changed := v } := by
    rw [updOutlet_outlet_self]; exact ⟨_, _, rfl⟩
  subst o
  unfold Controller.endSession
  rw [hs]
  dsimp only
  cases ss.boundSlot with
  | none => exact key _ (conc _ h1) r.untold
  | some k =>
    refine key _ (conc _ ?_) r.untold
    rcases unbind_outlet (c.updOutlet b Outlet.closeTail) k (r == EndReason.RESET) .receiptUnbind b with e | e
    · rw [e]; exact h1
    · rw [e]; obtain ⟨s', v, h1⟩ := h1; rw [h1]; exact ⟨_, _, rfl⟩

end Sys2Proof.Machine
end

