-- ==== Sys2Proof/Tests/Slice0.lean ====
section
/-! SUPPORT. Tests: ill-formed commands are refused by the well-formedness check, small facts of each family, and for every obligation with hypotheses a concrete state and operands that meet them, clause by clause. -/

namespace Sys2Proof.Tests

open Sys2Proof Sys2Proof.Machine

set_option Elab.async false

/-! ### Ill-formed commands -/

theorem test_wf_code_of_nine_bytes : (Instr.void (2 ^ 64)).wf = false := by decide
theorem test_wf_issue_till_of_two_bytes : (Instr.issue 1 0 256 0 1 1 0).wf = false := by decide
theorem test_wf_amend_expiry_of_five_bytes : (Instr.amend 1 0 (some (2 ^ 32)) none).wf = false := by decide
theorem test_wf_slot_of_three_bytes : (Instr.readSlot 65536).wf = false ∧ (Instr.retire (.slot 65536)).wf = false := by decide
theorem test_wf_retire_code : (Instr.retire (.code (2 ^ 64))).wf = false := by decide
theorem test_wf_find_next_flag : (Instr.findNext 0 1#8 256).wf = false := by decide
theorem test_wf_bay_of_two_bytes : (Instr.outletRead 256).wf = false ∧ (Instr.outletStop 256).wf = false := by decide
theorem test_wf_cap_of_five_bytes : (Instr.outletServiceStart 1 (2 ^ 32)).wf = false := by decide
theorem test_wf_address_of_two_bytes : (Instr.nodeRead 256).wf = false := by decide
theorem test_wf_payload_of_sixty_bytes : (Instr.linkFrame 1 (List.replicate 60 0#8)).wf = false := by decide
theorem test_wf_setting_index : (Instr.settingWrite 0 0 (some 256) (.num 0)).wf = false := by decide
theorem test_wf_setting_value : (Instr.settingWrite 0 0 (some 1) (.num (2 ^ 48))).wf = false := by decide
theorem test_wf_setting_map : (Instr.settingWrite 1 0 (some 1) (.map 1 256 1 1)).wf = false := by decide
theorem test_wf_setting_window : (Instr.settingWrite 0 13 (some 1) (.window (some (65536, 0, 0)))).wf = false := by decide
theorem test_wf_setting_read_group : (Instr.settingRead 256 0 none).wf = false := by decide
theorem test_wf_lock_level : (Instr.lockSet 256).wf = false := by decide
theorem test_wf_time_of_five_bytes : (Instr.setTime (2 ^ 32)).wf = false := by decide
theorem test_wf_status_without_entries : (Instr.status 0 (.pedestal [])).wf = false := by decide
theorem test_wf_status_entry : (Instr.status 0 (.pedestal [⟨true, 2 ^ 31, 0, 0, false, false, 0⟩])).wf = false := by decide
theorem test_wf_status_cap : (Instr.status 0 (.canopy 0 (.watts (-1)))).wf = false := by decide
theorem test_wf_status_battery : (Instr.status 0 (.battery ⟨0, 2 ^ 32, 0, 0, 0, false, false, 0⟩)).wf = false := by decide
theorem test_wf_status_voltage : (Instr.status 0 (.supplyMeter 0 65536)).wf = false := by decide
theorem test_wf_set_ack_outlet : (Instr.setAck 0 (.outlet 256 0)).wf = false := by decide
theorem test_wf_set_ack_power : (Instr.setAck 0 (.battery (-(2 ^ 31) - 1))).wf = false := by decide
theorem test_wf_ident_serial : (Instr.ident 0 0 1 0 (2 ^ 48)).wf = false := by decide
theorem test_wf_report : (Instr.present 0 256 1).wf = false ∧ (Instr.paidAuth 0 1 (2 ^ 32)).wf = false
    ∧ (Instr.customerStop 0 256).wf = false := by decide
theorem test_wf_formed_setting : formed (.settingWrite 0 0 none (.num 5)) = false ∧ formed (.settingRead 9 0 none) = false
    ∧ formed .powerOn = false := by decide +kernel

/-! ### States for the tests -/

/-- A bay's settings: mapped to an outlet of node 1. -/
def bayOf (ix : OutIx) (paid : Bool) : BaySettings :=
  { BaySettings.factory with map := { valid := true, node := 0, outlet := ix, managed := true }, paidContinuation := paid }

/-- Settings with bays 1 and 2 at the outlets of node 1, bay 2 with paid continuation. -/
def mapped : Settings := { Settings.factory with bays := (Settings.factory.bays.set 0 (bayOf 0 false)).set 1 (bayOf 1 true) }

/-- A plugged entry. -/
def entry : OutletReading :=
  { plugged := true, request := 7000, measured := 0, meter := 0, vehicleDone := false, customerPause := false, moduleFault := 0 }

/-- A battery's reading. -/
def batteryNow : BatteryReading :=
  { power := 0, energy := 40000, capacity := 50000, chargeLimit := 30000, dischargeLimit := 30000, full := false, empty := false
    faultCode := 0 }

/-- A node that is PRESENT with a reading. -/
def nodeOf (kind count : Nat) (body : StatusBody) : Node :=
  { Node.absent with
    state := .PRESENT, identity := some { kindCode := kind, outletCount := count, rating := 22000, serial := kind }
    readings := some { body := body, time := 0, stamp := 0 } }

/-- Nodes 1 to 4: a pedestal with two outlets, a canopy, a battery, a supply meter. -/
def siteNodes : Table Node 30 :=
  ((((Table.replicate 30 Node.absent).set 0 (nodeOf 0 2 (.pedestal [entry, entry]))).set 1 (nodeOf 1 0 (.canopy 0 .uncapped))).set 2
    (nodeOf 2 0 (.battery batteryNow))).set 3 (nodeOf 3 0 (.supplyMeter 1000 2300))

/-- A running site: bays 1 and 2 PLUGGED, time valid, nothing in progress. -/
def site : State :=
  State.reset.put
    { State.reset.ctl with
      outlets := { State.reset.ctl.outlets with
        entries := (State.reset.ctl.outlets.entries.set 0 { Outlet.blank with state := .PLUGGED }).set 1 { Outlet.blank with state := .PLUGGED } }
      pool := { Pool.initial with roundTimer := some 0 }
      link := { Link.initial with state := .RUNNING, nodes := siteNodes }
      settings := { State.reset.ctl.settings with stored := mapped }
      run := { State.reset.ctl.run with running := true, siteTime := 600, timeValid := true } }

def withCtl (f : Controller → Controller) (s : State) : State := s.put (f s.ctl)
def withLink (f : Link → Link) (s : State) : State := s.put { s.ctl with link := f s.ctl.link }
def withRun (f : RunControl → RunControl) (s : State) : State := s.put { s.ctl with run := f s.ctl.run }
def withLines (f : Lines → Lines) (s : State) : State := s.put { s.ctl with lines := f s.ctl.lines }
def withSettings (f : SettingsBlock → SettingsBlock) (s : State) : State := s.put { s.ctl with settings := f s.ctl.settings }
def withPool (f : Pool → Pool) (s : State) : State := s.put { s.ctl with pool := f s.ctl.pool }
def withOutlet (b : Bay) (f : Outlet → Outlet) (s : State) : State :=
  s.put { s.ctl with outlets := { s.ctl.outlets with entries := s.ctl.outlets.entries.set b (f (s.ctl.outlet b)) } }
def withRecord (k : SlotNo) (r : Record) (s : State) : State := s.put { s.ctl with credit := { slots := s.ctl.credit.slots.set k r } }
def withNode (a : Addr) (f : Node → Node) (s : State) : State :=
  withLink (fun l => { l with nodes := l.nodes.set a (f (l.nodes.get a)) }) s

/-- A frame has been sent, and its reply is awaited. -/
def awaiting (x : Sent) (s : State) : State := withLink (fun l => { l with exchange := some { sent := x, tReply := 25, waiting := some 3 } }) s

/-- A record of 100 credit units, in a state. -/
def recordIn (st : RecordState) : Record := { Record.issued 77 0 2 100 0 6000 .RECEIPT false with state := st }

/-- The record bound to a bay. -/
def boundTo (b : Bay) : Record := { recordIn .BOUND with boundBay := some b, bindingEnergy := some 0 }

/-- A site with a bay in a session state, its CREDIT session bound to slot 0. -/
def inSession (b : Bay) (st : OutletState) : State :=
  withRecord 0 (boundTo b) (withOutlet b (fun o => { o with state := st, session := some (Session.opened .CREDIT (some 0) 0 600) }) site)

/-- What a command or event leaves. -/
def after (i : Instr) (s : State) : State :=
  match exec i s with
  | .next t => t
  | _ => s

/-- What a run of them leaves. -/
def afterAll (is : List Instr) (s : State) : State := is.foldl (fun s i => after i s) s

/-- In setup, with a working copy of the settings of the site. -/
def inSetup : State := withSettings (fun b => { b with working := some { settings := mapped, siteNumber := none, serial := none } }) site

/-- A pass-through window is held. -/
def inWindow : State :=
  withLink (fun l => { l with state := .PASS_THROUGH, window := { l.window with phase := .HELD, timer := some 5000 } }) site

/-- A raw exchange with node 1. -/
def rawExchange : RawExchange := { address := 0, bytes := [1#8, 0#8], tReply := 25, waiting := some 3 }

/-- Power is off. -/
def unpowered : State := withRun (fun r => { r with supplyOn := false }) site

/-- A draw for bay 1. -/
def drawFor (slot : Option SlotNo) (d : Nat) : Draw := { bay := 0, slot := slot, p := 1, b := 2, g := 3, d := d }

/-! ### The families -/

/-- The example of LOOKUP's frame (R205): the check byte is 0x4B. -/
theorem test_lookup_frame_of_the_manual : transfer (.lookup 7341002118) =
    [0x0A#8, 0x14#8, 0x00#8, 0x00#8, 0x00#8, 0x01#8, 0xB5#8, 0x8E#8, 0xCD#8, 0x86#8, 0x4B#8]
    ∧ checkTransfer (transfer (.lookup 7341002118)) = .good (.lookup 7341002118) := by decide +kernel

/-- The check value of the cyclic code (R206) for the digits 1 to 9. -/
theorem test_link_check_of_digits :
    crc [0x31#8, 0x32#8, 0x33#8, 0x34#8, 0x35#8, 0x36#8, 0x37#8, 0x38#8, 0x39#8] = 0x29B1#16 := by decide +kernel

theorem test_issue_takes_slot_zero :
    ((afterAll [.setTime 600, .issue 77 0 3 2 100 90 0] State.reset).ctl.record 0).state = .LIVE
      ∧ ((afterAll [.setTime 600, .issue 77 0 3 2 100 90 0] State.reset).ctl.record 0).expiryTime = 6000 := by decide +kernel

theorem test_amend_clamps : ((after (.amend 77 2000000 none none) (withRecord 0 (recordIn .LIVE) site)).ctl.record 0).granted = 2000000 := by
  decide +kernel

theorem test_void_then_retire_frees :
    ((afterAll [.void 77, .retire (.slot 0)] (withRecord 0 (recordIn .LIVE) site)).ctl.record 0) = .free := by decide +kernel

theorem test_sweep_lapses :
    ((after .expirySweep (withRun (fun r => { r with sweepAt := some 6000 }) (withRecord 0 (recordIn .LIVE) site))).ctl.record 0).state
      = .LAPSED := by decide +kernel

theorem test_present_binds_and_queues :
    let t := after (.present 0 1 77) (awaiting .window (withRecord 0 (recordIn .LIVE) site))
    (t.ctl.record 0).state = .BOUND ∧ (t.ctl.outlet 0).state = .QUEUED ∧ t.ctl.pool.queue.length = 1
      ∧ (t.ctl.link.exchange.map (·.sent)) = some (.answer 0 1 .ACCEPTED 2 100) := by decide +kernel

theorem test_round_admits_and_marks :
    let t := after .allocationRound (withPool (fun p => { p with queue := [{ bay := 0, priority := 14, active := true }] })
      (withSettings (fun b => { b with stored := { b.stored with banks := Table.replicate 8 30000 } }) (inSession 0 .QUEUED)))
    (t.ctl.outlet 0).state = .STARTING ∧ t.ctl.pool.computed.get 0 = 7000
      ∧ (t.ctl.outlet 0).pending = some { kind := .RAISE, target := 7000 } ∧ (t.ctl.outlet 0).raiseReleased = true := by decide +kernel

theorem test_setup_commits_a_map :
    let t := afterAll [.setupBegin, .settingWrite 1 0 (some 3) (.map 1 2 1 1), .setupEnd, .commitComplete] State.reset
    (t.ctl.outlet 2).state = .OFFLINE ∧ t.ctl.settings.working = none ∧ t.ctl.settings.commit = none := by decide +kernel

theorem test_start_asks_address_one :
    ((after .start State.reset).ctl.link.exchange.map (·.sent)) = some (.identReq 0) := by decide +kernel

theorem test_stop_all_ends_sessions :
    let t := afterAll [.lineChange .stopAll true, .stopAsserted] (inSession 0 .CHARGING)
    (t.ctl.outlet 0).session = none ∧ (t.ctl.record 0).state = .LIVE := by decide +kernel

theorem test_idle_queues_the_commit :
    (match step (withSettings (fun b => { b with commit := some 1 }) inSetup) with
      | .next t => t.pending
      | _ => []) = [.allocationRound, .commitComplete] := by decide +kernel

theorem test_rows_have_no_words : decodeTableWord 8 0x10 = none ∧ State.reset.withFetchWord 8 0x10 = State.reset := by decide +kernel

/-- A raise that is released only after its step was reached waits; an outlet of the step is sent what is pending at its turn, of either
kind (R130). -/
theorem test_step_of_a_visit_is_fixed_when_reached :
    let s := withLink (fun l => { l with stage := .raises [1] }) (withOutlet 0 (fun o => { (o.mark 5) with raiseReleased := true })
      (withOutlet 1 (fun o => Outlet.mark 9 { o with inForce := 7000 }) (awaiting (.setOutlet 0 2 5) site)))
    let t := after .setAckTimeout s
    (s.ctl.stepOutlets 0 .RAISE = [0]) ∧ (t.ctl.link.exchange.map (·.sent)) = some (.setOutlet 0 1 9)
      ∧ (t.ctl.link.stage = .raises []) := by decide +kernel

/-- An age of 2^32 ms and more is sent as the largest below the mark of absence. -/
theorem test_long_age : optWord (some (2 ^ 32)) = [0xFF#8, 0xFF#8, 0xFF#8, 0xFE#8] ∧ optWord none = [0xFF#8, 0xFF#8, 0xFF#8, 0xFF#8]
    ∧ optWord (some 1150) = [0x00#8, 0x00#8, 0x04#8, 0x7E#8] := by decide

/-! ### Every obligation's hypotheses are met: steps, reads, credit table -/

theorem test_meets_EveryCommandAnswersNextState : wireOrPower .poolRead = false ∧ unpowered.ctl.run.supplyOn = false
    ∧ (after .resetLineAsserted site).ctl.run.resetHeld = true := by decide +kernel

theorem test_meets_EmptyQueuePassesOneMillisecond : site.pending = [] ∧ site.ctl.taking = true ∧ unpowered.pending = []
    ∧ unpowered.ctl.taking = false ∧ unpowered.ctl.run.marker = true ∧ (after (.mainSupplyFall false) site).ctl.run.marker = false
    ∧ (after (.mainSupplyFall false) site).ctl.run.supplyOn = false
    ∧ 1000 ≤ (withRun (fun r => { r with subSecond := 999 }) site).ctl.run.subSecond + 1 := by decide +kernel

theorem test_meets_ReadCommandsAnswerAndChangeNothingElse : site.ctl.taking = true ∧ itemOf 0 0 (some 7) = some (.bank 7)
    ∧ itemOf 0 0 (some 8) = none := by decide +kernel

theorem test_meets_SlotsAndCodesAreFound :
    State.reset.ctl.placement .RECEIPT = some 0 ∧ State.reset.ctl.placement .PASS = none
      ∧ (withRecord 0 (recordIn .LIVE) site).ctl.placement .RECEIPT = some 1
      ∧ (withRecord 5 (recordIn .LIVE) site).ctl.credit.findCode 77 = some 5 ∧ site.ctl.credit.findCode 77 = none := by decide +kernel

theorem test_meets_IssueMakesALiveRecord : site.ctl.taking = true ∧ flagOf? 1 = some true ∧ recordKindOf? 2 = none
    ∧ recordKindOf? 0 = some .RECEIPT ∧ recordKindOf? 1 = some .PASS ∧ State.reset.ctl.run.timeValid = false
    ∧ site.ctl.run.timeValid = true ∧ 4294967295 < (withRun (fun r => { r with siteTime := 4294967295 }) site).ctl.run.siteTime + 1 * 60
    ∧ site.ctl.run.siteTime + 525600 * 60 ≤ 4294967295
    ∧ (withRecord 0 (recordIn .LIVE) site).ctl.credit.findCode 77 = some 0 ∧ site.ctl.credit.findCode 77 = none
    ∧ site.ctl.placement .PASS = none ∧ site.ctl.placement .RECEIPT = some 0 := by decide +kernel

theorem test_meets_AmendAddsCreditAndState :
    (∀ st ∈ [RecordState.LIVE, .BOUND, .LAPSED, .SPENT, .VOIDED],
      (withRecord 0 (recordIn st) site).ctl.credit.findCode 77 = some 0 ∧ ((withRecord 0 (recordIn st) site).ctl.record 0).state = st)
    ∧ site.ctl.taking = true ∧ site.ctl.run.timeValid = true ∧ site.ctl.run.siteTime < 601 ∧ 600 ≤ site.ctl.run.siteTime
    ∧ (withRecord 0 (recordIn .LIVE) State.reset).ctl.run.timeValid = false ∧ site.ctl.credit.findCode 77 = none
    ∧ min 5 (2000000 - (recordIn .SPENT).granted) = 5 := by decide +kernel

theorem test_meets_VoidCancelsAndRetireFreesTheSlot : site.ctl.taking = true ∧ site.ctl.credit.findCode 77 = none
    ∧ (∀ st ∈ [RecordState.LIVE, .BOUND, .LAPSED, .SPENT, .VOIDED], (withRecord 1023 (recordIn st) site).ctl.credit.findCode 77 = some 1023
      ∧ ((withRecord 1023 (recordIn st) site).ctl.record 1023).state = st ∧ (recordIn st).kind = .RECEIPT)
    ∧ (site.ctl.record 1023).state = .FREE := by decide +kernel

theorem test_meets_VoidOfBoundRecordWithdrawsFunding : ∀ b ∈ [(0 : Bay), 1],
    (inSession b .CHARGING).ctl.taking = true ∧ (inSession b .CHARGING).ctl.credit.findCode 77 = some 0
    ∧ ((inSession b .CHARGING).ctl.record 0).kind = .RECEIPT ∧ ((inSession b .CHARGING).ctl.record 0).state = .BOUND
    ∧ ((inSession b .CHARGING).ctl.record 0).voidPending = false ∧ ((inSession b .CHARGING).ctl.record 0).boundBay = some b
    ∧ ((inSession b .CHARGING).ctl.outlet b).session = some (Session.opened .CREDIT (some 0) 0 600)
    ∧ ((inSession b .CHARGING).ctl.outlet b).acting.inSession = true
    ∧ ((inSession b .CHARGING).ctl.bay b).paidContinuation = (b == 1) := by decide +kernel

/-- A withdrawal reaches a known pedestal; and a bay whose node is not known has no list to reach. -/
theorem test_meets_WithdrawalIsTold :
    (let s := inSession 0 .CHARGING
     (s.ctl.bay 0).map.valid = true ∧ (s.ctl.node 0).known = true ∧ (s.ctl.node 0).kind = some .PEDESTAL
       ∧ ((after (.void 77) s).ctl.node 0).notices = [⟨0, .FUNDING_ENDED⟩, ⟨0, .SESSION_ENDED⟩]
       ∧ ((after (.void 77) (withNode 0 (fun n => { n with notices := [⟨0, .FUNDING_ENDED⟩] }) s)).ctl.node 0).notices
         = [⟨0, .FUNDING_ENDED⟩, ⟨0, .SESSION_ENDED⟩])
    ∧ ((withNode 0 (fun _ => Node.absent) (inSession 0 .CHARGING)).ctl.node 0).known = false := by decide +kernel

theorem test_meets_CreditTableIsReadBySlotAndCode :
    (withRecord 1023 (recordIn .LIVE) site).ctl.credit.findCode 77 = some 1023 ∧ site.ctl.taking = true
    ∧ site.ctl.credit.findCode 77 = none ∧ flagOf? 0 = some false ∧ (0x40#8 &&& 0x3F#8 = 0#8) ∧ (0x02#8 &&& 0x3F#8 ≠ 0#8)
    ∧ (0x02#8).getLsbD ((withRecord 0 (recordIn .LIVE) site).ctl.record 0).state.bit = true
    ∧ (site.ctl.credit.slots.data.all fun r => !(0x02#8).getLsbD r.state.bit) = true := by
  decide +kernel

theorem test_meets_UnbindOrderGivesNewState :
    (recordIn .BOUND).voidPending = false ∧ (recordIn .BOUND).remaining ≠ 0 ∧ (recordIn .BOUND).singleUse = false
    ∧ { recordIn .BOUND with remaining := 0 }.remaining = 0 ∧ { recordIn .BOUND with voidPending := true }.voidPending = true
    ∧ 0 < ({ recordIn .BOUND with singleUse := true, bindingEnergy := some 1 }.bindingEnergy.getD 0)
    ∧ (recordIn .BOUND).expiryTime ≤ 6000 ∧ ¬ (recordIn .BOUND).expiryTime ≤ 5999 := by decide +kernel

/-- The site with bay 1 charging on slot 0, a draw waiting. -/
def drawing (slot : Option SlotNo) (d : Nat) : State := withPool (fun p => { p with draws := [drawFor slot d] }) (inSession 0 .CHARGING)

theorem test_meets_DrawIsAppliedInFullOrNotAtAll : (drawing (some 0) 99).ctl.taking = true
    ∧ (drawing (some 0) 99).ctl.pool.draws = drawFor (some 0) 99 :: [] ∧ ((drawing (some 0) 99).ctl.record 0).state = .BOUND
    ∧ ((drawing (some 0) 99).ctl.record 0).boundBay = some 0 ∧ ((drawing (some 0) 99).ctl.record 0).voidPending = false
    ∧ 99 < ((drawing (some 0) 99).ctl.record 0).remaining
    ∧ ((drawing (some 0) 99).ctl.outlet 0).session = some (Session.opened .CREDIT (some 0) 0 600)
    ∧ (drawing none 99).ctl.pool.draws = drawFor none 99 :: []
    ∧ (drawing (some 1) 99).ctl.pool.draws = drawFor (some 1) 99 :: [] ∧ ((drawing (some 1) 99).ctl.record 1).state ≠ .BOUND := by
  decide +kernel

theorem test_meets_DrawAtRemainingExhausts : (drawing (some 0) 100).ctl.pool.draws = drawFor (some 0) 100 :: []
    ∧ ((drawing (some 0) 100).ctl.record 0).remaining ≤ 100 ∧ ((drawing (some 0) 100).ctl.record 0).boundBay = some 0
    ∧ ((drawing (some 0) 100).ctl.outlet 0).session = some (Session.opened .CREDIT (some 0) 0 600)
    ∧ ((drawing (some 0) 100).ctl.outlet 0).acting.inSession = true ∧ ((drawing (some 0) 100).ctl.record 0).voidPending = false
    ∧ (drawing (some 0) 100).ctl.taking = true ∧ ((drawing (some 0) 100).ctl.record 0).state = .BOUND
    ∧ ((drawing (some 0) 100).ctl.bay 0).paidContinuation = false
    ∧ ((withSettings (fun b => { b with stored := { b.stored with bays := b.stored.bays.set 0 (bayOf 0 true) } })
        (drawing (some 0) 100)).ctl.bay 0).paidContinuation = true := by decide +kernel

/-- A boundary at 6000 s waits for its sweep. -/
def sweeping : State := withRun (fun r => { r with sweepAt := some 6000 }) (withRecord 0 (recordIn .LIVE) site)

theorem test_meets_SweepLapsesExpiredLiveRecords : sweeping.ctl.taking = true ∧ sweeping.ctl.run.sweepAt = some 6000
    ∧ sweeping.ctl.run.timeValid = true ∧ (sweeping.ctl.record 0).state = .LIVE ∧ (sweeping.ctl.record 0).expiryTime ≤ 6000
    ∧ site.ctl.run.sweepAt = none ∧ (sweeping.ctl.record 1).state ≠ .LIVE ∧ (withRun (fun r => { r with timeValid := false }) sweeping).ctl.run.timeValid = false := by
  decide +kernel

theorem test_meets_CreditBalanceIsKept (k : SlotNo) : ((inSession 0 .CHARGING).ctl.record k).balanced := by
  have h : ((inSession 0 .CHARGING).ctl.credit.slots.data.all fun r => decide (r.granted = r.remaining + r.drawn + r.forfeited
      ∧ r.granted ≤ 2000000 ∧ (r.state = .VOIDED → r.remaining = 0)
      ∧ (r.voidPending = true → r.state = .BOUND ∧ r.remaining = 0))) = true := by decide +kernel
  have hk := of_decide_eq_true (List.all_eq_true.mp h _ (Table.get_mem _ k))
  exact hk

theorem test_meets_AttnFollowsNotices : site.ctl.port.attn = false
    ∧ (∀ x : Fin 8, (site.ctl.port.notices.get x).raised.isSome = false) ∧ (after (.setTime 0) site).ctl.port.attn = true
    ∧ ((after (.setTime 0) site).ctl.port.notices.get 7).raised.isSome = true := by decide +kernel

/-- The invariant, and the last premise of RETIRE's index clause, in a state that holds a record in slot 3. -/
theorem test_meets_CodesStayUnique : (withRecord 3 (recordIn .SPENT) State.reset).ctl.uniqueCodes
    ∧ (withRecord 3 (recordIn .SPENT) State.reset).ctl.record 3 = recordIn .SPENT := by
  have hr : ∀ k, (withRecord 3 (recordIn .SPENT) State.reset).ctl.record k = if (3 : SlotNo) = k then recordIn .SPENT else Record.free := by
    intro k
    show ((Table.replicate 1024 Record.free).set 3 (recordIn .SPENT)).get k = _
    rw [Table.get_set, Table.get_replicate]
  have h3 : ∀ k, ((withRecord 3 (recordIn .SPENT) State.reset).ctl.record k).state ≠ .FREE → (3 : SlotNo) = k := by
    intro k h
    rw [hr] at h
    by_contra hk
    exact h (by rw [if_neg hk]; rfl)
  refine ⟨⟨fun k h => ?_, fun j k hj hk _ => (h3 j hj).symm.trans (h3 k hk)⟩, hr 3⟩
  rw [← h3 k h, hr 3]
  decide

/-! ### Every obligation's hypotheses are met: reports, outlets, timers -/

/-- A window awaits a REPORT, the record LIVE in slot 0. -/
def reporting : State := awaiting .window (withRecord 0 (recordIn .LIVE) site)

theorem test_meets_AcceptedPresentationBindsAndOpens : reporting.ctl.reportDue 0 0 0 ∧ reporting.ctl.taking = true
    ∧ (reporting.ctl.outlet 0).state = .PLUGGED ∧ reporting.ctl.settings.working = none ∧ reporting.ctl.lines.stopAll.qualified = false
    ∧ reporting.ctl.run.running = true ∧ reporting.ctl.pool.draws = [] ∧ reporting.ctl.credit.findCode 77 = some 0
    ∧ (reporting.ctl.record 0).state = .LIVE ∧ ¬ (reporting.ctl.record 0).expiryTime ≤ reporting.ctl.run.siteTime
    ∧ (reporting.ctl.bay 0).minTier ≤ (reporting.ctl.record 0).tier := by
  unfold Controller.reportDue
  decide +kernel

/-- A draw of the whole credit of the record to be presented waits at a PLUGGED bay's REPORT. -/
theorem test_meets_PresentWithDrawsWaiting :
    let s := awaiting .window (withPool (fun p => { p with draws := [drawFor (some 0) 100] }) (inSession 0 .CHARGING))
    s.ctl.taking = true ∧ s.ctl.reportDue 0 1 1 ∧ (s.ctl.outlet 1).state = .PLUGGED ∧ s.ctl.settings.working = none
      ∧ s.ctl.lines.stopAll.qualified = false ∧ s.ctl.pool.draws = drawFor (some 0) 100 :: []
      ∧ (s.ctl.takeAllDraws.presentCode 1 77).1 = .SPENT ∧ (s.ctl.presentCode 1 77).1 = .IN_USE := by
  unfold Controller.reportDue
  decide +kernel

theorem test_meets_RefusedPresentationAnswers : (inSetup.ctl.outlet 0).state ≠ .METER_ONLY ∧ inSetup.ctl.settings.working.isSome = true
    ∧ ((inSession 0 .ENDING).ctl.outlet 0).state = .ENDING ∧ ((inSession 0 .QUEUED).ctl.outlet 0).state = .QUEUED
    ∧ (reporting.ctl.outlet 2).state = .UNMAPPED ∧ (site.ctl.outlet 0).state = .PLUGGED ∧ site.ctl.pool.draws = []
    ∧ site.ctl.credit.findCode 77 = none
    ∧ (∀ st ∈ [RecordState.LIVE, .BOUND, .LAPSED, .SPENT, .VOIDED], (withRecord 0 (recordIn st) site).ctl.credit.findCode 77 = some 0
      ∧ ((withRecord 0 (recordIn st) site).ctl.record 0).state = st)
    ∧ ((withRecord 0 { recordIn .BOUND with voidPending := true } site).ctl.record 0).voidPending = true
    ∧ ((withRecord 0 (recordIn .LIVE) (withRun (fun r => { r with siteTime := 6000 }) site)).ctl.record 0).expiryTime ≤ 6000
    ∧ (withRun (fun r => { r with siteTime := 6000 }) site).ctl.run.timeValid = true
    ∧ (recordIn .LIVE).tier < { bayOf 0 false with minTier := 3 }.minTier
    ∧ ((withOutlet 0 (fun o => { o with state := .METER_ONLY }) site).ctl.outlet 0).state = .METER_ONLY
    ∧ (withRun (fun r => { r with running := false }) reporting).ctl.run.running = false
    ∧ (bayOf 0 false).minTier ≤ (recordIn .LIVE).tier := by decide +kernel

theorem test_meets_PaidAuthOpensAndCustomerStopEnds : reporting.ctl.reportDue 0 1 1 ∧ (reporting.ctl.outlet 1).state = .PLUGGED
    ∧ (awaiting .window (inSession 0 .PAUSED)).ctl.reportDue 0 0 0
    ∧ ((awaiting .window (inSession 0 .PAUSED)).ctl.outlet 0).state.inSession = true
    ∧ ((awaiting .window (inSession 0 .PAUSED)).ctl.outlet 0).session.isSome = true
    ∧ reporting.ctl.reportBay 0 3 = none ∧ reporting.ctl.reportBay 1 1 = none ∧ (reporting.ctl.node 0).reportUsed = false := by
  unfold Controller.reportDue
  decide +kernel

/-- Bay 1 waits for funding, with another reason or without, its session admitted or not, and a window awaits a REPORT. -/
def waitingForFunds (site' admitted : Bool) : State :=
  withOutlet 0 (fun o => { o with
      reasons := { Reasons.empty with funding := true, site := site' }, fundingWait := some (Timer.start 1)
      session := o.session.map fun ss => { ss with admitted := admitted } })
    (awaiting .window (inSession 0 .PAUSED))

theorem test_meets_PaidAuthInAFundingWait : ∀ site' ∈ [true, false], ∀ admitted ∈ [true, false],
    let s := waitingForFunds site' admitted
    s.ctl.reportDue 0 0 0 ∧ (s.ctl.outlet 0).state = .PAUSED ∧ (s.ctl.outlet 0).reasons.funding = true
      ∧ (s.ctl.outlet 0).fundingWait.isSome = true ∧ s.ctl.settings.working = none ∧ s.ctl.lines.stopAll.qualified = false
      ∧ ((s.ctl.outlet 0).session.map (·.admitted)) = some admitted
      ∧ ({ (s.ctl.outlet 0).reasons with funding := false } = Reasons.empty ↔ site' = false)
      ∧ (s.ctl.record 0).state = .BOUND ∧ (s.ctl.record 0).boundBay = some 0 := by
  unfold Controller.reportDue
  decide +kernel

theorem test_meets_OutletReadAndOutletRefusals : site.ctl.taking = true ∧ State.reset.ctl.run.running = false
    ∧ site.ctl.run.running = true ∧ (site.ctl.outlet 23).state = .UNMAPPED ∧ (site.ctl.outlet 0).state ≠ .OFFLINE
    ∧ ((withOutlet 0 (fun o => { o with state := .METER_ONLY }) site).ctl.outlet 0).state = .METER_ONLY
    ∧ ((withOutlet 2 (fun o => { o with state := .OFFLINE }) site).ctl.outlet 2).state = .OFFLINE
    ∧ ((withOutlet 2 (fun o => { o with state := .OFFLINE }) site).ctl.bay 2).map.managed = false := by decide +kernel

/-- A bay in a state, OFFLINE with a state before silence in the second form. -/
def bayIn (st : OutletState) : State := withOutlet 0 (fun o => { o with state := st }) site
def bayOffline (st : OutletState) : State := withOutlet 0 (fun o => { o with state := .OFFLINE, beforeSilence := some st }) site

theorem test_meets_EnableAndClearReturnToPlugState : ∀ st ∈ [OutletState.DISABLED, .LOCKED],
    (bayIn st).ctl.commandable 0 ∧ ((bayIn st).ctl.outlet 0).state = st ∧ (bayOffline st).ctl.commandable 0
    ∧ ((bayOffline st).ctl.outlet 0).beforeSilence = some st ∧ (bayIn .IDLE).ctl.commandable 0
    ∧ ((bayIn .IDLE).ctl.outlet 0).acting ≠ st ∧ (bayIn st).ctl.taking = true ∧ (bayOffline st).ctl.taking = true := by
  unfold Controller.commandable
  decide +kernel

/-- A bay OFFLINE with a held session. -/
def heldSession : State :=
  withOutlet 0 (fun o => { o with state := .OFFLINE, beforeSilence := some .CHARGING
                                  silenceHold := some { left := 5, frozenBySilence := false, frozenByWindow := false } })
    (inSession 0 .CHARGING)

theorem test_meets_DisableAndStopEndTheSession : (bayIn .LOCKED).ctl.commandable 0 ∧ ((bayIn .LOCKED).ctl.outlet 0).acting = .LOCKED
    ∧ (inSession 0 .CHARGING).ctl.commandable 0 ∧ ((inSession 0 .CHARGING).ctl.outlet 0).acting = .CHARGING
    ∧ ((inSession 0 .CHARGING).ctl.outlet 0).session.isSome = true ∧ heldSession.ctl.commandable 0
    ∧ (heldSession.ctl.outlet 0).state = .OFFLINE ∧ (heldSession.ctl.outlet 0).acting = .CHARGING
    ∧ (heldSession.ctl.outlet 0).session.isSome = true ∧ (site.ctl.outlet 0).session = none ∧ site.ctl.commandable 0
    ∧ heldSession.ctl.taking = true := by
  unfold Controller.commandable
  decide +kernel

theorem test_meets_ServiceStartOpensSession : site.ctl.commandable 0 ∧ (site.ctl.outlet 0).state = .PLUGGED
    ∧ inSetup.ctl.commandable 0 ∧ inSetup.ctl.settings.working.isSome = true ∧ (bayIn .IDLE).ctl.commandable 0
    ∧ ((bayIn .IDLE).ctl.outlet 0).state ≠ .PLUGGED ∧ site.ctl.settings.working = none
    ∧ site.ctl.lines.stopAll.qualified = false ∧ inSetup.ctl.taking = true := by
  unfold Controller.commandable
  decide +kernel

theorem test_meets_SessionEndClearsAndSummarises :
    ((inSession 0 .CHARGING).ctl.outlet 0).session = some (Session.opened .CREDIT (some 0) 0 600)
    ∧ ((inSession 0 .CHARGING).ctl.outlet 0).state ≠ .OFFLINE ∧ (heldSession.ctl.outlet 0).state = .OFFLINE
    ∧ (heldSession.ctl.outlet 0).session = some (Session.opened .CREDIT (some 0) 0 600)
    ∧ ((inSession 0 .CHARGING).ctl.record 0).state = .BOUND ∧ ((inSession 0 .CHARGING).ctl.bay 0).map.valid = true
    ∧ (site.ctl.node 0).known = true ∧ (site.ctl.node 0).kind = some .PEDESTAL ∧ (site.ctl.node 0).notices = []
    ∧ ((withNode 0 (fun n => { n with state := .ABSENT }) site).ctl.node 0).known = false := by decide +kernel

/-- A timer that runs. -/
def ticking : Option Timer := some (Timer.start 1)

theorem test_meets_TimerFaultHoldsOffOrLocks : (∀ lock ∈ [1, 3],
    let s := withSettings (fun b => { b with stored := { b.stored with lockoutCount := lock } })
      (withOutlet 0 (fun o => { o with overdraw := ticking, startTimer := ticking }) (inSession 0 .CHARGING))
    s.ctl.taking = true ∧ timerRuns (s.ctl.outlet 0).overdraw = true ∧ timerRuns (s.ctl.outlet 0).startTimer = true
      ∧ (s.ctl.outlet 0).faultList = [] ∧ s.ctl.inForce.lockoutCount = lock) := by decide +kernel

theorem test_meets_TimerExpiriesActOnTheirOutlet :
    let s := withOutlet 0 (fun o => { o with fundingWait := ticking, holdOff := ticking, pauseMinimum := ticking })
      (inSession 0 .PAUSED)
    s.ctl.taking = true ∧ timerRuns (s.ctl.outlet 0).fundingWait = true ∧ (s.ctl.outlet 0).session.isSome = true
      ∧ timerRuns (s.ctl.outlet 0).holdOff = true ∧ timerRuns (s.ctl.outlet 0).pauseMinimum = true
      ∧ timerRuns (heldSession.ctl.outlet 0).silenceHold = true ∧ (heldSession.ctl.outlet 0).state = .OFFLINE
      ∧ (heldSession.ctl.outlet 0).session.isSome = true := by decide +kernel

theorem test_meets_SiteHoldPausesAndResumesSessions : (inSession 0 .CHARGING).ctl.taking = true
    ∧ ((inSession 0 .CHARGING).ctl.outlet 0).session.isSome = true
    ∧ ((inSession 0 .CHARGING).ctl.outlet 0).acting.inSession = true
    ∧ ((inSession 0 .CHARGING).ctl.outlet 0).reasons.site = false := by decide +kernel

/-- Bay 1 paused by the site hold, alone or beside the customer, its session admitted or not. -/
def onHold (customer admitted : Bool) (st : OutletState) : State :=
  withOutlet 0 (fun o => { o with
      state := st, beforeSilence := some .PAUSED, reasons := { Reasons.empty with site := true, customer := customer }
      session := o.session.map fun ss => { ss with admitted := admitted } })
    (inSession 0 .PAUSED)

theorem test_meets_ResumeLeavesOutlets : ∀ customer ∈ [true, false], ∀ admitted ∈ [true, false], ∀ st ∈ [OutletState.PAUSED, .OFFLINE],
    let o := (onHold customer admitted st).ctl.outlet 0
    o.reasons.site = true ∧ o.acting = .PAUSED ∧ ((o.session.map (·.admitted)) = some true ↔ admitted = true)
      ∧ ({ o.reasons with site := false } = Reasons.empty ↔ customer = false) ∧ (o.state = .OFFLINE ↔ st = .OFFLINE) := by
  decide +kernel

theorem test_meets_MeterIncrementIsJudged :
    let o := ((withOutlet 0 (fun o => { o with baseline := some { reading := 4294967290, stamp := 0 } }) site).ctl.outlet 0)
    o.baseline = some { reading := 4294967290, stamp := 0 } ∧ (site.ctl.outlet 0).baseline = none
      ∧ (5 + 4294967296 - 4294967290) % 4294967296 = 11 ∧ 11 ≤ (7360 * (2000 - 0) * 50 + 14399999) / 14400000
      ∧ (7360 * (2000 - 0) * 50 + 14399999) / 14400000 < (1000 + 4294967296 - 4294967290) % 4294967296 := by decide +kernel

theorem test_meets_TargetsAreMarkedReleasedAndEchoed : (heldSession.ctl.outlet 0).state = .OFFLINE
    ∧ ((withOutlet 0 (Outlet.mark 0) (withOutlet 0 (fun o => { o with inForce := 5 }) site)).ctl.outlet 0).pending
      = some { kind := .DECREASE, target := 0 }
    ∧ ((withOutlet 0 (Outlet.mark 5) site).ctl.outlet 0).pending = some { kind := .RAISE, target := 5 }
    ∧ ((withOutlet 0 (Outlet.mark 0) site).ctl.outlet 0).pending = none := by decide +kernel

/-! ### Every obligation's hypotheses are met: rounds, storage, link -/

/-- A site whose banks allow 30 kW, with a bay in a session state. -/
def roomy (st : OutletState) : State :=
  withSettings (fun b => { b with stored := { b.stored with banks := Table.replicate 8 30000 } })
    (withPool (fun p => { p with queue := [{ bay := 0, priority := 14, active := true }], keptBank := some 3 }) (inSession 0 st))

/-- A PAID session at its cap. -/
def atCap : State :=
  withOutlet 0 (fun o => { o with unattributed := 9, session := some (Session.opened .PAID none 9 600) }) (roomy .CHARGING)

theorem test_meets_RoundIsTakenWhole : site.ctl.taking = true ∧ site.ctl.pool.roundTimer.isSome = true
    ∧ State.reset.ctl.pool.roundTimer = none ∧ State.reset.ctl.singleton .CANOPY = none ∧ site.ctl.singleton .CANOPY = some 1
    ∧ (site.ctl.arrival .SUPPLY_METER).isSome = true ∧ site.ctl.run.ms - 0 ≤ site.ctl.inForce.tStale * 1000
    ∧ ¬ (withRun (fun r => { r with ms := 6001 }) site).ctl.run.ms - 0 ≤ site.ctl.inForce.tStale * 1000
    ∧ (withLink (fun l => { l with state := .DOWN }) site).ctl.link.state = .DOWN ∧ (roomy .QUEUED).ctl.pool.keptBank = some 3 ∧ (roomy .QUEUED).ctl.lines.bank = 0
    ∧ site.ctl.managed 0 = true ∧ site.ctl.managed 5 = false ∧ heldSession.ctl.managed 0 = true := by decide +kernel

theorem test_meets_RoundOutcomes :
    ((roomy .QUEUED).ctl.allocate 20000).1.get 0 = some .ADMITTED
    ∧ ((withOutlet 0 (fun o => { o with reasons := .budgetAlone }) (roomy .PAUSED)).ctl.allocate 20000).1.get 0 = some .MINIMUM
    ∧ ((roomy .STARTING).ctl.allocate 0).1.get 0 = some .BUDGET ∧ ((roomy .CHARGING).ctl.allocate 0).1.get 0 = some .BUDGET := by
  decide +kernel

theorem test_meets_RoundEndsAtTheCap : (atCap.ctl.outlet 0).session = some (Session.opened .PAID none 9 600)
    ∧ ((after .allocationRound atCap).ctl.outlet 0).session = none
    ∧ ((after .allocationRound atCap).ctl.outlet 0).acting = .ENDING := by decide +kernel

theorem test_meets_DischargePermissionAndOffer : site.ctl.clearBattery = some batteryNow
    ∧ (let w : ReserveWindow := { start := 600, floor := 0, gridCharge := false }
       let v : ReserveWindow := { start := 5, floor := 7, gridCharge := true }
       (∀ u ∈ [v, w], u.start = w.start → u = w)
       ∧ (w.start ≤ 36000 / 60 % 1440 ∧ ∀ u ∈ [v, w], u.start ≤ 36000 / 60 % 1440 → u.start ≤ w.start)
       ∧ (∀ u ∈ [v, w], 0 / 60 % 1440 < u.start) ∧ (∀ u ∈ [v, w], u.start ≤ w.start)) := by decide +kernel

theorem test_meets_QueueOrderAndAllocationLimits : (site.ctl.bay 0).pMin ≤ (site.ctl.bay 0).pMax
    ∧ (∀ kind ∈ [FundingKind.SERVICE, .PAID, .CREDIT],
      ((withOutlet 1 (fun o => { o with session := some (Session.opened kind none 9 600) }) site).ctl.outlet 1).session
        = some (Session.opened kind none 9 600))
    ∧ ((inSession 0 .QUEUED).ctl.outlet 0).session = some (Session.opened .CREDIT (some 0) 0 600)
    ∧ ((inSession 0 .QUEUED).ctl.record 0).tier = (2 : Fin 4).val
    ∧ (withRecord 0 { boundTo 0 with tier := 3 } (inSession 0 .QUEUED)).ctl.record 0 = { boundTo 0 with tier := (3 : Fin 4).val }
    ∧ site.ctl.reading 0 = some entry ∧ site.ctl.reading 5 = none
    ∧ ([((2 : Bay), 100), (1, 4), (7, 0)].map (·.1)).Nodup
    ∧ (([((2 : Bay), 100), (1, 4), (7, 0)].map (·.2)).sum ≤ 104 ∧ 103 < ([((2 : Bay), 100), (1, 4), (7, 0)].map (·.2)).sum) := by
  decide +kernel

/-- The first-pass list and the outcomes of a place: first of its bay in the walk, and among those given their minimum or not. -/
theorem test_meets_PlacesOfTheFirstPass : (roomy .QUEUED).ctl.firstPassList.map (fun x => (x.bay, x.running)) = [(0, false)]
    ∧ (roomy .CHARGING).ctl.firstPassList.map (fun x => (x.bay, x.running)) = [(0, true), (0, false)]
    ∧ ((roomy .STARTING).ctl.firstPassList.map (·.priority)) = [12, 12]
    ∧ (∀ p ∈ [(1380, [PassOutcome.MINIMUM, .WAITING]), (1379, [.BUDGET, .WAITING]), (2760, [.MINIMUM, .ADMITTED])],
      (walk 2 p.1 1 (roomy .STARTING).ctl.firstPassList).1.map (·.2) = p.2)
    ∧ (walk 2 2760 2 (roomy .CHARGING).ctl.firstPassList).1.map (·.2) = [.MINIMUM, .WAITING] := by decide +kernel

theorem test_meets_SetpointStaysWithinBounds : 0 ≤ site.ctl.storage.bOff ∧ site.ctl.freshBattery = some batteryNow
    ∧ (withRun (fun r => { r with ms := 100000 }) site).ctl.freshBattery = none ∧ site.ctl.singleton .BATTERY = some 2
    ∧ ((withNode 2 (fun n => { n with state := .SILENT }) site).ctl.singleton .BATTERY) = some 2
    ∧ ((withNode 2 (fun n => { n with state := .SILENT }) site).ctl.node 2).state ≠ .PRESENT
    ∧ (withNode 2 (fun n => { n with readings := some { body := .battery { batteryNow with faultCode := 7 }, time := 0, stamp := 0 } })
        site).ctl.freshBattery = some { batteryNow with faultCode := 7 }
    ∧ (withLines (fun l => { l with stopAll := { wire := true, qualified := true, left := none } }) site).ctl.lines.stopAll.qualified
      = true ∧ batteryNow.full = false ∧ { batteryNow with full := true }.full = true ∧ site.ctl.storage.gridCharge = false
    ∧ { site.ctl.storage with gridCharge := true }.gridCharge = true
    ∧ batterySetpoint Settings.factory site.ctl.storage (some batteryNow) (-9) (-4) = -(min (min 9 (min Settings.factory.pChgSet 30000)) 4)
    ∧ (0 : Int) ≤ 0 := by decide +kernel

theorem test_meets_IncrementSplitAndDraw : (0 : Int) ≤ 6000 ∧ (0 : Int) ≤ 5000 ∧ (6000 : Int) + 5000 ≤ 40000
    ∧ Settings.factory.tariff.wBat ≤ 16 ∧ Settings.factory.tariff.wPv ≤ 16 := by decide +kernel

theorem test_meets_StartDiscoversAndFramesAwaitReplies : State.reset.ctl.taking = true ∧ State.reset.ctl.run.running = false
    ∧ State.reset.ctl.link.state = .IDLE ∧ site.ctl.run.running = true
    ∧ (withRun (fun r => { r with running := false }) site).ctl.link.state ≠ .IDLE
    ∧ (after .start State.reset).ctl.link.exchange = some { sent := .identReq 0, tReply := 25, waiting := none }
    ∧ (Sent.identReq 0).unanswered = false := by decide +kernel

/-- A discovery that awaits the IDENT of node 29. -/
def discovering : State := awaiting (.identReq 28) (withLink (fun l => { l with state := .DISCOVERING }) State.reset)

theorem test_meets_DiscoveryAsksEachAddressInTurn : discovering.ctl.taking = true ∧ discovering.ctl.link.state = .DISCOVERING
    ∧ discovering.ctl.link.awaited = some (.identReq 28) ∧ (29 : Addr).val = (28 : Addr).val + 1
    ∧ discovering.ctl.link.stopWaiting = false ∧ discovering.ctl.link.restartWaiting = false
    ∧ discovering.ctl.link.window.phase = .NONE ∧ discovering.ctl.link.finalCycle = false := by decide +kernel

theorem test_meets_AttachProbe : ∀ id ∈ [((0, 4), none), ((2, 0), some IgnoreCause.DUPLICATE_KIND)],
    let s := awaiting (.identReq 9) site
    s.ctl.ordinaryCycle ∧ s.ctl.taking = true ∧ s.ctl.link.awaited = some (.identReq 9)
      ∧ s.ctl.link.ignoreCause 9 { kindCode := id.1.1, outletCount := id.1.2, rating := 22000, serial := 77 } = id.2 := by
  unfold Controller.ordinaryCycle
  decide +kernel

/-- A discovery that START began awaits the last IDENT, with the pedestal found or no node. -/
def lastAsked (found : Bool) : State :=
  awaiting (.identReq 29) (withNode 0 (fun n => if found then nodeOf 0 2 (.pedestal [entry, entry]) else n) (after .start
    (withOutlet 0 (fun o => { o with state := .OFFLINE, offlineCause := some .MAP_MISMATCH })
      (withSettings (fun b => { b with stored := mapped }) State.reset))))

theorem test_meets_DiscoveryEndsAtAddressThirty : ∀ found ∈ [true, false],
    let s := lastAsked found
    s.ctl.taking = true ∧ s.ctl.link.state = .DISCOVERING ∧ s.ctl.link.awaited = some (.identReq 29) ∧ (29 : Addr).val = 29
      ∧ s.ctl.link.stopWaiting = false ∧ s.ctl.link.restartWaiting = false ∧ s.ctl.link.window.phase = .NONE
      ∧ s.ctl.link.finalCycle = false ∧ s.ctl.run.running = false ∧ s.ctl.port.buffer = .PENDING 0x60
      ∧ (s.ctl.outlet 0).offlineCause = some .MAP_MISMATCH ∧ (s.ctl.bay 0).map.valid = true
      ∧ (s.ctl.node 0).known = found ∧ (s.ctl.node 1).state = .ABSENT := by decide +kernel

/-- A discovery that awaits the last IDENT at a table of IGNORED nodes, their report-used flags set or clear. -/
def allIgnored (used : Bool) : State :=
  awaiting (.identReq 29) (withLink (fun l => { l with
    state := .DISCOVERING
    nodes := Table.replicate 30 { Node.absent with state := .IGNORED, ignoreCause := some .BAD_IDENT, reportUsed := used } }) State.reset)

/-- With no node to visit and no ABSENT address to probe, the first cycle begins its windows at once (R127, R128, R133). -/
theorem test_meets_DiscoveryOfIgnoredNodes : ∀ used ∈ [true, false], ∀ i ∈ [Instr.ident 29 4 1 0 99, .identTimeout],
    let s := allIgnored used
    let t := after i s
    s.ctl.taking = true ∧ s.ctl.link.state = .DISCOVERING ∧ s.ctl.link.awaited = some (.identReq 29) ∧ (29 : Addr).val = 29
      ∧ s.ctl.link.stopWaiting = false ∧ s.ctl.link.restartWaiting = false ∧ s.ctl.link.window.phase = .NONE
      ∧ s.ctl.link.finalCycle = false ∧ (∀ y, (t.ctl.node y).state = .IGNORED)
      ∧ (t.ctl.link.exchange.map (·.sent)) = some .window ∧ (t.ctl.node 0).reportUsed = false := by decide +kernel

theorem test_meets_IgnoreCauses :
    site.ctl.link.ignoreCause 9 { kindCode := 2, outletCount := 0, rating := 0, serial := 77 } = some .DUPLICATE_KIND
    ∧ site.ctl.link.ignoreCause 9 { kindCode := 0, outletCount := 1, rating := 0, serial := 2 } = some .DUPLICATE_SERIAL
    ∧ site.ctl.link.ignoreCause 9 { kindCode := 4, outletCount := 1, rating := 0, serial := 77 } = some .BAD_IDENT
    ∧ site.ctl.link.ignoreCause 9 { kindCode := 0, outletCount := 5, rating := 0, serial := 77 } = some .BAD_IDENT
    ∧ site.ctl.link.ignoreCause 9 { kindCode := 0, outletCount := 4, rating := 0, serial := 77 } = none := by decide +kernel

/-- A poll of a node awaits its reply. -/
def polling (a : Addr) : State := awaiting (.poll a) site

theorem test_meets_StatusStoresReadingsAndJudgesSupply :
    (∀ p ∈ [((1 : Addr), StatusBody.canopy 5 (.watts 9)), (2, .battery batteryNow), (3, .supplyMeter 5 1949), (0, .pedestal [entry, entry])],
      (polling p.1).ctl.ordinaryCycle ∧ (polling p.1).ctl.link.awaited = some (.poll p.1) ∧ ((polling p.1).ctl.node p.1).known = true
        ∧ ((polling p.1).ctl.node p.1).accepts p.2 = true ∧ (polling p.1).ctl.taking = true)
    ∧ ((withNode 2 (fun n => { n with state := .SILENT }) (polling 2)).ctl.node 2).state = .SILENT
    ∧ ((withNode 2 (fun n => { n with state := .SILENT }) (polling 2)).ctl.node 2).known = true
    ∧ (polling 1).ctl.storage.canopy.acked ≠ some (.watts 9) ∧ 1949 < Settings.factory.vLow ∧ Settings.factory.vHigh < 2531
    ∧ ((withNode 0 (fun n => { n with state := .SILENT }) (polling 0)).ctl.node 0).state = .SILENT
    ∧ site.ctl.outlets.window = none ∧ windowAfter site.ctl.inForce 1949 none = some .LOW
    ∧ windowAfter site.ctl.inForce 2300 (some .LOW) = none ∧ windowAfter site.ctl.inForce 2531 (some .LOW) = some .HIGH := by
  unfold Controller.ordinaryCycle
  decide +kernel

theorem test_meets_EntryOfAnOutlet : (∀ st ∈ [OutletState.METER_ONLY, .IDLE, .PLUGGED, .QUEUED, .STARTING, .CHARGING, .PAUSED, .ENDING, .OFFLINE],
      ((inSession 0 st).ctl.outlet 0).state = st)
    ∧ (heldSession.ctl.outlet 0).offlineCause ≠ some .MAP_MISMATCH ∧ entry.moduleFault = 0 ∧ entry.plugged = true
    ∧ { entry with moduleFault := 3 }.moduleFault ≠ 0 ∧ { entry with plugged := false }.plugged = false
    ∧ entry.customerPause = ((inSession 0 .STARTING).ctl.outlet 0).reasons.customer
    ∧ { entry with customerPause := true }.customerPause ≠ ((inSession 0 .STARTING).ctl.outlet 0).reasons.customer
    ∧ (((onHold true true .PAUSED).ctl.outlet 0).session.map (·.admitted)) = some true
    ∧ ((onHold true true .PAUSED).ctl.outlet 0).reasons.customer = true
    ∧ (let o := (inSession 0 .STARTING).ctl.outlet 0
       let margin := (o.inForce * mapped.marginPct).fdiv 100 + mapped.marginAbs
       o.inForce + 2 * margin < 401 ∧ (400 : Int) ≤ o.inForce + 2 * margin
         ∧ ((((inSession 0 .STARTING).ctl.bay 0).pMin / 2 : Nat) : Int) = 690) := by decide +kernel

theorem test_meets_MissedPollsMakeANodeSilent : ∀ misses ∈ [0, 1, 2, 3],
    let s := withNode 2 (fun n => { n with misses := misses }) (polling 2)
    s.ctl.ordinaryCycle ∧ s.ctl.link.awaited = some (.poll 2) ∧ (s.ctl.node 2).kind ≠ some .PEDESTAL
      ∧ (0 : Addr) ≠ 2 ∧ (s.ctl.node 0).state = .PRESENT ∧ (s.ctl.node 2).state = .PRESENT ∧ (s.ctl.node 2).misses = misses
      ∧ s.ctl.taking = true := by
  unfold Controller.ordinaryCycle
  decide +kernel

/-- A setpoint has been sent, and its acknowledgement is awaited. -/
def setting (x : Sent) (a : Addr) (f : Node → Node) : State :=
  withLink (fun l => { l with sentOutlets := [0] }) (withNode a f (awaiting x site))

/-- The frames of a visit, after its STATUS and after the frame before: a DECREASE, a released RAISE, the battery's value, a notice, and the
next node's POLL or the attach probe. -/
theorem test_meets_VisitGoesOn :
    (let s := withOutlet 0 (fun o => Outlet.mark 5 { o with inForce := 7000 }) (polling 0)
     s.ctl.link.stage = .polled ∧ ((s.ctl.outlet 0).pending.map (·.kind)) = some .DECREASE
       ∧ ((after (.status 0 (.pedestal [entry, entry])) s).ctl.link.exchange.map (·.sent)) = some (.setOutlet 0 0 5))
    ∧ (let s := withOutlet 1 (fun o => { (o.mark 50000) with raiseReleased := true }) (withLink (fun l => { l with stage := .decreases [] })
        (setting (Sent.setOutlet 0 0 7000) 0 (fun n => { n with outOutlet := n.outOutlet.set 0 (some 7000) })))
       ((s.ctl.outlet 1).pending.map (·.kind)) = some .RAISE ∧ (s.ctl.bay 1).pMax < 50000
         ∧ ((after .setAckTimeout s).ctl.link.exchange.map (·.sent)) = some (.setOutlet 0 1 (s.ctl.bay 1).pMax))
    ∧ (let s := (polling 2).put { (polling 2).ctl with storage := { Storage.initial with battery := ⟨5, none, some 5⟩ } }
       ((after (.status 2 (.battery batteryNow)) s).ctl.link.exchange.map (·.sent)) = some (.setBattery 2 5))
    ∧ (let s := withNode 3 (fun n => { n with notices := [⟨0, .FUNDING_ENDED⟩] }) (polling 3)
       ((after (.status 3 (.supplyMeter 5 2300)) s).ctl.link.exchange.map (·.sent)) = some (.notice 3 ⟨0, .FUNDING_ENDED⟩))
    ∧ ((after (.status 2 (.battery batteryNow)) (polling 2)).ctl.link.exchange.map (·.sent)) = some (.poll 3)
    ∧ ((after (.status 3 (.supplyMeter 5 2300)) (polling 3)).ctl.link.exchange.map (·.sent)) = some (.identReq 4) := by decide +kernel

/-- A miss that is not the third of the only PRESENT node, and one in a cycle without a PRESENT node while a later node is known. -/
theorem test_meets_MissesThatGoOn :
    (let s := withLink (fun l => { l with nodes := (Table.replicate 30 Node.absent).set 2 (l.nodes.get 2) }) (polling 2)
     s.ctl.ordinaryCycle ∧ s.ctl.taking = true ∧ s.ctl.link.awaited = some (.poll 2) ∧ (s.ctl.node 2).state = .PRESENT
       ∧ ¬ 2 ≤ (s.ctl.node 2).misses ∧ ∀ x, x ≠ 2 → (s.ctl.node x).state ≠ .PRESENT)
    ∧ (let s := withLink (fun l => { l with nodes := l.nodes.map fun n => if n.known then { n with state := .SILENT } else n }) (polling 2)
       s.ctl.ordinaryCycle ∧ s.ctl.taking = true ∧ s.ctl.link.awaited = some (.poll 2) ∧ (∀ x, (s.ctl.node x).state ≠ .PRESENT)
         ∧ (2 : Addr) < 3 ∧ (s.ctl.node 3).known = true) := by
  unfold Controller.ordinaryCycle
  decide +kernel

/-- The pedestal alone on the link, or beside the others, its third POLL in vain or already SILENT; cycles silent before. -/
def lastChance (alone : Bool) (st : NodeState) (silent : Nat) : State :=
  withLink (fun l => { l with
      allSilent := silent
      nodes := (if alone then Table.replicate 30 Node.absent else l.nodes).set 0 { l.nodes.get 0 with state := st, misses := 2 } })
    (awaiting (.poll 0) (inSession 0 .CHARGING))

theorem test_meets_PedestalFallsSilent :
    let s := lastChance false .PRESENT 0
    s.ctl.ordinaryCycle ∧ s.ctl.taking = true ∧ s.ctl.link.awaited = some (.poll 0) ∧ (s.ctl.node 0).state = .PRESENT
      ∧ 2 ≤ (s.ctl.node 0).misses ∧ (s.ctl.node 0).kind = some .PEDESTAL ∧ (s.ctl.node 1).state = .PRESENT
      ∧ (s.ctl.bay 0).map.valid = true ∧ (s.ctl.bay 0).map.node = 0 ∧ (s.ctl.outlet 0).state = .CHARGING := by
  unfold Controller.ordinaryCycle
  decide +kernel

theorem test_meets_LinkCollapses : ∀ silent ∈ [1, 2], ∀ st ∈ [NodeState.PRESENT, .SILENT],
    let s := lastChance true st silent
    s.ctl.ordinaryCycle ∧ (∀ x, x ≠ 0 → (s.ctl.node x).state ≠ .PRESENT) ∧ (∀ x : Addr, 0 < x → (s.ctl.node x).known = false)
      ∧ (s.ctl.node 0).state = st ∧ 2 ≤ (s.ctl.node 0).misses ∧ s.ctl.link.allSilent = silent
      ∧ (s.ctl.outlet 0).session.isSome = true ∧ (s.ctl.outlet 1).session = none := by
  unfold Controller.ordinaryCycle
  decide +kernel

theorem test_meets_SetAckSettlesTheSetpoint :
    (let s := setting (Sent.setOutlet 0 0 7000) 0 (fun n => { n with outOutlet := n.outOutlet.set 0 (some 7000) });
      s.ctl.ordinaryCycle ∧ (s.ctl.node 0).state = .PRESENT ∧ s.ctl.link.awaited = some (.setOutlet 0 0 7000)
        ∧ (0 : OutIx) ∈ s.ctl.link.sentOutlets ∧ (s.ctl.node 0).outOutlet.get 0 = some 7000 ∧ s.ctl.bayAt 0 0 = some 0
        ∧ s.ctl.taking = true)
    ∧ (let s := setting (Sent.setBattery 2 500) 2 (fun n => { n with outBattery := some 500 });
      s.ctl.ordinaryCycle ∧ (s.ctl.node 2).state = .PRESENT ∧ s.ctl.link.awaited = some (.setBattery 2 500)
        ∧ (s.ctl.node 2).outBattery = some 500 ∧ s.ctl.taking = true)
    ∧ (let s := setting (Sent.setCanopy 1 .uncapped) 1 (fun n => { n with outCanopy := some .uncapped });
      s.ctl.ordinaryCycle ∧ (s.ctl.node 1).state = .PRESENT ∧ s.ctl.link.awaited = some (.setCanopy 1 .uncapped)
        ∧ (s.ctl.node 1).outCanopy = some .uncapped ∧ s.ctl.taking = true) := by
  unfold Controller.ordinaryCycle
  decide +kernel

/-- A frame is being sent. -/
def sending (x : Sent) (s : State) : State := withLink (fun l => { l with exchange := some { sent := x, tReply := 25, waiting := none } }) s

theorem test_meets_NoticeHasBeenSent :
    let s := sending (.notice 0 ⟨0, .FUNDING_ENDED⟩) site
    s.ctl.ordinaryCycle ∧ (s.ctl.node 0).state = .PRESENT ∧ s.ctl.taking = true
      ∧ s.ctl.link.exchange = some { sent := .notice 0 ⟨0, .FUNDING_ENDED⟩, tReply := 25, waiting := none } := by
  unfold Controller.ordinaryCycle
  decide +kernel

/-- A window's REPORT has been answered, with a number of windows taken. -/
def answered (windows : Nat) : State :=
  withLink (fun l => { l with windows := windows, reports := windows }) (sending (.answer 0 1 .ACCEPTED 2 100) site)

theorem test_meets_AnswerSentAndChainFault : (∀ windows ∈ [3, 4], (answered windows).ctl.ordinaryCycle
      ∧ (answered windows).ctl.link.exchange = some { sent := .answer 0 1 .ACCEPTED 2 100, tReply := 25, waiting := none }
      ∧ (answered windows).ctl.link.windows = windows ∧ ((answered windows).ctl.node 0).state = .PRESENT
      ∧ (answered windows).ctl.taking = true)
    ∧ (let s := withNode 0 (fun n => { n with reportUsed := true }) (awaiting .window site)
       s.ctl.ordinaryCycle ∧ s.ctl.link.awaited = some .window ∧ (s.ctl.node 0).reportUsed = true ∧ (s.ctl.node 0).state = .PRESENT
         ∧ s.ctl.taking = true) := by
  unfold Controller.ordinaryCycle
  decide +kernel

theorem test_meets_EmptyWindowEndsTheCycle :
    let s := awaiting .window site
    s.ctl.taking = true ∧ s.ctl.link.awaited = some .window ∧ s.ctl.link.stopWaiting = false ∧ s.ctl.link.restartWaiting = false
      ∧ s.ctl.link.window.phase = .NONE ∧ (s.ctl.node 0).known = true ∧ ∀ x : Addr, ¬ x < 0 := by decide +kernel

/-- The site with its link in a state and a frame of it in progress. -/
def linkIn (st : LinkState) : State := withLink (fun l => { l with state := st }) (polling 2)

/-- A LINK_REQUEST waits for its grant. -/
def granting : State := withLink (fun l => { l with window := { l.window with phase := .GRANT_PENDING } }) (polling 2)

theorem test_meets_LinkRestartAndRequestByLinkState : (linkIn .PASS_THROUGH).ctl.link.state = .PASS_THROUGH
    ∧ (linkIn .DISCOVERING).ctl.link.state = .DISCOVERING ∧ (linkIn .IDLE).ctl.link.state = .IDLE
    ∧ (linkIn .DOWN).ctl.link.state = .DOWN ∧ (linkIn .DOWN).ctl.taking = true ∧ granting.ctl.link.window.phase = .GRANT_PENDING
    ∧ granting.ctl.link.state = .RUNNING
    ∧ (polling 2).ctl.link.state = .RUNNING ∧ (polling 2).ctl.link.window.phase ≠ .GRANT_PENDING
    ∧ (polling 2).ctl.link.restartWaiting = false ∧ (polling 2).ctl.link.stopWaiting = false ∧ (polling 2).ctl.link.finalCycle = false
    ∧ (polling 2).ctl.link.exchange.isSome = true ∧ site.ctl.link.exchange = none
    ∧ (after .linkRestart (polling 2)).ctl.link.restartWaiting = true := by decide +kernel

/-- A LINK_RESTART, or a LINK_REQUEST, waits for the exchange in progress. -/
def held (restart : Bool) (s : State) : State :=
  withLink (fun l => { l with restartWaiting := restart, window := { l.window with phase := if restart then .NONE else .GRANT_PENDING } }) s

/-- The node of every setpoint, with one outstanding of each kind, and every node's report-used flag set. -/
def owing : State :=
  withLink (fun l => { l with nodes := l.nodes.map fun n =>
    { n with reportUsed := true, outOutlet := Table.replicate 4 (some 5), outBattery := some 5, outCanopy := some .uncapped } }) site

theorem test_meets_WaitingRestartAndGrant (restart : Bool) :
    (held restart (awaiting (.identReq 9) site)).ctl.endsExchange .identTimeout
    ∧ (held restart (polling 2)).ctl.endsExchange .statusTimeout
    ∧ (held restart (awaiting (.setBattery 2 5) owing)).ctl.endsExchange .setAckTimeout
    ∧ (held restart (awaiting .window owing)).ctl.endsExchange .windowTimeout
    ∧ (held restart (sending (.answer 0 1 .ACCEPTED 2 100) site)).ctl.endsExchange .frameSent
    ∧ (held restart (awaiting .window owing)).ctl.endsExchange (.customerStop 0 1)
    ∧ (held restart (awaiting (.identReq 9) site)).ctl.repliesTo (.ident 9 0 4 22000 77)
    ∧ (held restart (polling 2)).ctl.repliesTo (.status 2 (.battery batteryNow))
    ∧ (held restart (awaiting (.setOutlet 0 3 5) owing)).ctl.repliesTo (.setAck 0 (.outlet 4 6))
    ∧ (held restart (awaiting (.setBattery 2 5) owing)).ctl.repliesTo (.setAck 2 (.battery 5))
    ∧ (held restart (awaiting (.setCanopy 1 .uncapped) owing)).ctl.repliesTo (.setAck 1 (.canopy .uncapped)) :=
  ⟨.inl ⟨rfl, 9, rfl⟩, .inr (.inl ⟨rfl, 2, rfl⟩), .inr (.inr (.inl ⟨rfl, _, rfl, rfl⟩)), .inr (.inr (.inr (.inl ⟨rfl, rfl⟩))),
   .inr (.inr (.inr (.inr (.inl ⟨rfl, _, rfl, rfl, rfl⟩)))), .inr (.inr (.inr (.inr (.inr ⟨0, 1, 0, rfl, rfl, .inr (.inr rfl)⟩)))),
   .inl ⟨9, 0, 4, 22000, 77, rfl, rfl⟩, .inr (.inl ⟨2, _, rfl, rfl, rfl⟩), .inr (.inr (.inl ⟨0, 3, 5, 6, rfl, rfl, rfl⟩)),
   .inr (.inr (.inr (.inl ⟨2, 5, 5, rfl, rfl, rfl⟩))), .inr (.inr (.inr (.inr ⟨1, .uncapped, .uncapped, rfl, rfl, rfl⟩)))⟩

theorem test_meets_WaitingRestartAndGrantInRunning : ∀ restart ∈ [true, false],
    let s := held restart (polling 2)
    s.ctl.link.state = .RUNNING ∧ s.ctl.taking = true ∧ s.ctl.link.stopWaiting = false ∧ s.ctl.link.restartWaiting = restart
      ∧ (restart = false → s.ctl.link.window.phase = .GRANT_PENDING) ∧ (site.ctl.bay 0).map.valid = true
      ∧ (after .linkRequest (polling 2)).ctl.port.buffer = .PENDING 0x42
      ∧ (after .statusTimeout (after .linkRequest (polling 2))).ctl.link.state = .PASS_THROUGH := by decide +kernel

/-- A held window with a raw exchange, and what ends it at the completion. -/
def rawWith (ending : Option WindowEnd) (expired : Bool) (waiting : Option Nat) : State :=
  withLink (fun l => { l with window := { l.window with
    raw := some { rawExchange with waiting := waiting }, ending := ending, expired := expired, timer := none } }) inWindow

theorem test_meets_RawFrameAndItsWindow : (rawWith none false none).ctl.link.exchange = none
    ∧ (rawWith none false none).ctl.link.window.raw = some { rawExchange with waiting := none }
    ∧ (rawWith (some .EXPIRY) true (some 3)).ctl.link.window.phase = .HELD ∧ (rawWith (some .EXPIRY) true (some 3)).ctl.link.window.expired = true
    ∧ (rawWith none false (some 3)).ctl.link.window.raw.isSome = true ∧ (rawWith none false (some 3)).ctl.link.window.expired = false
    ∧ (∀ ending ∈ [some WindowEnd.RELEASE, some .EXPIRY], (rawWith ending (ending == some .EXPIRY) (some 3)).ctl.link.window.ending = ending
      ∧ (rawWith ending (ending == some .EXPIRY) (some 3)).ctl.link.window.raw = some rawExchange
      ∧ (rawWith ending (ending == some .EXPIRY) (some 3)).ctl.taking = true
      ∧ ((rawWith ending (ending == some .EXPIRY) (some 3)).ctl.node 0).known = true)
    ∧ (after .linkRelease (rawWith none false (some 3))).ctl.port.buffer = .PENDING 0x44
    ∧ (after .ptExpired (after (.linkFrame 1 [1#8]) inWindow)).ctl.port.buffer = .PENDING 0x43 := by decide +kernel

theorem test_meets_RawExchangeIsMadeAndAnswered :
    let s := withLink (fun l => { l with window := { l.window with raw := some rawExchange } }) inWindow
    inWindow.ctl.taking = true ∧ inWindow.ctl.link.window.phase = .HELD ∧ inWindow.ctl.link.window.expired = false
      ∧ inWindow.ctl.link.window.raw = none ∧ site.ctl.link.window.phase ≠ .HELD
      ∧ (List.replicate 32 0#8).length ≤ 32 ∧ 32 < (List.replicate 33 0#8).length
      ∧ s.ctl.link.window.raw = some rawExchange ∧ rawExchange.waiting.isSome = true ∧ s.ctl.link.window.ending = none
      ∧ (1 : Addr) ≠ rawExchange.address := by decide +kernel

theorem test_meets_WindowEndsAtReleaseOrExpiry :
    let s := withLink (fun l => { l with window := { l.window with raw := some rawExchange } }) inWindow
    let e := withLink (fun l => { l with window := { l.window with expired := true } }) site
    e.ctl.link.window.expired = true ∧ e.ctl.taking = true ∧ site.ctl.link.window.expired = false ∧ site.ctl.link.window.phase ≠ .HELD
      ∧ s.ctl.link.window.phase = .HELD ∧ s.ctl.link.window.raw = some rawExchange ∧ s.ctl.link.window.ending = none
      ∧ s.ctl.link.window.timer.isSome = true ∧ s.ctl.link.window.expired = false
      ∧ inWindow.ctl.link.window.raw = none ∧ inWindow.ctl.link.window.timer.isSome = true ∧ inWindow.ctl.link.window.expired = false
      ∧ inWindow.ctl.link.window.phase = .HELD ∧ inWindow.ctl.link.window.ending ≠ some .STOP
      ∧ (withLink (fun l => { l with window := { l.window with ending := some .STOP } }) s).ctl.link.window.ending = some .STOP
      ∧ (inWindow.ctl.node 0).known = true ∧ ∀ x : Addr, ¬ x < 0 := by decide +kernel

theorem test_meets_StopEndsEverySession : State.reset.ctl.run.running = false ∧ State.reset.ctl.link.state = .IDLE
    ∧ discovering.ctl.run.running = false ∧ discovering.ctl.link.state = .DISCOVERING
    ∧ (withRun (fun r => { r with running := false }) site).ctl.link.state = .RUNNING
    ∧ (awaiting .window (inSession 0 .CHARGING)).ctl.run.running = true
    ∧ (awaiting .window (inSession 0 .CHARGING)).ctl.link.state = .RUNNING
    ∧ (awaiting .window (inSession 0 .CHARGING)).ctl.link.exchange.isSome = true
    ∧ ((awaiting .window (inSession 0 .CHARGING)).ctl.outlet 0).session.isSome = true
    ∧ (awaiting .window (inSession 0 .CHARGING)).ctl.taking = true
    ∧ (linkIn .DOWN).ctl.run.running = true ∧ (linkIn .DOWN).ctl.link.state = .DOWN
    ∧ (linkIn .DISCOVERING).ctl.run.running = true ∧ (linkIn .DISCOVERING).ctl.link.state = .DISCOVERING
    ∧ (inSession 0 .CHARGING).ctl.link.state = .RUNNING ∧ (inSession 0 .CHARGING).ctl.link.exchange = none
    ∧ inWindow.ctl.run.running = true ∧ inWindow.ctl.link.state = .PASS_THROUGH ∧ inWindow.ctl.link.window.raw = none
    ∧ (withLink (fun l => { l with window := { l.window with raw := some rawExchange } }) inWindow).ctl.link.window.raw = some rawExchange
    ∧ (∀ a, State.reset.ctl.node a = Node.absent) := by decide +kernel

/-- STOP's final cycle polls a node; the lowest known node is the first. -/
def lastCycle (a : Addr) : State := withLink (fun l => { l with finalCycle := true }) (polling a)

/-- In a final cycle a STATUS, a SET_ACK and a notice that has been sent are taken; after the last visit the link is IDLE. -/
theorem test_meets_FinalCycleAsAny : (lastCycle 2).ctl.lastCycle ∧ (lastCycle 2).ctl.taking = true
    ∧ (lastCycle 2).ctl.link.awaited = some (.poll 2) ∧ ((lastCycle 2).ctl.node 2).known = true
    ∧ ((lastCycle 2).ctl.node 2).accepts (.battery batteryNow) = true
    ∧ ((after (.status 2 (.battery batteryNow)) (lastCycle 2)).ctl.link.exchange.map (·.sent)) = some (.poll 3)
    ∧ (after (.status 3 (.supplyMeter 5 2300)) (lastCycle 3)).ctl.link.state = .IDLE
    ∧ ((awaiting (.setBattery 2 5) owing).inFinal true).ctl.lastCycle
    ∧ ((awaiting (.setBattery 2 5) owing).inFinal true).ctl.link.awaited = some (.setBattery 2 5)
    ∧ (((awaiting (.setBattery 2 5) owing).inFinal true).ctl.node 2).outBattery.isSome = true
    ∧ ((sending (.notice 0 ⟨0, .FUNDING_ENDED⟩) site).inFinal true).ctl.lastCycle
    ∧ ((sending (.notice 0 ⟨0, .FUNDING_ENDED⟩) site).inFinal true).ctl.link.exchange
      = some { sent := .notice 0 ⟨0, .FUNDING_ENDED⟩, tReply := 25, waiting := none } := by
  unfold Controller.lastCycle
  decide +kernel

theorem test_meets_FinalCycle : site.ctl.lowestKnown 0 ∧ (lastCycle 3).ctl.link.finalCycle = true
    ∧ (lastCycle 3).ctl.link.awaited = some (.poll 3) ∧ (∀ x : Addr, 3 < x → ((lastCycle 3).ctl.node x).known = false)
    ∧ (lastCycle 2).ctl.link.awaited = some (.poll 2) ∧ ((lastCycle 2).ctl.node 3).known = true
    ∧ (∀ y : Addr, 2 < y → ¬ y < 3) ∧ (after .stop (awaiting .window site)).ctl.link.stopWaiting = true
    ∧ (after .stop (awaiting .window site)).ctl.link.awaited = some .window
    ∧ (after .stop (awaiting .window site)).ctl.port.buffer = .PENDING 0x61 ∧ (lastCycle 3).ctl.link.stopWaiting = false
    ∧ (lastCycle 3).ctl.link.restartWaiting = false ∧ (lastCycle 3).ctl.link.window.phase = .NONE := by
  unfold Controller.lowestKnown
  decide +kernel

/-! ### Every obligation's hypotheses are met: lines, settings, port, power -/

/-- A line with a level on its wire and a qualified level. -/
def lineAt (line : LineId) (wire qualified : Bool) (s : State) : State :=
  withLines (fun l => l.set line { wire := wire, qualified := qualified, left := some 0 }) s

theorem test_meets_LinesQualifyAndAct : site.ctl.taking = true ∧ unpowered.ctl.taking = false
    ∧ (∀ i : Fin 3, ((lineAt (gridLine i) true false site).ctl.lines.get (gridLine i)).wire = true
      ∧ ((lineAt (gridLine i) true false site).ctl.lines.get (gridLine i)).qualified = false
      ∧ (site.ctl.lines.get (gridLine i)).wire = (site.ctl.lines.get (gridLine i)).qualified)
    ∧ site.ctl.lines.stopAll.wire = false ∧ site.ctl.lines.stopAll.qualified = false ∧ site.ctl.lines.keylock.wire ≠ true
    ∧ site.ctl.lines.keylock.qualified = site.ctl.lines.keylock.wire
    ∧ (lineAt .stopAll false true site).ctl.lines.stopAll.wire = false
    ∧ (lineAt .stopAll false true site).ctl.lines.stopAll.qualified = true
    ∧ (lineAt .keylock true false site).ctl.lines.keylock.wire = true
    ∧ (lineAt .keylock true false site).ctl.lines.keylock.qualified = false
    ∧ (lineAt .keylock false true site).ctl.lines.keylock.wire = false
    ∧ (lineAt .keylock false true site).ctl.lines.keylock.qualified = true := by decide +kernel

theorem test_meets_StopAllEndsEverySession :
    let s := (lineAt .stopAll true false (inSession 0 .CHARGING))
    s.ctl.taking = true ∧ s.ctl.lines.stopAll.wire = true ∧ s.ctl.lines.stopAll.qualified = false
      ∧ (s.ctl.outlet 0).session = some (Session.opened .CREDIT (some 0) 0 600) ∧ (s.ctl.outlet 0).state ≠ .OFFLINE
      ∧ (heldSession.ctl.outlet 0).state = .OFFLINE := by decide +kernel

/-- A commit is in flight. -/
def committing : State := after .setupEnd inSetup

theorem test_meets_SetupEditsTheWorkingCopy : site.ctl.taking = true ∧ committing.ctl.settings.commit.isSome = true
    ∧ committing.ctl.settings.working.isSome = true ∧ inSetup.ctl.settings.commit = none ∧ inSetup.ctl.settings.working.isSome = true
    ∧ site.ctl.settings.working = none ∧ ((inSession 0 .CHARGING).ctl.outlet 0).session.isSome = true
    ∧ (∀ y : Bay, (site.ctl.outlet y).session = none)
    ∧ (withSettings (fun b => { b with latch := true }) inSetup).ctl.settings.latch = true
    ∧ inSetup.ctl.settings.stored.level = .OPEN ∧ inSetup.ctl.settings.latch = false
    ∧ itemOf 5 0 none = some .wPv ∧ itemOf 6 0 none = some .siteNumber ∧ itemOf 6 1 none = some .cabinetSerial
    ∧ itemOf 0 0 (some 8) = none
    ∧ ((Working.mk mapped none none).write .wPv (.num 16)).isSome = true ∧ (Working.mk mapped none none).write .wPv (.num 17) = none
    ∧ ((Working.mk mapped none none).write .siteNumber (.num 5)).isSome = true
    ∧ (withSettings (fun b => { b with latch := true }) inSetup).ctl.settings.level = 2
    ∧ (after (.lockSet 1) inSetup).ctl.settings.level = 1 ∧ inSetup.ctl.lines.keylock.qualified = false
    ∧ inSetup.ctl.settings.level = 0 ∧ (withSettings (fun b => { b with siteCell := some 3 }) inSetup).ctl.settings.siteCell.isSome = true := by
  decide +kernel

/-- The ends of an item's range, and a write that is read back. -/
theorem test_meets_ItemsTakeTheirRanges : (Item.bank 7).takes (.num 1000000) ∧ ¬ (Item.bank 7).takes (.num 999950)
    ∧ Item.regionSize.takes (.num 64) ∧ ¬ Item.regionSize.takes (.num 65) ∧ (Item.map 23).takes (.map 1 30 4 1)
    ∧ ¬ (Item.map 23).takes (.map 1 31 4 1) ∧ (Item.window 5).takes (.window (some (1439, 2000000, 1)))
    ∧ ¬ (Item.window 5).takes (.window (some (1440, 0, 0))) ∧ Item.cabinetSerial.takes (.num (2 ^ 48 - 1)) ∧ ¬ Item.lockLevel.takes (.num 0) := by
  refine ⟨⟨by decide, by decide, by decide⟩, fun h => absurd h.2.2 (by decide), by unfold Item.takes; decide, ?_,
    ⟨by decide, by decide, by decide, by decide, by decide, by decide⟩, fun h => absurd h.2.2.1 (by decide),
    ⟨by decide, by decide, by decide⟩, fun h => absurd h.1 (by decide), ⟨_, rfl, by decide, by decide⟩, fun ⟨_, h, _⟩ => nomatch h⟩
  unfold Item.takes
  decide

theorem test_meets_WrittenItemIsReadBack : ∃ w', (Working.mk mapped none none).write .vHys (.num 200) = some w'
    ∧ inSetup.ctl.settings.working = some (Working.mk mapped none none) ∧ Item.vHys ≠ .siteNumber ∧ Item.vHys ≠ .cabinetSerial
    ∧ ({ inSetup.ctl.settings with working := some w' } : SettingsBlock).read .vHys = .num 200 :=
  ⟨_, rfl, rfl, by decide, by decide, rfl⟩

theorem test_meets_SettingWriteOutsideSetup : (∀ w0 : Working, (w0.write .guardBand (.num 50000)).isSome = true)
    ∧ (∀ w0 : Working, w0.write .guardBand (.num 50001) = none) ∧ itemOf 0 1 none = some .guardBand
    ∧ site.ctl.settings.working = none :=
  ⟨fun _ => rfl, fun _ => rfl, rfl, rfl⟩

theorem test_meets_LockLevelsAreRaisedAndLowered : inSetup.ctl.taking = true ∧ inSetup.ctl.settings.commit = none
    ∧ inSetup.ctl.settings.working = some (Working.mk mapped none none) ∧ mapped.level = .OPEN ∧ inSetup.ctl.settings.latch = false
    ∧ inSetup.ctl.settings.fuseCell = none
    ∧ (withSettings (fun b => { b with fuseCell := some Tariff.factory }) inSetup).ctl.settings.fuseCell.isSome = true
    ∧ (withSettings (fun b => { b with latch := true }) inSetup).ctl.settings.latch = true
    ∧ (after (.lockSet 1) inSetup).ctl.settings.workingLevel = some .KEYED
    ∧ (lineAt .keylock true true inSetup).ctl.lines.keylock.qualified = true ∧ committing.ctl.settings.commit.isSome = true
    ∧ site.ctl.settings.working = none := by decide +kernel

theorem test_meets_SetupEndValidatesAndCommits :
    let x1 := { mapped with bays := mapped.bays.set 23 { BaySettings.factory with pMin := 7361 } }
    let x2 := { mapped with bays := mapped.bays.set 2 (bayOf 1 false) }
    let w : ReserveWindow := { start := 0, floor := 0, gridCharge := false }
    let x3 := { mapped with windows := (mapped.windows.set 0 (some w)).set 5 (some w) }
    inSetup.ctl.settings.working = some (Working.mk mapped none none) ∧ mapped.invalid inSetup.ctl.credit = none
      ∧ (x1.bays.get 23).pMax < (x1.bays.get 23).pMin ∧ x1.powerFault = some 23
      ∧ x2.powerFault = none ∧ x2.mapFault = some 2
      ∧ x3.mapFault = none ∧ x3.windowFault = some 5
      ∧ { mapped with vLow := 2300, vHigh := 2300, vHys := 1 }.vHigh < 2300 + 2 * 1
      ∧ (withRecord 9 (recordIn .LIVE) inSetup).ctl.credit.wrongSide { Region.factory with complement := true } = some 9 := by
  decide +kernel

theorem test_meets_CommitStoresTheWorkingCopy : committing.ctl.taking = true ∧ committing.ctl.settings.commit.isSome = true
    ∧ committing.ctl.settings.working = some (Working.mk mapped none none)
    ∧ (withSettings (fun b => { b with stored := Settings.factory }) committing).ctl.settings.stored.bays.get 0 ≠ mapped.bays.get 0 := by
  decide +kernel

/-- A commit that maps bay 3 to an outlet of a node: the pedestal, which carries outlets 1 and 2 alone, or an address left ABSENT. -/
def remapping (node : Addr) (ix : OutIx) : State :=
  let b3 : BaySettings := { BaySettings.factory with map := { valid := true, node := node, outlet := ix, managed := true } }
  withSettings (fun b => { b with working := some { settings := { mapped with bays := mapped.bays.set 2 b3 }, siteNumber := none
                                                    serial := none } }) committing

theorem test_meets_CommitChecksTheMap :
    (∀ p ∈ [((9 : Addr), (0 : OutIx), OfflineCause.NOT_SEEN), (0, 1, .NOT_SEEN), (0, 2, .MAP_MISMATCH), (1, 0, .MAP_MISMATCH)],
      ((after .commitComplete (remapping p.1 p.2.1)).ctl.outlet 2).offlineCause = some p.2.2)
    ∧ ((remapping 9 0).ctl.node 9).state = .ABSENT ∧ ((remapping 0 1).ctl.node 0).outlets = 2
    ∧ ((remapping 0 1).ctl.node 0).kind = some .PEDESTAL ∧ ((remapping 0 1).ctl.node 0).state = .PRESENT
    ∧ (remapping 0 1).ctl.settings.stored.bays.get 2 = BaySettings.factory := by decide +kernel

theorem test_meets_FailingTransfersAreRefused :
    checkTransfer [0x02#8, 0x30#8, 0xCE#8] = .good .poolRead ∧ checkTransfer [0x02#8, 0x30#8, 0xCF#8] = .badFrame
    ∧ checkTransfer [0x02#8, 0x31#8, 0xCE#8] = .badFrame ∧ checkTransfer [0x02#8, 0x17#8, 0xE7#8] = .unknownCommand
    ∧ checkTransfer [0x03#8, 0x30#8, 0x00#8, 0xCD#8] = .badParam ∧ knownCode 0x17 = false ∧ flagOf? 2 = none
    ∧ site.ctl.taking = true := by decide +kernel

theorem test_meets_TransferOfACommandIsThatCommand :
    (∀ i ∈ [Instr.settingWrite 0 0 (some 7) (.num (-2147483648)), .linkFrame 255 (List.replicate 59 7#8), .amend 5 6 none (some 3),
        .setTime 4294967295],
      i.wf = true ∧ formed i = true ∧ checkTransfer (transfer i) = .good i) := by decide +kernel

theorem test_meets_SiteTimeIsSetAndAdvances : site.ctl.taking = true ∧ unpowered.ctl.run.supplyOn = false
    ∧ unpowered.ctl.run.marker = true ∧ site.ctl.run.siteTime < 4294967295
    ∧ 4294967295 ≤ (after (.setTime 4294967295) site).ctl.run.siteTime
    ∧ (after (.mainSupplyFall false) site).ctl.run.marker = false
    ∧ (after (.mainSupplyFall false) site).ctl.run.supplyOn = false := by decide +kernel

theorem test_meets_WarmResetGivesResetValues : (inSession 0 .CHARGING).ctl.taking = true
    ∧ ((inSession 0 .CHARGING).ctl.outlet 0).session.isSome = true ∧ (site.ctl.outlet 1).session = none
    ∧ (after .reset (inSession 0 .CHARGING)).ctl.lines.stopAll = (Line.mk false false none)
    ∧ (after .reset (lineAt .stopAll true true site)).ctl.lines.stopAll = (Line.mk true false (some 20))
    ∧ (after .resetLineAsserted (inSession 0 .CHARGING)).ctl.run.supplyOn = true ∧ unpowered.ctl.run.supplyOn = false := by
  decide +kernel

/-- A record on the wrong side of the pass region, alone in the table: a slot on its side is FREE in the first, none in the second. -/
def misplaced (size : Nat) : Controller :=
  (withRecord 0 (recordIn .SPENT) (withSettings (fun b => { b with stored := { b.stored with
    region := { size := size, top := false, complement := false } } }) site)).ctl

theorem test_meets_CreditAfterReset : ∀ size ∈ [32, 1024],
    (misplaced size).recordAtReset 0 = recordIn .SPENT ∧ (misplaced size).settings.stored.region.side .RECEIPT 0 = false
      ∧ ((misplaced size).recordAtReset 32).state = .FREE
      ∧ ((misplaced size).settings.stored.region.side .RECEIPT 32 = true ↔ size = 32) := by decide +kernel

theorem test_meets_PowerCutsAndPowerOnReset : site.ctl.run.supplyOn = true
    ∧ (∀ good ∈ [true, false], (after (.mainSupplyFall good) committing).ctl.run.supplyOn = false
      ∧ (after (.mainSupplyFall good) committing).ctl.run.marker = good
      ∧ (after (.mainSupplyFall good) committing).ctl.settings.storeTorn = true)
    ∧ (after (.mainSupplyFall true) site).ctl.settings.storeTorn = false
    ∧ (withSettings (fun b => { b with fuseCell := some Tariff.factory }) site).ctl.settings.fuseCell = some Tariff.factory := by
  decide +kernel

end Sys2Proof.Tests
end

section
/-! SUPPORT. What a step can do to the credit table: the moves, and that every command, event and idle step makes none but these. -/

namespace Sys2Proof.Machine

/-! ### The moves of the credit table -/

/-- What a rule can make of a record in its slot: AMEND (R12, R13), VOID (R14, R15), a read (R17), a lapse (R19, R26), a bind (R20), a draw
(R23, R24) and an unbind (R21, R22). -/
inductive RecordEdit : Record → Record → Prop where
  | amend {r : Record} (add : Nat) (expiry tier : Option Nat) (valid : Bool) (now : Nat) (h : r.amendRefused = false) :
      RecordEdit r ((r.addCredit (r.accepts add) expiry tier).amendState valid now (r.accepts add) expiry)
  | void {r : Record} (hf : r.state ≠ .FREE) (hb : r.state ≠ .BOUND) : RecordEdit r r.voidNow
  | voidBound {r : Record} (h : r.state = .BOUND) : RecordEdit r r.voidBound
  | read (r : Record) : RecordEdit r { r with changed := false }
  | lapse {r : Record} (h : r.state = .LIVE) : RecordEdit r r.lapse
  | bind {r : Record} (b : Bay) (h : r.state = .LIVE) : RecordEdit r (r.bind b)
  | draw {r : Record} (d p b g e uncovered : Nat) : RecordEdit r ((r.applyDraw d).addDraw p b g e uncovered)
  | unbind {r : Record} (valid : Bool) (now : Nat) (atReset : Bool) (h : r.state = .BOUND) : RecordEdit r (r.unbind valid now atReset)

/-- What a rule can make of the credit table: one record edited, every record edited or left, a slot freed, a record issued under a code
that the index does not hold (R11), a record relocated to a FREE slot (R9), and every slot freed (R29). -/
inductive CreditMove (t : CreditTable) : CreditTable → Prop where
  | edit (k : SlotNo) {r : Record} (h : RecordEdit (t.slots.get k) r) : CreditMove t { slots := t.slots.set k r }
  | editAll (f : Record → Record) (h : ∀ r, f r = r ∨ RecordEdit r (f r)) : CreditMove t { slots := t.slots.map f }
  | free (k : SlotNo) : CreditMove t { slots := t.slots.set k .free }
  | issue (k : SlotNo) (code till tier credit now expiry : Nat) (kind : RecordKind) (single : Bool) (hc : code ≠ 0)
      (hn : t.findCode code = none) (hm : credit ≤ 2000000) :
      CreditMove t { slots := t.slots.set k (Record.issued code till tier credit now expiry kind single) }
  | relocate (j k : SlotNo) (h : (t.slots.get j).state = .FREE) :
      CreditMove t { slots := (t.slots.set j { t.slots.get k with changed := true }).set k .free }
  | initialise : CreditMove t { slots := Table.replicate 1024 .free }

/-- The credit table of one controller becomes that of another by moves. -/
abbrev Controller.moves (c c' : Controller) : Prop := Relation.ReflTransGen CreditMove c.credit c'.credit

theorem moves_of_credit_eq {c c' : Controller} (h : c'.credit = c.credit) : c.moves c' := by
  rw [Controller.moves, h]

/-! ### What an edit and a move keep -/

theorem amendState_code (r : Record) (valid : Bool) (now a : Nat) (e : Option Nat) : (r.amendState valid now a e).code = r.code := by
  unfold Record.amendState; repeat' split
  all_goals rfl

theorem amendState_free_iff (r : Record) (valid : Bool) (now a : Nat) (e : Option Nat) :
    (r.amendState valid now a e).state = .FREE ↔ r.state = .FREE := by
  unfold Record.amendState; repeat' split
  all_goals simp_all

theorem unbind_code (r : Record) (valid : Bool) (now : Nat) (atReset : Bool) : (r.unbind valid now atReset).code = r.code := by
  unfold Record.unbind; dsimp only; repeat' split
  all_goals rfl

theorem unbind_state_ne_free (r : Record) (valid : Bool) (now : Nat) (atReset : Bool) : (r.unbind valid now atReset).state ≠ .FREE := by
  unfold Record.unbind; dsimp only; repeat' split
  all_goals simp

/-- An edit keeps the record's code. -/
theorem RecordEdit.code_eq {r r' : Record} (h : RecordEdit r r') : r'.code = r.code := by
  cases h with
  | amend => exact amendState_code _ _ _ _ _
  | unbind => exact unbind_code _ _ _ _
  | _ => rfl

/-- An edit neither frees a record nor makes one of a FREE slot. -/
theorem RecordEdit.free_iff {r r' : Record} (h : RecordEdit r r') : r'.state = .FREE ↔ r.state = .FREE := by
  cases h with
  | amend => exact amendState_free_iff _ _ _ _ _
  | unbind _ _ _ hb => simp [unbind_state_ne_free, hb]
  | void hf _ => simp [Record.voidNow, hf]
  | voidBound | read | draw => rfl
  | lapse hl | bind _ hl => simp [Record.lapse, Record.bind, hl]

/-- AMEND keeps the balance: what it accepts goes to granted and to remaining, and granted stays within its limit (R12). -/
theorem amend_balanced {r : Record} (add : Nat) (e tier : Option Nat) (valid : Bool) (now : Nat) (h : r.amendRefused = false)
    (hb : r.balanced) : ((r.addCredit (r.accepts add) e tier).amendState valid now (r.accepts add) e).balanced := by
  obtain ⟨hsum, hmax, hvoided, hpending⟩ := hb
  have hle : r.granted + r.accepts add ≤ 2000000 := by simp only [Record.accepts, Config.creditMax]; omega
  have hnp : r.voidPending = false := by
    by_contra hp
    obtain ⟨hbound, -⟩ := hpending (by simpa using hp)
    simp_all [Record.amendRefused]
  have hnv : r.state ≠ .VOIDED := by
    intro hv
    simp [Record.amendRefused, hv] at h
  have hcredit : (r.addCredit (r.accepts add) e tier).balanced :=
    ⟨by simp only [Record.addCredit]; omega, hle, fun hv => absurd hv hnv, fun hp => absurd (hnp.symm.trans hp) (by decide)⟩
  have hmoved : ∀ st reason, st ≠ .VOIDED →
      ({ r.addCredit (r.accepts add) e tier with state := st, spendReason := reason } : Record).balanced := fun st reason hst =>
    ⟨hcredit.1, hle, fun hv => absurd hv hst, fun hp => absurd (hnp.symm.trans hp) (by decide)⟩
  unfold Record.amendState
  split
  · split
    · exact hmoved .LIVE _ (by decide)
    · exact hcredit
  · split
    · exact hcredit
    · split
      · exact hmoved .LAPSED none (by decide)
      · exact hmoved .LIVE none (by decide)
  · exact hcredit

/-- An unbind keeps the balance: only a void_pending record, whose remaining credit is 0, goes VOIDED, and what a single use leaves is
forfeited (R22). -/
theorem unbind_balanced {r : Record} (valid : Bool) (now : Nat) (atReset : Bool) (hb : r.balanced) :
    (r.unbind valid now atReset).balanced := by
  obtain ⟨hsum, hmax, -, hpending⟩ := hb
  unfold Record.unbind
  dsimp only
  split
  · next hp => exact ⟨hsum, hmax, fun _ => (hpending hp).2, by simp [Record.release]⟩
  · repeat' split
    all_goals refine ⟨?_, hmax, by simp, by simp [Record.release]⟩
    all_goals simp only [Record.release]; omega

/-- An edit keeps a record's credit in balance (R3). -/
theorem RecordEdit.balanced {r r' : Record} (h : RecordEdit r r') (hb : r.balanced) : r'.balanced := by
  cases h with
  | amend add e tier valid now h => exact amend_balanced add e tier valid now h hb
  | unbind valid now atReset _ => exact unbind_balanced valid now atReset hb
  | _ =>
    obtain ⟨hsum, hmax, hvoided, hpending⟩ := hb
    simp only [Record.balanced, Record.voidNow, Record.voidBound, Record.forfeit, Record.lapse, Record.bind, Record.addDraw, Record.applyDraw]
    grind

theorem free_balanced : Record.free.balanced := ⟨rfl, by decide, by decide, by decide⟩

/-- A move keeps every record's credit in balance (R3). -/
theorem CreditMove.balanced {t t' : CreditTable} (h : CreditMove t t') (hb : ∀ k, (t.slots.get k).balanced) (k : SlotNo) :
    (t'.slots.get k).balanced := by
  cases h with
  | edit j he =>
    rw [Table.get_set]
    split
    · exact he.balanced (hb j)
    · exact hb k
  | editAll f hf =>
    rw [Table.get_map]
    rcases hf (t.slots.get k) with h | h
    · rw [h]; exact hb k
    · exact h.balanced (hb k)
  | free j =>
    rw [Table.get_set]
    split
    · exact free_balanced
    · exact hb k
  | issue j code till tier credit now expiry kind single hc hn hm =>
    rw [Table.get_set]
    split
    · exact ⟨rfl, hm, by simp [Record.issued], by simp [Record.issued, Record.free]⟩
    · exact hb k
  | relocate i j _ =>
    rw [Table.get_set]
    split
    · exact free_balanced
    · rw [Table.get_set]
      split
      · exact hb j
      · exact hb k
  | initialise => rw [Table.get_replicate]; exact free_balanced

/-- The codes of non-FREE records are nonzero and unique (R6), said of the credit table. -/
def CreditTable.codesUnique (t : CreditTable) : Prop :=
  (∀ k, (t.slots.get k).state ≠ .FREE → (t.slots.get k).code ≠ 0)
    ∧ ∀ j k, (t.slots.get j).state ≠ .FREE → (t.slots.get k).state ≠ .FREE → (t.slots.get j).code = (t.slots.get k).code → j = k

theorem uniqueCodes_iff (c : Controller) : c.uniqueCodes ↔ c.credit.codesUnique := Iff.rfl

/-- A table whose non-FREE records each hold the code of a non-FREE record of another table, no two of the same one, has unique codes where
the other has. -/
theorem codesUnique_of_source {t t' : CreditTable} (source : SlotNo → SlotNo) (h : t.codesUnique)
    (hs : ∀ k, (t'.slots.get k).state ≠ .FREE →
      (t.slots.get (source k)).state ≠ .FREE ∧ (t'.slots.get k).code = (t.slots.get (source k)).code)
    (hinj : ∀ j k, (t'.slots.get j).state ≠ .FREE → (t'.slots.get k).state ≠ .FREE → source j = source k → j = k) : t'.codesUnique := by
  obtain ⟨hnz, huniq⟩ := h
  refine ⟨fun k hk => ?_, fun j k hj hk hjk => ?_⟩
  · obtain ⟨hf, hcode⟩ := hs k hk
    exact hcode ▸ hnz _ hf
  · obtain ⟨hfj, hcj⟩ := hs j hj
    obtain ⟨hfk, hck⟩ := hs k hk
    exact hinj j k hj hk (huniq _ _ hfj hfk (hcj ▸ hck ▸ hjk))


/-- The code index names a non-FREE record that holds the code, and no record for code 0 (R6). -/
theorem findCode_some {t : CreditTable} {code : Nat} {k : SlotNo} (h : t.findCode code = some k) :
    (t.slots.get k).state ≠ .FREE ∧ (t.slots.get k).code = code ∧ code ≠ 0 := by
  unfold CreditTable.findCode at h
  split at h
  · cases h
  · next hz =>
    have hk := (Table.lowest_some h).1
    simp only [Bool.and_eq_true, bne_iff_ne, beq_iff_eq] at hk
    exact ⟨hk.1, hk.2, hz⟩

/-- The code index names no record exactly for code 0 and for a code that no non-FREE record holds (R6). -/
theorem findCode_none_iff {t : CreditTable} {code : Nat} :
    t.findCode code = none ↔ code = 0 ∨ ∀ k, (t.slots.get k).state = .FREE ∨ (t.slots.get k).code ≠ code := by
  constructor
  · intro h
    unfold CreditTable.findCode at h
    split at h
    · next hz => exact .inl hz
    · refine .inr fun k => ?_
      have hk := Table.lowest_none h k
      simp only [Bool.and_eq_false_iff, bne_eq_false_iff_eq, beq_eq_false_iff_ne] at hk
      exact hk
  · intro h
    cases hf : t.findCode code with
    | none => rfl
    | some k =>
      obtain ⟨hs, hc, hz⟩ := findCode_some hf
      rcases h with h | h
      · exact absurd h hz
      · rcases h k with h | h
        · exact absurd h hs
        · exact absurd hc h

/-- An issue under a code that the index does not hold keeps the codes unique (R6, R11). -/
theorem issue_codesUnique {t : CreditTable} (k : SlotNo) {r : Record} (hz : r.code ≠ 0) (hn : t.findCode r.code = none)
    (h : t.codesUnique) : CreditTable.codesUnique { slots := t.slots.set k r } := by
  have hfresh : ∀ j, (t.slots.get j).state ≠ .FREE → (t.slots.get j).code ≠ r.code := fun j hj =>
    ((findCode_none_iff.mp hn).resolve_left hz j).resolve_left hj
  obtain ⟨hnz, huniq⟩ := h
  refine ⟨fun i hi => ?_, fun i j hi hj hij => ?_⟩
  · rw [Table.get_set] at hi ⊢
    split at hi <;> simp_all
  · rw [Table.get_set] at hi hij
    rw [Table.get_set] at hj hij
    by_cases hik : k = i
    · subst hik
      by_cases hjk : k = j
      · exact hjk
      · simp only [hjk, if_false, if_true] at hj hij
        exact absurd hij.symm (hfresh j hj)
    · simp only [hik, if_false] at hi hij
      by_cases hjk : k = j
      · simp only [hjk, if_true] at hij
        exact absurd hij (hfresh i hi)
      · simp only [hjk, if_false] at hj hij
        exact huniq i j hi hj hij

/-- A move keeps the codes of non-FREE records nonzero and unique (R6). -/
theorem CreditMove.codesUnique {t t' : CreditTable} (h : CreditMove t t') (hu : t.codesUnique) : t'.codesUnique := by
  cases h with
  | edit j he =>
    refine codesUnique_of_source id hu (fun k hk => ?_) fun _ _ _ _ => id
    rw [Table.get_set] at hk ⊢
    split at hk
    · next hjk => subst hjk; exact ⟨fun hf => hk (he.free_iff.mpr hf), by simpa using he.code_eq⟩
    · next hjk => exact ⟨hk, by simp [hjk]⟩
  | editAll f hf =>
    refine codesUnique_of_source id hu (fun k hk => ?_) fun _ _ _ _ => id
    rw [Table.get_map] at hk ⊢
    rcases hf (t.slots.get k) with h | h
    · rw [h] at hk ⊢; exact ⟨hk, rfl⟩
    · exact ⟨fun hf => hk (h.free_iff.mpr hf), h.code_eq⟩
  | free j =>
    refine codesUnique_of_source id hu (fun k hk => ?_) fun _ _ _ _ => id
    rw [Table.get_set] at hk ⊢
    split at hk
    · exact absurd rfl hk
    · next hjk => exact ⟨hk, by simp [hjk]⟩
  | issue k code till tier credit now expiry kind single hc hn _ => exact issue_codesUnique k hc hn hu
  | relocate i j hfree =>
    have hget : ∀ k, (((t.slots.set i { t.slots.get j with changed := true }).set j Record.free).get k) =
        if j = k then .free else if i = k then { t.slots.get j with changed := true } else t.slots.get k := fun k => by
      rw [Table.get_set, Table.get_set]
    refine codesUnique_of_source (fun k => if i = k then j else k) hu (fun k hk => ?_) fun k l hk hl hkl => ?_
    · rw [hget] at hk ⊢
      split at hk
      · exact absurd rfl hk
      · next hjk =>
        split at hk
        · next hik => simp [hik, hjk]; exact hk
        · next hik => simp [hik, hjk]; exact hk
    · rw [hget] at hk hl
      have hkj : j ≠ k := fun e => hk (by rw [if_pos e]; rfl)
      have hlj : j ≠ l := fun e => hl (by rw [if_pos e]; rfl)
      split at hkl <;> split at hkl <;> simp_all
  | initialise => exact ⟨fun k hk => absurd (by rw [Table.get_replicate]; rfl) hk, fun j k hj => absurd (by rw [Table.get_replicate]; rfl) hj⟩

end Sys2Proof.Machine
end

section
/-! SUPPORT. The shared operations, draws, presentation and the outlet supervisor move the credit table by its moves alone. -/

namespace Sys2Proof.Machine

/-! ### The shared operations -/

theorem moves_trans {c d e : Controller} (h : c.moves d) (h' : d.moves e) : c.moves e := Relation.ReflTransGen.trans h h'

/-- One record edited. -/
theorem updRecord_moves {c : Controller} {k : SlotNo} {f : Record → Record} (h : RecordEdit (c.record k) (f (c.record k))) :
    c.moves (c.updRecord k f) := .single (.edit k h)

/-- What every bay's change does by moves, the change of all of them does. -/
theorem forBays_moves {f : Bay → Controller → Controller} (h : ∀ b (c : Controller), c.moves (f b c)) (c : Controller) : c.moves (forBays f c) :=
  forBays_keeps (fun d : Controller => c.moves d) (fun b d hd => moves_trans hd (h b d)) .refl

/-- A change of every bay that leaves the credit table alone. -/
theorem forBays_credit {f : Bay → Controller → Controller} (h : ∀ b (c : Controller), (f b c).credit = c.credit) (c : Controller) :
    (forBays f c).credit = c.credit :=
  forBays_keeps (fun d => d.credit = c.credit) (fun b d hd => (h b d).trans hd) rfl

theorem unbind_moves (c : Controller) (k : SlotNo) (atReset : Bool) (x : Cause) : c.moves (c.unbind k atReset x) := by
  unfold Controller.unbind
  split
  · next hb => split <;> exact .single (.edit k (.unbind _ _ _ hb))
  · exact .refl

theorem endSession_moves (c : Controller) (b : Bay) (r : EndReason) (st : OutletState) : c.moves (c.endSession b r st) := by
  cases hs : (c.outlet b).session with
  | none => rw [endSession_none hs]
  | some ss =>
    refine moves_trans (d := match ss.boundSlot with
      | some k => (c.updOutlet b Outlet.closeTail).unbind k (r == EndReason.RESET) .receiptUnbind
      | none => c.updOutlet b Outlet.closeTail) ?_ (moves_of_credit_eq ?_)
    · cases ss.boundSlot with
      | none => exact .refl
      | some k => exact unbind_moves (c.updOutlet b Outlet.closeTail) k _ _
    · simp only [Controller.endSession, hs]
      cases ss.boundSlot <;> split <;> simp

theorem withdrawFunding_moves (c : Controller) (b : Bay) : c.moves (c.withdrawFunding b) := by
  unfold Controller.withdrawFunding
  dsimp only
  split
  · exact moves_of_credit_eq (by simp)
  · exact moves_trans (moves_of_credit_eq (by simp)) (endSession_moves (c.tellNode b .FUNDING_ENDED) b _ _)

theorem fault_moves (c : Controller) (b : Bay) (x : FaultCause) : c.moves (c.fault b x) := by
  refine moves_trans (endSession_moves c b .FAULT .FAULT) (moves_of_credit_eq ?_)
  simp only [Controller.fault]
  split <;> simp

/-! ### Credit table, draws and presentation -/

/-- The slot that a key names holds a record that is not FREE. -/
theorem keySlot_ok {c : Controller} {key : RecordKey} {k : SlotNo} (h : c.keySlot key = .ok k) : (c.record k).state ≠ .FREE := by
  unfold Controller.keySlot at h
  split at h <;> split at h
  · next hc => cases h; exact (findCode_some hc).1
  · cases h
  · cases h
  · split at h
    · cases h
    · next hk => cases h; exact hk

theorem issue_moves (cmd code till tier credit validity : Nat) (kind : RecordKind) (single : Bool) (c : Controller) :
    c.moves (c.issue cmd code till tier credit validity kind single) := by
  unfold Controller.issue
  dsimp only
  split
  · exact .refl
  · next hp =>
    simp only [issueParams, Bool.not_eq_true', Bool.not_eq_false, Bool.and_eq_true, decide_eq_true_eq] at hp
    obtain ⟨⟨hcode, -, -, -, -, hmax, -⟩, -⟩ := hp
    split
    · exact .refl
    · split
      · exact .refl
      · split
        · exact .refl
        · next hn =>
          split
          · exact .refl
          · exact .single (.issue _ code till tier credit _ _ kind single hcode (by simpa using hn) hmax)

theorem readRecord_moves (c : Controller) (cmd : Nat) (k : SlotNo) : c.moves (c.readRecord cmd k) :=
  updRecord_moves (f := fun r => { r with changed := false }) (.read _)

theorem sweep_moves (c : Controller) (now : Nat) : c.moves (c.sweep now) := by
  have hedit : ∀ r, Record.sweep now r = r ∨ RecordEdit r (Record.sweep now r) := fun r => by
    unfold Record.sweep
    split
    · next h => exact .inr (.lapse h.1)
    · exact .inl rfl
  unfold Controller.sweep
  dsimp only
  split <;> exact .single (.editAll _ hedit)

theorem handWithdrawal_moves (c : Controller) (b : Bay) (k : SlotNo) : c.moves (c.handWithdrawal b k) := by
  unfold Controller.handWithdrawal
  repeat' split
  · exact withdrawFunding_moves c b
  · exact .refl
  · exact .refl

theorem takeDraw_moves (d : Draw) (c : Controller) : c.moves (c.takeDraw d) := by
  unfold Controller.takeDraw
  split
  · exact .refl
  · next k _ =>
    split
    · exact .refl
    · dsimp only
      have hdraw : c.moves (c.updRecord k fun r => (r.applyDraw d.d).addDraw d.p d.b d.g (d.p + d.b + d.g)
          (d.d - min d.d (c.record k).remaining)) := updRecord_moves (.draw _ _ _ _ _ _)
      have hend : ∀ x : Controller, c.moves x → c.moves (if d.d < (c.record k).remaining then x
          else if c.holdsSlot d.bay k then (x.unbind k false .receiptExhausted).withdrawFunding d.bay
            else x.unbind k false .receiptExhausted) := fun x hx => by
        have hu := moves_trans hx (unbind_moves x k false .receiptExhausted)
        split
        · exact hx
        · split
          · exact moves_trans hu (withdrawFunding_moves _ _)
          · exact hu
      refine hend _ ?_
      split <;> exact hdraw

theorem takeOldestDraw_moves (c : Controller) : c.moves c.takeOldestDraw := by
  unfold Controller.takeOldestDraw
  split
  · exact .refl
  · next d ds _ => exact takeDraw_moves d { c with pool := { c.pool with draws := ds } }

theorem takeAllDraws_moves (c : Controller) : c.moves c.takeAllDraws := by
  have h : ∀ (l : List Draw) (x : Controller), x.moves (l.foldl (fun c d => c.takeDraw d) x) := fun l => by
    induction l with
    | nil => exact fun x => .refl
    | cons d l ih => exact fun x => moves_trans (takeDraw_moves d x) (ih _)
  exact h c.pool.draws { c with pool := { c.pool with draws := [] } }

theorem openSession_moves (c : Controller) (b : Bay) (k : FundingKind) (sl : Option SlotNo) (cap : Nat) :
    c.moves (c.openSession b k sl cap) := moves_of_credit_eq (openSession_leaves c b k sl cap).1

theorem presentCode_moves (c : Controller) (b : Bay) (code : Nat) : c.moves (c.presentCode b code).2.2.2 := by
  unfold Controller.presentCode
  split
  · exact .refl
  · next k _ =>
    dsimp only
    split
    any_goals exact .refl
    next hlive =>
    split
    · exact updRecord_moves (.lapse hlive)
    · split
      · exact .refl
      · split
        · exact .refl
        · exact moves_trans (updRecord_moves (.bind b hlive))
            (openSession_moves ((c.updRecord k (Record.bind b)).raise .receiptBind) b .CREDIT (some k) 0)

theorem presentAt_moves (c : Controller) (b : Bay) (code : Nat) : c.moves (c.presentAt b code).2.2.2 := by
  unfold Controller.presentAt
  split
  · exact .refl
  · split
    · exact .refl
    · split
      · exact moves_trans (takeAllDraws_moves c) (presentCode_moves _ b code)
      all_goals exact .refl

/-! ### Outlets and reports -/

theorem removeReason_moves (c : Controller) (b : Bay) (r : PauseReason) : c.moves (c.removeReason b r) :=
  moves_of_credit_eq (removeReason_leaves c b r).1

theorem addReason_moves (c : Controller) (b : Bay) (r : PauseReason) : c.moves (c.addReason b r) :=
  moves_of_credit_eq (addReason_leaves c b r).1

theorem enter_moves (c : Controller) (b : Bay) (st : OutletState) : c.moves (c.enter b st) := moves_of_credit_eq (enter_leaves c b st).1

theorem switchToPaid_moves (c : Controller) (b : Bay) (cap : Nat) : c.moves (c.switchToPaid b cap) := by
  unfold Controller.switchToPaid
  dsimp only
  refine moves_trans ?_ (removeReason_moves _ _ _)
  split
  · exact unbind_moves c _ _ _
  · exact .refl

theorem paidAuthAt_moves (c : Controller) (b : Bay) (cap : Nat) : c.moves (c.paidAuthAt b cap).2 := by
  unfold Controller.paidAuthAt
  dsimp only
  split
  · exact .refl
  · split
    · exact .refl
    · split
      · exact switchToPaid_moves c b cap
      · split
        · split
          · exact openSession_moves c b _ _ _
          · exact .refl
        · split <;> exact .refl

theorem customerStopAt_moves (c : Controller) (b : Bay) : c.moves (c.customerStopAt b).2 := by
  unfold Controller.customerStopAt
  dsimp only
  split
  · exact .refl
  · split
    · exact endSession_moves c b _ _
    · exact .refl

theorem meter_credit (c : Controller) (b : Bay) (reading stamp : Nat) : (c.meter b reading stamp).credit = c.credit := by
  unfold Controller.meter
  cases (c.outlet b).baseline with
  | none => rfl
  | some base => exact (apply_ite Controller.credit _ _ _).trans (ite_self _)

theorem powerStep_moves (c : Controller) (b : Bay) (w : Int) : c.moves (c.powerStep b w) := by
  unfold Controller.powerStep
  split
  · unfold Controller.startCheck
    dsimp only
    split
    · exact fault_moves c b _
    · split <;> exact .refl
  all_goals exact .refl

theorem sessionEntry_moves (c : Controller) (b : Bay) (e : OutletReading) : c.moves (c.sessionEntry b e) := by
  unfold Controller.sessionEntry
  split
  · exact endSession_moves c b _ _
  · refine moves_trans (moves_trans (d := c.customerPause b e.customerPause) ?_ ?_) (powerStep_moves _ _ _)
    · unfold Controller.customerPause
      split
      · exact addReason_moves c b _
      · exact removeReason_moves c b _
    · unfold Controller.vehicleDone
      dsimp only
      split
      · exact endSession_moves _ b _ _
      · exact .refl

theorem heardEntry_moves (c : Controller) (b : Bay) (e : OutletReading) : c.moves (c.heardEntry b e) := by
  unfold Controller.heardEntry
  refine moves_trans (moves_of_credit_eq (meter_credit c b e.meter c.run.ms)) ?_
  generalize c.meter b e.meter c.run.ms = d
  dsimp only
  split
  · exact fault_moves d b _
  · split
    · split
      · exact enter_moves d b _
      · exact .refl
    · split
      · exact .refl
      · exact enter_moves d b _
    any_goals exact sessionEntry_moves d b e
    · split
      · exact powerStep_moves d b _
      · exact enter_moves d b _
    · exact .refl

theorem heard_moves (c : Controller) (b : Bay) (plugged : Bool) : c.moves (c.heard b plugged) := by
  unfold Controller.heard
  dsimp only
  split
  · apply moves_of_credit_eq
    split <;> split <;> simp
  · exact .refl

theorem outletEntry_moves (c : Controller) (b : Bay) (e : OutletReading) : c.moves (c.outletEntry b e) := by
  unfold Controller.outletEntry
  split
  · exact .refl
  · exact .refl
  · exact heardEntry_moves c b e

theorem bayFallsSilent_credit (c : Controller) (b : Bay) : (c.bayFallsSilent b).credit = c.credit := by
  unfold Controller.bayFallsSilent
  dsimp only
  split
  · rfl
  · split <;> rfl

theorem nodeFallsSilent_moves (c : Controller) (a : Addr) : c.moves (c.nodeFallsSilent a) := by
  unfold Controller.nodeFallsSilent
  refine moves_of_credit_eq ((judgeRelease_leaves _).1.trans (forBays_credit (fun b d => ?_) c))
  split
  · exact bayFallsSilent_credit d b
  · rfl

theorem linkLoss_moves (c : Controller) : c.moves c.linkLoss := by
  unfold Controller.linkLoss
  refine moves_trans (forBays_moves (fun b d => ?_) c) (moves_of_credit_eq (judgeRelease_leaves _).1)
  unfold Controller.bayLosesLink
  split
  · split
    · exact endSession_moves d b _ _
    · exact .refl
  · exact .refl

end Sys2Proof.Machine
end

section
/-! SUPPORT. The operations of the link, of rounds, STOP, resets and power move the credit table by its moves alone. -/

namespace Sys2Proof.Machine

/-! ### Changes of other blocks -/

/-- A change of the other blocks leaves the credit table alone. -/
theorem others_moves (c : Controller) (o : OutletTable) (p : Pool) (st : Storage) (l : Link) (se : SettingsBlock) (po : Port) (li : Lines)
    (r : RunControl) :
    c.moves { credit := c.credit, outlets := o, pool := p, storage := st, link := l, settings := se, port := po, lines := li, run := r } :=
  .refl

theorem updOutlet_moves (c : Controller) (b : Bay) (f : Outlet → Outlet) : c.moves (c.updOutlet b f) := others_moves ..
theorem updNode_moves (c : Controller) (a : Addr) (f : Node → Node) : c.moves (c.updNode a f) := others_moves ..
theorem updLink_moves (c : Controller) (f : Link → Link) : c.moves (c.updLink f) := others_moves ..
theorem updStorage_moves (c : Controller) (f : Storage → Storage) : c.moves (c.updStorage f) := others_moves ..
theorem updRun_moves (c : Controller) (f : RunControl → RunControl) : c.moves (c.updRun f) := others_moves ..
theorem raise_moves (c : Controller) (x : Cause) : c.moves (c.raise x) := others_moves ..
theorem setFault_moves (c : Controller) (x : FaultFlag) : c.moves (c.setFault x) := others_moves ..
theorem answerLate_moves (c : Controller) (n : Nat) (x : Status) (y : Body) : c.moves (c.answerLate n x y) := others_moves ..
theorem send_moves (c : Controller) (f : Sent) : c.moves (c.send f) := others_moves ..
theorem judgeRelease_moves (c : Controller) : c.moves c.judgeRelease := moves_of_credit_eq (judgeRelease_leaves c).1

/-! ### The link -/

theorem enterIdle_moves (c : Controller) : c.moves c.enterIdle := by
  unfold Controller.enterIdle
  dsimp only
  exact moves_trans (moves_trans (moves_trans (updLink_moves c _) (linkLoss_moves _)) (updStorage_moves _ _)) (answerLate_moves _ _ _ _)

theorem enterDown_moves (c : Controller) : c.moves c.enterDown := by
  unfold Controller.enterDown
  dsimp only
  exact moves_trans (moves_trans (moves_trans (moves_trans (updLink_moves c _) (setFault_moves _ _)) (raise_moves _ _)) (linkLoss_moves _))
    (others_moves ..)

theorem enterDiscovering_moves (c : Controller) : c.moves c.enterDiscovering := by
  unfold Controller.enterDiscovering
  dsimp only
  split
  · exact moves_trans (moves_trans (updLink_moves c _) (linkLoss_moves _)) (send_moves _ _)
  · exact moves_trans (updLink_moves c _) (send_moves _ _)

theorem probeStep_moves (c : Controller) : c.moves c.probeStep := by
  unfold Controller.probeStep
  split <;> exact .refl

theorem collapseStep_moves (c : Controller) : c.moves c.collapseStep := by
  unfold Controller.collapseStep
  dsimp only
  split
  · exact moves_trans (updLink_moves c _) (enterDown_moves _)
  · exact moves_trans (updLink_moves c _) (probeStep_moves _)

theorem afterVisits_moves (c : Controller) : c.moves c.afterVisits := by
  unfold Controller.afterVisits
  split
  · exact enterIdle_moves c
  · exact collapseStep_moves c

theorem visitFrom_moves (start : Nat) (c : Controller) : c.moves (c.visitFrom start) := by
  unfold Controller.visitFrom
  split
  · exact .refl
  · exact afterVisits_moves c

theorem beginCycle_moves (c : Controller) : c.moves c.beginCycle := visitFrom_moves 0 c

theorem endCycle_moves (c : Controller) : c.moves c.endCycle := by
  unfold Controller.endCycle
  exact moves_trans (updLink_moves c _) (beginCycle_moves _)

theorem afterWindow_moves (c : Controller) : c.moves c.afterWindow := by
  unfold Controller.afterWindow
  split
  · exact endCycle_moves c
  · exact .refl

theorem noticeStep_moves (a : Addr) (c : Controller) : c.moves (c.noticeStep a) := by
  unfold Controller.noticeStep
  split
  · exact .refl
  · exact visitFrom_moves _ c

theorem singleStep_moves (a : Addr) (c : Controller) : c.moves (c.singleStep a) := by
  unfold Controller.singleStep
  split
  · split
    · exact .refl
    · exact noticeStep_moves a c
  · split
    · exact .refl
    · exact noticeStep_moves a c
  · exact noticeStep_moves a c

theorem raiseStep_moves (a : Addr) (c : Controller) (l : List OutIx) : c.moves (c.raiseStep a l) := by
  rw [raiseStep_eq]
  split
  · exact singleStep_moves a c
  · exact .refl

theorem decreaseStep_moves (a : Addr) (c : Controller) (l : List OutIx) : c.moves (c.decreaseStep a l) := by
  rw [decreaseStep_eq]
  split
  · exact raiseStep_moves a c _
  · exact .refl

theorem visitNext_moves (a : Addr) (c : Controller) : c.moves (c.visitNext a) := by
  unfold Controller.visitNext
  split
  · exact decreaseStep_moves a c _
  · exact decreaseStep_moves a c _
  · exact raiseStep_moves a c _
  · exact noticeStep_moves a c

theorem startFinalCycle_moves (c : Controller) : c.moves c.startFinalCycle := by
  unfold Controller.startFinalCycle
  exact moves_trans (updLink_moves c _) (beginCycle_moves _)

theorem freezeAll_moves (frozen : Bool) (c : Controller) : c.moves (forBays (fun b c => c.updOutlet b (Outlet.freezeWindow frozen)) c) :=
  forBays_moves (fun b d => updOutlet_moves d b _) c

theorem grant_moves (c : Controller) : c.moves c.grant := by
  unfold Controller.grant
  dsimp only
  exact moves_trans (moves_trans (updLink_moves c _) (freezeAll_moves true _)) (answerLate_moves _ _ _ _)

theorem closeWindow_moves (c : Controller) : c.moves c.closeWindow := by
  unfold Controller.closeWindow
  dsimp only
  exact moves_trans (updLink_moves c _) (freezeAll_moves false _)

/-- What follows an exchange does by moves what its continuation does by moves. -/
theorem exchangeDone_moves {go : Controller → Controller} (h : ∀ c : Controller, c.moves (go c)) (c : Controller) :
    c.moves (c.exchangeDone go) := by
  unfold Controller.exchangeDone
  dsimp only
  split
  · exact moves_trans (updLink_moves c _) (startFinalCycle_moves _)
  · split
    · exact moves_trans (updLink_moves c _) (enterDiscovering_moves _)
    · split
      · exact moves_trans (updLink_moves c _) (grant_moves _)
      · exact moves_trans (updLink_moves c _) (h _)

theorem mapCheck_moves (c : Controller) (b : Bay) : c.moves (c.mapCheck b) := by
  unfold Controller.mapCheck
  dsimp only
  split
  · exact updOutlet_moves c b _
  · exact moves_trans (updOutlet_moves c b _) (raise_moves _ _)

theorem forgetAcked_moves (c : Controller) (k : Option NodeKind) : c.moves (c.forgetAcked k) := by
  unfold Controller.forgetAcked
  split
  · exact updStorage_moves c _
  · exact updStorage_moves c _
  · exact .refl

theorem enterNode_moves (c : Controller) (a : Addr) (id : Identity) : c.moves (c.enterNode a id) := by
  have hcheck : ∀ b (d : Controller), d.moves (if (d.bay b).map.valid && (d.bay b).map.node == a then d.mapCheck b else d) := fun b d => by
    split
    · exact mapCheck_moves d b
    · exact .refl
  unfold Controller.enterNode
  dsimp only
  cases c.link.ignoreCause a id with
  | some cause => exact moves_trans (moves_trans (updNode_moves c a _) (raise_moves _ _)) (forBays_moves hcheck _)
  | none => exact moves_trans (moves_trans (updNode_moves c a _) (forgetAcked_moves _ _)) (forBays_moves hcheck _)

theorem attached_moves (c : Controller) (a : Addr) : c.moves (c.attached a) := by
  unfold Controller.attached
  dsimp only
  split
  · split
    · exact updLink_moves c _
    · exact moves_trans (updLink_moves c _) (raise_moves _ _)
  · exact .refl

theorem endDiscovery_moves (c : Controller) : c.moves c.endDiscovery := by
  unfold Controller.endDiscovery
  extract_lets c1 c2 r c3
  have h1 : c.moves c1 := forBays_moves (fun b d => by dsimp only; split; exacts [updOutlet_moves d b _, .refl]) c
  have h2 : c1.moves c2 := moves_trans (updLink_moves c1 _) (raise_moves _ _)
  have h3 : c2.moves c3 := by
    unfold c3
    split
    · exact .refl
    · exact moves_trans (others_moves ..) (answerLate_moves _ _ _ _)
  refine moves_trans (moves_trans (moves_trans h1 h2) h3) ?_
  split
  · exact moves_trans (others_moves ..) (beginCycle_moves _)
  · exact beginCycle_moves _

theorem afterIdent_moves (a : Addr) (c : Controller) : c.moves (c.afterIdent a) := by
  unfold Controller.afterIdent
  split
  · split
    · exact .refl
    · exact endDiscovery_moves c
  · exact .refl

theorem supplyStep_moves (v : Nat) (c : Controller) : c.moves (c.supplyStep v) := by
  unfold Controller.supplyStep
  dsimp only
  split
  · exact moves_trans (moves_trans (moves_trans (others_moves ..) (forBays_moves (fun b d => addReason_moves d b .SUPPLY) _))
      (setFault_moves _ _)) (raise_moves _ _)
  · exact moves_trans (moves_trans (others_moves ..) (forBays_moves (fun b d => removeReason_moves d b .SUPPLY) _)) (raise_moves _ _)
  · split
    · exact others_moves ..
    · exact moves_trans (others_moves ..) (raise_moves _ _)
  · exact others_moves ..

theorem eachEntry_moves {f : Bay → OutletReading → Controller → Controller} (h : ∀ b e (c : Controller), c.moves (f b e c)) (a : Addr)
    (es : List OutletReading) (c : Controller) : c.moves (c.eachEntry a es f) := by
  unfold Controller.eachEntry
  generalize List.finRange 4 = l
  induction l generalizing c with
  | nil => exact .refl
  | cons ix l ih =>
    refine moves_trans ?_ (ih _)
    dsimp only
    split
    · exact h _ _ c
    · exact .refl

theorem nodeReturns_moves (c : Controller) (k : Option NodeKind) : c.moves (c.nodeReturns k) := by
  unfold Controller.nodeReturns
  exact moves_trans (moves_trans (updLink_moves c _) (raise_moves _ _)) (forgetAcked_moves _ k)

theorem pedestalStatus_moves (a : Addr) (es : List OutletReading) (returned : Bool) (c : Controller) :
    c.moves (c.pedestalStatus a es returned) := by
  unfold Controller.pedestalStatus
  dsimp only
  refine moves_trans ?_ (eachEntry_moves (fun b e d => moves_trans (heard_moves d b _) (outletEntry_moves _ b e)) a es _)
  split
  · exact eachEntry_moves (fun b e d => heard_moves d b e.plugged) a es c
  · exact .refl

theorem takeStatus_moves (a : Addr) (body : StatusBody) (c : Controller) : c.moves (c.takeStatus a body) := by
  unfold Controller.takeStatus
  dsimp only
  have hreturn : ∀ (p : Bool) (d : Controller) (k : Option NodeKind), d.moves (if p then d.nodeReturns k else d) := fun p d k => by
    split
    · exact nodeReturns_moves d k
    · exact .refl
  cases body with
  | pedestal es => exact moves_trans (moves_trans (updNode_moves c a _) (hreturn _ _ _)) (pedestalStatus_moves a es _ _)
  | canopy w cap => exact moves_trans (moves_trans (updNode_moves c a _) (hreturn _ _ _)) (updStorage_moves _ _)
  | battery r => exact moves_trans (updNode_moves c a _) (hreturn _ _ _)
  | supplyMeter w v => exact moves_trans (moves_trans (updNode_moves c a _) (hreturn _ _ _)) (supplyStep_moves v _)

theorem miss_moves (a : Addr) (c : Controller) : c.moves (c.miss a) := by
  unfold Controller.miss
  dsimp only
  split
  · have hsilent := moves_trans (moves_trans (updNode_moves c a fun n => { n with misses := min Config.missLimit ((c.node a).misses + 1)
                                                                                  state := .SILENT })
      (raise_moves _ .nodeSilent)) (setFault_moves _ .NODE_SILENT)
    split
    · exact moves_trans hsilent (nodeFallsSilent_moves _ a)
    · exact hsilent
  · exact updNode_moves c a _

theorem outletEcho_moves (b : Bay) (sent echo : Int) (c : Controller) : c.moves (c.outletEcho b sent echo) := by
  have h := moves_trans (updOutlet_moves c b (Outlet.takeEcho echo)) (judgeRelease_moves _)
  unfold Controller.outletEcho
  dsimp only
  split
  · exact moves_trans h (raise_moves _ _)
  · exact h

theorem takeAck_moves {a : Addr} {body : AckBody} {c c' : Controller} (h : c.takeAck a body = some c') : c.moves c' := by
  unfold Controller.takeAck at h
  split at h
  · split at h
    · simp only [Controller.outletAck, Option.map_eq_some_iff] at h
      obtain ⟨sent, -, rfl⟩ := h
      split
      · exact moves_trans (updNode_moves c a _) (outletEcho_moves _ _ _ _)
      · exact updNode_moves c a _
    · cases h
  · split at h
    · simp only [Controller.batteryAck, Option.map_eq_some_iff] at h
      obtain ⟨sent, -, rfl⟩ := h
      split <;> exact .refl
    · cases h
  · split at h
    · simp only [Controller.canopyAck, Option.map_eq_some_iff] at h
      obtain ⟨sent, -, rfl⟩ := h
      split <;> exact .refl
    · cases h
  · cases h

theorem endAfterRaw_moves (c : Controller) : c.moves c.endAfterRaw := by
  unfold Controller.endAfterRaw
  split
  · exact .refl
  · exact moves_trans (moves_trans (closeWindow_moves c) (beginCycle_moves _)) (answerLate_moves _ _ _ _)
  · exact moves_trans (closeWindow_moves c) (beginCycle_moves _)
  · exact moves_trans (closeWindow_moves c) (startFinalCycle_moves _)

theorem rawDone_moves (status : Status) (body : Body) (c : Controller) : c.moves (c.rawDone status body) := by
  unfold Controller.rawDone
  exact moves_trans (moves_trans (answerLate_moves c _ _ _) (updLink_moves _ _)) (endAfterRaw_moves _)

theorem answerReport_moves {f : Bay → Controller → Answered} (h : ∀ b (c : Controller), c.moves (f b c).2.2.2) (a : Addr) (outlet : Nat)
    (c : Controller) : c.moves (c.answerReport a outlet f) := by
  unfold Controller.answerReport
  split
  · exact send_moves c _
  · exact moves_trans (h _ c) (send_moves _ _)

theorem report_moves {f : Bay → Controller → Answered} (h : ∀ b (c : Controller), c.moves (f b c).2.2.2) (a : Addr) (outlet : Nat)
    (c : Controller) : c.moves (c.report a outlet f) := by
  unfold Controller.report
  split
  · split
    · exact moves_trans (moves_trans (updLink_moves c _) (raise_moves _ _)) (exchangeDone_moves endCycle_moves _)
    · exact moves_trans (moves_trans (updNode_moves c a _) (updLink_moves _ _)) (answerReport_moves h a outlet _)
  · exact .refl

/-! ### Rounds, STOP, resets and power -/

/-- An operation that leaves an outlet without a session alone. -/
theorem moves_of_session {c : Controller} {b : Bay} {f : Session → Controller} (h : ∀ ss, c.moves (f ss)) :
    c.moves (match (c.outlet b).session with
      | none => c
      | some ss => f ss) := by
  split
  · exact .refl
  · exact h _

/-- The energy of every managed session goes into its session, and a CREDIT session's into a draw (R106, R109, R110). -/
theorem attributionStep_moves (pPv sEst : Int) (c : Controller) : c.moves (c.attributionStep pPv sEst) := by
  unfold Controller.attributionStep
  refine forBays_moves (fun b d => moves_of_session (b := b) fun ss => ?_) c
  split
  · exact .refl
  · dsimp only
    split
    · exact moves_trans (updOutlet_moves d b _) (others_moves ..)
    · split
      · exact moves_trans (updOutlet_moves d b _) (endSession_moves _ b _ _)
      · exact updOutlet_moves d b _

theorem markTarget_moves (c : Controller) (b : Bay) (w : Nat) : c.moves (c.markTarget b w) :=
  moves_of_credit_eq (markTarget_leaves c b w).1

theorem takeResult_moves (b : Bay) (alloc : Nat) (outcome : Option PassOutcome) (c : Controller) :
    c.moves (c.takeResult b alloc outcome) := by
  unfold Controller.takeResult
  split
  · exact .refl
  · exact moves_trans (updOutlet_moves c b _) (markTarget_moves _ b alloc)

theorem storageStep_moves (sumA u sEst lImp pPv : Int) (c : Controller) : c.moves (c.storageStep sumA u sEst lImp pPv) := by
  unfold Controller.storageStep
  dsimp only
  split
  · exact updStorage_moves c _
  · exact moves_trans (updStorage_moves c _) (updStorage_moves _ _)

theorem resultStep_moves (outcomes : Table (Option PassOutcome) 24) (allocs : Table Nat 24) (c : Controller) :
    c.moves (c.resultStep outcomes allocs) := by
  unfold Controller.resultStep
  dsimp only
  exact moves_trans (moves_trans (moves_trans (others_moves ..) (others_moves ..)) (forBays_moves (fun b d => takeResult_moves b _ _ d) _))
    (judgeRelease_moves _)

theorem bankStep_moves (c : Controller) : c.moves c.bankStep := by
  unfold Controller.bankStep
  dsimp only
  split <;> exact .refl

theorem round_moves (c : Controller) : c.moves c.round := by
  unfold Controller.round
  dsimp only
  exact moves_trans (moves_trans (moves_trans (moves_trans (moves_trans (bankStep_moves c) (updStorage_moves _ _)) (resultStep_moves _ _ _))
    (storageStep_moves _ _ _ _ _ _)) (attributionStep_moves _ _ _)) (others_moves ..)

theorem endForStop_moves (r : EndReason) (b : Bay) (c : Controller) : c.moves (c.endForStop r b) := endSession_moves c b _ _

theorem haltSite_moves (c : Controller) : c.moves c.haltSite := by
  unfold Controller.haltSite
  dsimp only
  exact moves_trans (moves_trans (updRun_moves c _) (forBays_moves (endForStop_moves .COMMAND) _)) (others_moves ..)

theorem stopLink_moves (c : Controller) : c.moves c.stopLink := by
  unfold Controller.stopLink
  split
  · dsimp only
    split
    · exact moves_trans (updLink_moves c _) (startFinalCycle_moves _)
    · exact updLink_moves c _
  · split
    · exact moves_trans (closeWindow_moves c) (startFinalCycle_moves _)
    · exact updLink_moves c _
  all_goals exact enterIdle_moves c

theorem unbindAll_moves (c : Controller) : c.moves c.unbindAll := by
  refine .single (.editAll _ fun r => ?_)
  unfold Record.resetUnbind
  split
  · next h => exact .inr (.unbind _ _ _ h)
  · exact .inl rfl

theorem relocate_moves (k : SlotNo) (c : Controller) : c.moves (c.relocate k) := by
  unfold Controller.relocate
  dsimp only
  split
  · next j hj =>
    have hfree : (c.credit.slots.get j).state = .FREE := by simpa using (Bool.and_eq_true_iff.mp (Table.lowest_some hj).1).1
    exact .single (.relocate j k hfree)
  · exact .single (.free k)

theorem placementCheck_moves (c : Controller) : c.moves c.placementCheck := by
  unfold Controller.placementCheck
  generalize c.credit.wrongSlots c.inForce.region = l
  induction l generalizing c with
  | nil => exact .refl
  | cons n l ih =>
    refine moves_trans ?_ (ih _)
    dsimp only
    split
    · exact relocate_moves _ c
    · exact .refl

theorem resetValues_moves (keep : Outlet → Option Summary × Nat) (latch : Bool) (cause : ResetCause) (c : Controller) :
    c.moves (c.resetValues keep latch cause) := others_moves ..

theorem warmReset_moves (cause : ResetCause) (c : Controller) : c.moves (c.warmReset cause) := by
  unfold Controller.warmReset
  dsimp only
  exact moves_trans (moves_trans (moves_trans (forBays_moves (fun b d => endSession_moves d b .RESET .OFFLINE) c) (unbindAll_moves _))
    (resetValues_moves _ _ _ _)) (placementCheck_moves _)

theorem retentionCheck_moves (c : Controller) : c.moves c.retentionCheck := by
  unfold Controller.retentionCheck
  split
  · exact .refl
  · exact .single .initialise

theorem storeCheck_moves (c : Controller) : c.moves c.storeCheck := by
  unfold Controller.storeCheck
  split <;> exact .refl

theorem powerOnReset_moves (c : Controller) : c.moves c.powerOnReset := by
  unfold Controller.powerOnReset
  dsimp only
  have h := moves_trans (moves_trans (moves_trans (moves_trans (moves_trans (retentionCheck_moves c) (storeCheck_moves _)) (unbindAll_moves _))
    (resetValues_moves (fun o => (none, o.lifetime)) false .POWER_ON _)) (updRun_moves _ fun r => { r with sweepAt := none }))
    (placementCheck_moves _)
  split
  · exact moves_trans h (raise_moves _ _)
  · exact h

theorem forgetEntry_moves (m : MapEntry) (c : Controller) : c.moves (c.forgetEntry m) := by
  unfold Controller.forgetEntry
  split
  · exact updNode_moves c _ _
  · exact .refl

theorem remapBay_moves (before : Settings) (b : Bay) (c : Controller) : c.moves (c.remapBay before b) := by
  unfold Controller.remapBay
  dsimp only
  split
  · exact .refl
  · have h := moves_trans (moves_trans (forgetEntry_moves (before.bays.get b).map c) (forgetEntry_moves (c.bay b).map _))
      (updOutlet_moves _ b (Outlet.remap (c.bay b).map.valid))
    split
    · exact moves_trans h (mapCheck_moves _ b)
    · exact h

theorem completeCommit_moves (w : Working) (c : Controller) : c.moves (c.completeCommit w) := by
  unfold Controller.completeCommit
  dsimp only
  exact moves_trans (moves_trans (moves_trans (others_moves ..) (raise_moves _ _)) (forBays_moves (remapBay_moves _) _))
    (judgeRelease_moves _)

end Sys2Proof.Machine
end

section
/-! SUPPORT. Every command, event and idle step moves the credit table by its moves alone, and so every step keeps its invariants (R3, R6). -/

namespace Sys2Proof.Machine

/-! ### Commands and events -/

/-- A change of the hardware by a function that moves the credit table. -/
theorem onController_moves {f : Controller → Controller} {s t : State} (h : ∀ c : Controller, c.moves (f c))
    (ht : onController f s = .next t) : s.ctl.moves t.ctl := by
  cases ht
  exact h s.ctl

theorem event_moves {f : Controller → Controller} {s t : State} (h : ∀ c : Controller, c.moves (f c)) (ht : event f s = .next t) :
    s.ctl.moves t.ctl := by
  refine onController_moves (fun c => ?_) ht
  unfold whenTaking
  split
  · exact h c
  · exact .refl

theorem command_moves {f : Controller → Controller} {code : Nat} {s t : State} (h : ∀ c : Controller, c.moves (f c))
    (ht : command code f s = .next t) : s.ctl.moves t.ctl :=
  event_moves (fun _ => moves_trans (others_moves ..) (h _)) ht

theorem outletCommand_moves {cmd bay : Nat} {own : Bay → Controller → Except Status (Controller × Body)} {s t : State}
    (h : ∀ (b : Bay) (c c' : Controller) (y : Body), own b c = .ok (c', y) → c.moves c') (ht : outletCommand cmd bay own s = .next t) :
    s.ctl.moves t.ctl := by
  refine command_moves (fun _ => ?_) ht
  split
  · exact .refl
  · split
    · exact .refl
    · split
      · exact .refl
      · next hown => exact moves_trans (h _ _ _ _ hown) (others_moves ..)

theorem enableOutlet_moves (b : Bay) (c c' : Controller) (y : Body) (h : c.enableOutlet b = .ok (c', y)) : c.moves c' := by
  unfold Controller.enableOutlet at h
  dsimp only at h
  split at h
  · cases h; exact enter_moves c b _
  · split at h <;> cases h
    exact updOutlet_moves c b _

theorem disableOutlet_moves (b : Bay) (c c' : Controller) (y : Body) (h : c.disableOutlet b = .ok (c', y)) : c.moves c' := by
  unfold Controller.disableOutlet at h
  split at h
  · cases h
  · cases h
  · cases h
    exact moves_trans (moves_trans (moves_trans (endSession_moves c b _ _) (updOutlet_moves _ b _)) (markTarget_moves _ b 0))
      (judgeRelease_moves _)

theorem stopOutlet_moves (b : Bay) (c c' : Controller) (y : Body) (h : c.stopOutlet b = .ok (c', y)) : c.moves c' := by
  unfold Controller.stopOutlet at h
  dsimp only at h
  split at h <;> cases h
  exact endSession_moves c b _ _

theorem clearOutlet_moves (b : Bay) (c c' : Controller) (y : Body) (h : c.clearOutlet b = .ok (c', y)) : c.moves c' := by
  unfold Controller.clearOutlet at h
  dsimp only at h
  split at h
  · cases h; exact moves_trans (updOutlet_moves c b _) (enter_moves _ b _)
  · split at h <;> cases h
    exact updOutlet_moves c b _

theorem serviceStart_moves (cap : Nat) (b : Bay) (c c' : Controller) (y : Body) (h : c.serviceStart cap b = .ok (c', y)) :
    c.moves c' := by
  unfold Controller.serviceStart at h
  split at h
  · cases h
  · split at h <;> cases h
    exact openSession_moves c b _ _ _

/-- The commands of the credit table move it by its moves. -/
theorem execAmend_moves {code add : Nat} {e tier : Option Nat} {s t : State} (ht : execAmend code add e tier s = .next t) :
    s.ctl.moves t.ctl := by
  refine command_moves (fun c => ?_) ht
  dsimp only
  split
  · exact .refl
  · split
    · exact .refl
    · next k _ =>
      split
      · exact .refl
      · next hr =>
        split
        · exact .refl
        · split
          · exact .refl
          · exact .single (.edit k (.amend add e tier _ _ (Bool.eq_false_iff.mpr hr)))

theorem execVoid_moves {code : Nat} {s t : State} (ht : execVoid code s = .next t) : s.ctl.moves t.ctl := by
  refine command_moves (fun c => ?_) ht
  dsimp only
  split
  · exact .refl
  · next k hk =>
    split
    · exact .refl
    · split
      · next hb =>
        have hvoid : c.moves (c.updRecord k Record.voidBound) := updRecord_moves (.voidBound hb)
        split
        · exact moves_trans (moves_trans hvoid (handWithdrawal_moves _ _ k)) (others_moves ..)
        · exact moves_trans hvoid (others_moves ..)
      · next hb => exact updRecord_moves (.void (findCode_some hk).1 hb)

theorem execRetire_moves {key : RecordKey} {s t : State} (ht : execRetire key s = .next t) : s.ctl.moves t.ctl := by
  refine command_moves (fun c => ?_) ht
  split
  · exact .refl
  · next k _ =>
    dsimp only
    split
    · exact .refl
    · split
      · exact .refl
      · exact .single (.free k)

theorem execFindNext_moves {start only : Nat} {states : Byte} {s t : State} (ht : execFindNext start states only s = .next t) :
    s.ctl.moves t.ctl := by
  refine command_moves (fun c => ?_) ht
  split
  · exact .refl
  · split <;> exact .refl

theorem execExpirySweep_moves {s t : State} (ht : execExpirySweep s = .next t) : s.ctl.moves t.ctl := by
  refine event_moves (fun c => ?_) ht
  split
  · exact .refl
  · split
    · exact moves_trans (sweep_moves c _) (others_moves ..)
    · exact others_moves ..

/-! The commands and events of the link, of setup and of run control. -/

theorem execLinkRestart_moves {s t : State} (ht : execLinkRestart s = .next t) : s.ctl.moves t.ctl := by
  refine command_moves (fun c => ?_) ht
  split
  · exact .refl
  · exact .refl
  · exact .refl
  · exact moves_trans (enterDiscovering_moves c) (others_moves ..)
  · repeat' split
    · exact .refl
    · exact .refl
    · exact moves_trans (enterDiscovering_moves c) (others_moves ..)
    · exact .refl

theorem execLinkRequest_moves {s t : State} (ht : execLinkRequest s = .next t) : s.ctl.moves t.ctl := by
  refine command_moves (fun c => ?_) ht
  split
  any_goals exact .refl
  repeat' split
  · exact .refl
  · exact .refl
  · exact grant_moves c
  · exact .refl

theorem execLinkFrame_moves {address : Nat} {payload : List Byte} {s t : State} (ht : execLinkFrame address payload s = .next t) :
    s.ctl.moves t.ctl := by
  refine command_moves (fun c => ?_) ht
  repeat' split
  all_goals exact .refl

theorem execLinkRelease_moves {s t : State} (ht : execLinkRelease s = .next t) : s.ctl.moves t.ctl := by
  refine command_moves (fun c => ?_) ht
  dsimp only
  repeat' split
  · exact .refl
  · exact .refl
  · exact moves_trans (moves_trans (closeWindow_moves c) (beginCycle_moves _)) (others_moves ..)
  · exact .refl

theorem execPtExpired_moves {s t : State} (ht : execPtExpired s = .next t) : s.ctl.moves t.ctl := by
  refine event_moves (fun c => ?_) ht
  dsimp only
  repeat' split
  · exact moves_trans (raise_moves c _) (updLink_moves _ _)
  · exact moves_trans (moves_trans (moves_trans (raise_moves c _) (closeWindow_moves _)) (updLink_moves _ _)) (beginCycle_moves _)
  · exact .refl

theorem execFrameSent_moves {s t : State} (ht : execFrameSent s = .next t) : s.ctl.moves t.ctl := by
  have hfollow : ∀ (f : Sent) (c : Controller), c.moves (f.follow c) := fun f c => by
    unfold Sent.follow
    split
    · exact visitNext_moves _ c
    · exact afterWindow_moves c
  refine event_moves (fun c => ?_) ht
  split
  · repeat' split
    · exact .refl
    · exact exchangeDone_moves (hfollow _) c
    · exact .refl
  · repeat' split
    all_goals exact .refl

theorem execStatus_moves {a : Addr} {body : StatusBody} {s t : State} (ht : execStatus a body s = .next t) : s.ctl.moves t.ctl := by
  refine event_moves (fun c => ?_) ht
  split
  · exact moves_trans (takeStatus_moves a body c) (exchangeDone_moves (visitNext_moves a) _)
  · exact .refl

theorem execStatusTimeout_moves {s t : State} (ht : execStatusTimeout s = .next t) : s.ctl.moves t.ctl := by
  refine event_moves (fun c => ?_) ht
  split
  · exact moves_trans (miss_moves _ c) (exchangeDone_moves (visitFrom_moves _) _)
  · exact .refl

theorem execSetAck_moves {a : Addr} {body : AckBody} {s t : State} (ht : execSetAck a body s = .next t) : s.ctl.moves t.ctl := by
  refine event_moves (fun c => ?_) ht
  split
  · next hack => exact moves_trans (takeAck_moves hack) (exchangeDone_moves (visitNext_moves a) _)
  · exact .refl

theorem execSetAckTimeout_moves {s t : State} (ht : execSetAckTimeout s = .next t) : s.ctl.moves t.ctl := by
  refine event_moves (fun c => ?_) ht
  repeat' split
  · exact moves_trans (updNode_moves c _ _) (exchangeDone_moves (visitNext_moves _) _)
  · exact .refl
  · exact .refl

theorem execIdent_moves {a : Addr} {kind count serial : Nat} {rating : Int} {s t : State}
    (ht : execIdent a kind count rating serial s = .next t) : s.ctl.moves t.ctl := by
  refine event_moves (fun c => ?_) ht
  split
  · exact moves_trans (moves_trans (enterNode_moves c a _) (attached_moves _ a)) (exchangeDone_moves (afterIdent_moves a) _)
  · exact .refl

theorem execIdentTimeout_moves {s t : State} (ht : execIdentTimeout s = .next t) : s.ctl.moves t.ctl := by
  refine event_moves (fun c => ?_) ht
  split
  · exact exchangeDone_moves (afterIdent_moves _) c
  · exact .refl

theorem execSetupBegin_moves {s t : State} (ht : execSetupBegin s = .next t) : s.ctl.moves t.ctl := by
  refine command_moves (fun c => ?_) ht
  repeat' split
  all_goals exact .refl

theorem execSettingWrite_moves {group item : Nat} {index : Option Nat} {v : SettingValue} {s t : State}
    (ht : execSettingWrite group item index v s = .next t) : s.ctl.moves t.ctl := by
  refine command_moves (fun c => ?_) ht
  repeat' split
  all_goals exact .refl

theorem execSetupEnd_moves {s t : State} (ht : execSetupEnd s = .next t) : s.ctl.moves t.ctl := by
  refine command_moves (fun c => ?_) ht
  repeat' split
  all_goals exact .refl

theorem execSetupAbandon_moves {s t : State} (ht : execSetupAbandon s = .next t) : s.ctl.moves t.ctl := by
  refine command_moves (fun c => ?_) ht
  repeat' split
  all_goals exact .refl

theorem execLockSet_moves {level : Nat} {s t : State} (ht : execLockSet level s = .next t) : s.ctl.moves t.ctl := by
  refine command_moves (fun c => ?_) ht
  repeat' split
  all_goals exact .refl

theorem execFuse_moves {s t : State} (ht : execFuse s = .next t) : s.ctl.moves t.ctl := by
  refine command_moves (fun c => ?_) ht
  repeat' split
  all_goals exact .refl

theorem execStart_moves {s t : State} (ht : execStart s = .next t) : s.ctl.moves t.ctl := by
  refine command_moves (fun c => ?_) ht
  repeat' split
  · exact .refl
  · exact .refl
  · exact enterDiscovering_moves c

theorem execStop_moves {s t : State} (ht : execStop s = .next t) : s.ctl.moves t.ctl := by
  refine command_moves (fun c => ?_) ht
  split
  · exact moves_trans (haltSite_moves c) (stopLink_moves _)
  · split
    · exact .refl
    · exact enterIdle_moves c
    all_goals exact .refl

theorem execSetTime_moves {v : Nat} {s t : State} (ht : execSetTime v s = .next t) : s.ctl.moves t.ctl := by
  refine command_moves (fun c => ?_) ht
  split <;> exact .refl

theorem execUnknownCommand_moves {bytes : List Byte} {s t : State} (ht : execUnknownCommand bytes s = .next t) :
    s.ctl.moves t.ctl := by
  refine event_moves (fun c => ?_) ht
  unfold Controller.badTransfer
  repeat' split
  all_goals exact .refl

/-! The events of lines, power and time. -/

/-- A qualification does by moves what its effect does by moves. -/
theorem qualify_moves {f : Controller → Controller} (h : ∀ c : Controller, c.moves (f c)) (line : LineId) (c : Controller) :
    c.moves (c.qualify line f) := by
  unfold Controller.qualify
  split
  · exact moves_trans (others_moves ..) (h _)
  · exact .refl

theorem execStopAsserted_moves {s t : State} (ht : execStopAsserted s = .next t) : s.ctl.moves t.ctl := by
  refine event_moves (fun c => ?_) ht
  split
  · exact qualify_moves (fun d => moves_trans (forBays_moves (endForStop_moves .STOP_INPUT) d) (raise_moves _ _)) _ c
  · exact .refl

theorem execStopReleased_moves {s t : State} (ht : execStopReleased s = .next t) : s.ctl.moves t.ctl := by
  refine event_moves (fun c => ?_) ht
  split
  · exact .refl
  · exact qualify_moves (fun d => raise_moves d _) _ c

theorem execKeylockQualified_moves {opened : Bool} {s t : State} (ht : execKeylockQualified opened s = .next t) :
    s.ctl.moves t.ctl := by
  refine event_moves (fun c => ?_) ht
  split
  · exact qualify_moves (fun d => raise_moves d _) _ c
  · exact .refl

theorem execResetLine_moves {s t : State} (ht : execResetLine s = .next t) : s.ctl.moves t.ctl := by
  refine onController_moves (fun c => ?_) ht
  dsimp only
  split
  · exact moves_trans (updRun_moves c _) (warmReset_moves _ _)
  · exact updRun_moves c _

theorem execPowerOn_moves {s t : State} (ht : execPowerOn s = .next t) : s.ctl.moves t.ctl := by
  refine onController_moves (fun c => ?_) ht
  split
  · exact moves_trans (moves_trans (others_moves ..) (updRun_moves _ _)) (powerOnReset_moves _)
  · exact moves_trans (updRun_moves c _) (powerOnReset_moves _)

theorem execSiteSecondTick_moves {s t : State} (ht : execSiteSecondTick s = .next t) : s.ctl.moves t.ctl := by
  refine onController_moves (fun c => ?_) ht
  split
  · exact updRun_moves c _
  · exact .refl

theorem execAllocationRound_moves {s t : State} (ht : execAllocationRound s = .next t) : s.ctl.moves t.ctl := by
  refine event_moves (fun c => ?_) ht
  split
  · exact moves_trans (round_moves c) (others_moves ..)
  · exact .refl

theorem execCommitComplete_moves {s t : State} (ht : execCommitComplete s = .next t) : s.ctl.moves t.ctl := by
  refine event_moves (fun c => ?_) ht
  split
  · exact completeCommit_moves _ c
  · exact .refl

/-- The expiry of a timer does by moves what its effect does by moves. -/
theorem expiry_moves {f : Controller → Controller} {p : Controller → Bool} {s t : State} (h : ∀ c : Controller, c.moves (f c))
    (ht : event (fun c => if p c then f c else c) s = .next t) : s.ctl.moves t.ctl := by
  refine event_moves (fun c => ?_) ht
  split
  · exact h c
  · exact .refl

theorem execHoldOffExpiry_moves {b : Bay} {s t : State} (ht : execHoldOffExpiry b s = .next t) : s.ctl.moves t.ctl := by
  refine event_moves (fun c => ?_) ht
  split
  · exact moves_trans (updOutlet_moves c b _) (enter_moves _ b _)
  · exact .refl

theorem execSilenceHoldExpiry_moves {b : Bay} {s t : State} (ht : execSilenceHoldExpiry b s = .next t) : s.ctl.moves t.ctl := by
  refine event_moves (fun c => ?_) ht
  split
  · exact moves_trans (endSession_moves c b _ _) (updOutlet_moves _ b _)
  · exact .refl

theorem answer_moves (c : Controller) (n : Nat) (x : Status) (y : Body) : c.moves (c.answer n x y) := others_moves ..

theorem putPort_moves (c : Controller) (cmd : Nat) (f : Port → Port) : c.moves (c.putPort cmd f) := others_moves ..

theorem execIssue_moves {code kind till tier credit validity single : Nat} {s t : State}
    (ht : execIssue code kind till tier credit validity single s = .next t) : s.ctl.moves t.ctl := by
  refine command_moves (fun c => ?_) ht
  split
  · exact issue_moves _ _ _ _ _ _ _ _ c
  · exact .refl

theorem execLookup_moves {code : Nat} {s t : State} (ht : execLookup code s = .next t) : s.ctl.moves t.ctl := by
  refine command_moves (fun c => ?_) ht
  split
  · exact readRecord_moves c _ _
  · exact .refl

theorem execReadSlot_moves {n : Nat} {s t : State} (ht : execReadSlot n s = .next t) : s.ctl.moves t.ctl := by
  refine command_moves (fun c => ?_) ht
  split
  · exact readRecord_moves c _ _
  · exact .refl

theorem execOutletRead_moves {bay : Nat} {s t : State} (ht : execOutletRead bay s = .next t) : s.ctl.moves t.ctl := by
  refine command_moves (fun c => ?_) ht
  split <;> exact others_moves ..

theorem execNodeRead_moves {n : Nat} {s t : State} (ht : execNodeRead n s = .next t) : s.ctl.moves t.ctl := by
  refine command_moves (fun c => ?_) ht
  split <;> exact others_moves ..

theorem execSettingRead_moves {g i : Nat} {ix : Option Nat} {s t : State} (ht : execSettingRead g i ix s = .next t) : s.ctl.moves t.ctl := by
  refine command_moves (fun c => ?_) ht
  split <;> exact others_moves ..

theorem execPauseAll_moves {s t : State} (ht : execPauseAll s = .next t) : s.ctl.moves t.ctl :=
  command_moves (fun _ => moves_trans (moves_trans (others_moves ..) (forBays_moves (fun b d => addReason_moves d b .SITE) _))
    (answer_moves _ _ _ _)) ht

theorem execResumeAll_moves {s t : State} (ht : execResumeAll s = .next t) : s.ctl.moves t.ctl :=
  command_moves (fun _ => moves_trans (moves_trans (others_moves ..) (forBays_moves (fun b d => removeReason_moves d b .SITE) _))
    (answer_moves _ _ _ _)) ht

theorem execWindowTimeout_moves {s t : State} (ht : execWindowTimeout s = .next t) : s.ctl.moves t.ctl := by
  refine event_moves (fun c => ?_) ht
  split
  · exact exchangeDone_moves endCycle_moves c
  · exact .refl

theorem execRawReply_moves {a : Addr} {bytes : List Byte} {s t : State} (ht : execRawReply a bytes s = .next t) : s.ctl.moves t.ctl := by
  refine event_moves (fun c => ?_) ht
  split
  · exact rawDone_moves _ _ c
  · exact .refl

/-- Every command and event changes the credit table by its moves alone. -/
theorem exec_moves (i : Instr) (s t : State) (ht : exec i s = .next t) : s.ctl.moves t.ctl := by
  cases i with
  | issue => exact execIssue_moves ht
  | amend => exact execAmend_moves ht
  | void => exact execVoid_moves ht
  | retire => exact execRetire_moves ht
  | lookup => exact execLookup_moves ht
  | readSlot => exact execReadSlot_moves ht
  | findNext => exact execFindNext_moves ht
  | outletRead => exact execOutletRead_moves ht
  | outletEnable bay => exact outletCommand_moves enableOutlet_moves (show execOutletEnable bay s = .next t from ht)
  | outletDisable bay => exact outletCommand_moves disableOutlet_moves (show execOutletDisable bay s = .next t from ht)
  | outletStop bay => exact outletCommand_moves stopOutlet_moves (show execOutletStop bay s = .next t from ht)
  | outletClear bay => exact outletCommand_moves clearOutlet_moves (show execOutletClear bay s = .next t from ht)
  | outletServiceStart bay cap => exact outletCommand_moves (serviceStart_moves cap) (show execOutletServiceStart bay cap s = .next t from ht)
  | poolRead => exact command_moves (fun c => answer_moves c _ _ _) (show execPoolRead s = .next t from ht)
  | batteryRead => exact command_moves (fun c => answer_moves c _ _ _) (show execBatteryRead s = .next t from ht)
  | pauseAll => exact execPauseAll_moves ht
  | resumeAll => exact execResumeAll_moves ht
  | nodeRead => exact execNodeRead_moves ht
  | linkRestart => exact execLinkRestart_moves ht
  | linkRequest => exact execLinkRequest_moves ht
  | linkFrame => exact execLinkFrame_moves ht
  | linkRelease => exact execLinkRelease_moves ht
  | setupBegin => exact execSetupBegin_moves ht
  | settingWrite => exact execSettingWrite_moves ht
  | settingRead => exact execSettingRead_moves ht
  | setupEnd => exact execSetupEnd_moves ht
  | setupAbandon => exact execSetupAbandon_moves ht
  | lockSet => exact execLockSet_moves ht
  | fuse => exact execFuse_moves ht
  | start => exact execStart_moves ht
  | stop => exact execStop_moves ht
  | setTime => exact execSetTime_moves ht
  | readTime => exact command_moves (fun c => answer_moves c _ _ _) (show execReadTime s = .next t from ht)
  | identify => exact command_moves (fun c => answer_moves c _ _ _) (show execIdentify s = .next t from ht)
  | reset => exact event_moves (warmReset_moves _) (show execReset s = .next t from ht)
  | noticeRead => exact command_moves (fun c => answer_moves c _ _ _) (show execNoticeRead s = .next t from ht)
  | noticeClear sources => exact command_moves (fun c => putPort_moves c _ _) (show execNoticeClear sources s = .next t from ht)
  | noticeEnable sources => exact command_moves (fun c => putPort_moves c _ _) (show execNoticeEnable sources s = .next t from ht)
  | faultsRead => exact command_moves (fun c => answer_moves c _ _ _) (show execFaultsRead s = .next t from ht)
  | faultsClear flags => exact command_moves (fun _ => others_moves ..) (show execFaultsClear flags s = .next t from ht)
  | unknownCommand => exact execUnknownCommand_moves ht
  | resetLine => exact execResetLine_moves ht
  | powerOn => exact execPowerOn_moves ht
  | mainSupplyFall good => exact onController_moves (fun _ => others_moves ..) (show execMainSupplyFall good s = .next t from ht)
  | siteSecondTick => exact execSiteSecondTick_moves ht
  | expirySweep => exact execExpirySweep_moves ht
  | lineChange line active => exact onController_moves (fun _ => others_moves ..) (show execLineChange line active s = .next t from ht)
  | gridLimitQualified line =>
    exact event_moves (qualify_moves (fun _ => .refl) _) (show execGridLimitQualified line s = .next t from ht)
  | stopAsserted => exact execStopAsserted_moves ht
  | stopReleased => exact execStopReleased_moves ht
  | keylockQualified => exact execKeylockQualified_moves ht
  | allocationRound => exact execAllocationRound_moves ht
  | draw => exact event_moves takeOldestDraw_moves (show execDraw s = .next t from ht)
  | overdrawTimerExpiry b => exact expiry_moves (fun c => fault_moves c b _) (show execOverdrawTimerExpiry b s = .next t from ht)
  | startTimerExpiry b => exact expiry_moves (fun c => fault_moves c b _) (show execStartTimerExpiry b s = .next t from ht)
  | fundingWaitExpiry b => exact expiry_moves (fun c => endSession_moves c b _ _) (show execFundingWaitExpiry b s = .next t from ht)
  | holdOffExpiry => exact execHoldOffExpiry_moves ht
  | pauseMinimumExpiry b => exact expiry_moves (fun c => updOutlet_moves c b _) (show execPauseMinimumExpiry b s = .next t from ht)
  | silenceHoldExpiry => exact execSilenceHoldExpiry_moves ht
  | frameSent => exact execFrameSent_moves ht
  | status => exact execStatus_moves ht
  | statusTimeout => exact execStatusTimeout_moves ht
  | setAck => exact execSetAck_moves ht
  | setAckTimeout => exact execSetAckTimeout_moves ht
  | ident => exact execIdent_moves ht
  | identTimeout => exact execIdentTimeout_moves ht
  | present a outlet code =>
    exact event_moves (report_moves (fun b c => presentAt_moves c b code) a outlet) (show execPresent a outlet code s = .next t from ht)
  | paidAuth a outlet cap =>
    exact event_moves (report_moves (fun b c => paidAuthAt_moves c b cap) a outlet) (show execPaidAuth a outlet cap s = .next t from ht)
  | customerStop a outlet =>
    exact event_moves (report_moves (fun b c => customerStopAt_moves c b) a outlet) (show execCustomerStop a outlet s = .next t from ht)
  | windowTimeout => exact execWindowTimeout_moves ht
  | discardedFrame bytes => exact event_moves (fun _ => .refl) (show execDiscardedFrame bytes s = .next t from ht)
  | rawReply => exact execRawReply_moves ht
  | rawReplyTimeout =>
    exact expiry_moves (fun c => rawDone_moves _ _ c) (show execRawReplyTimeout s = .next t from ht)
  | ptExpired => exact execPtExpired_moves ht
  | commitComplete => exact execCommitComplete_moves ht
  | backupCellLoss => exact onController_moves (fun c => updRun_moves c _) (show execBackupCellLoss s = .next t from ht)
  | resetLineAsserted => exact onController_moves (fun c => updRun_moves c _) (show execResetLineAsserted s = .next t from ht)

/-- An idle step leaves the credit table alone. -/
theorem idle_moves (s : State) : s.ctl.moves s.idle.ctl := by
  show s.ctl.moves s.ctl.elapse
  unfold Controller.elapse
  repeat' split
  all_goals exact others_moves ..

/-- Every step changes the credit table by its moves alone. -/
theorem step_moves {s t : State} (ht : step s = .next t) : s.ctl.moves t.ctl := by
  unfold step at ht
  split at ht
  · cases ht; exact idle_moves s
  · next i rest _ => exact exec_moves i { s with pending := rest } t ht

/-- What every move of the credit table keeps, every step keeps. -/
theorem invariant_of_moves {p : CreditTable → Prop} (h : ∀ t t', CreditMove t t' → p t → p t') : Invariant fun s => p s.ctl.credit := by
  intro s t hs ht
  have hmoves : Relation.ReflTransGen CreditMove s.ctl.credit t.ctl.credit := step_moves ht
  change p t.ctl.credit
  generalize t.ctl.credit = credit at hmoves ⊢
  induction hmoves with
  | refl => exact hs
  | tail _ hlast ih => exact h _ _ hlast ih

/-- Settles O16: every move of the credit table keeps every record's credit in balance. -/
theorem creditBalanceIsKept : Obligations.CreditBalanceIsKept :=
  invariant_of_moves (p := fun t => ∀ k, (t.slots.get k).balanced) fun _ _ hm hb => hm.balanced hb

/-- Settles O17: every move of the credit table keeps its codes unique. -/
theorem codesStayUnique : Obligations.CodesStayUnique :=
  invariant_of_moves (p := CreditTable.codesUnique) fun _ _ hm hu => hm.codesUnique hu

end Sys2Proof.Machine
end

section
/-! SUPPORT. The credit table's own rules: the pass region (R7), slots and codes (R6, R8), the unbind order (R22), the sweep (R26), and the
commands ISSUE, AMEND, VOID, RETIRE, LOOKUP, READ_SLOT and FIND_NEXT (R11 to R18). -/

namespace Sys2Proof.Machine

/-! ### The pass region (R7) -/

theorem pass_iff (r : Region) (slot : Nat) :
    r.pass slot = true ↔ ((if r.top then 1024 - r.size ≤ slot else slot < r.size) ↔ r.complement = false) := by
  unfold Region.pass
  cases r.top <;> cases r.complement <;> simp

theorem side_pass (r : Region) (slot : Nat) : r.side .PASS slot = r.pass slot := by simp [Region.side]

theorem side_receipt (r : Region) (slot : Nat) : r.side .RECEIPT slot = !r.pass slot := by
  simp [Region.side, show (RecordKind.RECEIPT == RecordKind.PASS) = false from rfl]

/-- Settles O5. -/
theorem passRegionOfSettings : Obligations.PassRegionOfSettings :=
  ⟨fun r slot _ => pass_iff r slot, fun r slot _ => ⟨by rw [side_pass], by simp [side_receipt]⟩, fun _ => rfl, rfl, rfl,
    fun slot _ => by simp [Region.pass, Settings.factory, Region.factory]⟩

/-! ### The state after reset -/

theorem reset_record (k : SlotNo) : State.reset.ctl.record k = .free := Table.get_replicate _ _

theorem reset_notice (x : Fin 8) : State.reset.ctl.port.notices.get x = { raised := none, enabled := true } := Table.get_replicate _ _

/-- Settles O19. -/
theorem resetStateHasInvariants : Obligations.ResetStateHasInvariants := by
  have hfree : ∀ k, (State.reset.ctl.record k).state = .FREE := fun k => by rw [reset_record]; rfl
  refine ⟨fun k => reset_record k ▸ free_balanced, ⟨fun k hk => absurd (hfree k) hk, fun j _ hj => absurd (hfree j) hj⟩, ?_,
    le_refl _, rfl, rfl⟩
  constructor
  · intro h; cases h
  · rintro ⟨x, hx, -⟩
    rw [reset_notice] at hx
    cases hx

/-! ### Slots and codes (R6, R8) -/

/-- The test of `placement` is the condition of R8. -/
theorem placement_test_iff (c : Controller) (kind : RecordKind) (k : SlotNo) :
    ((c.record k).state == .FREE && c.inForce.region.side kind k
      && (match c.settings.commit, c.settings.working with
          | some _, some w => w.settings.region.side kind k
          | _, _ => true)) = true ↔ c.mayTake kind k := by
  unfold Controller.mayTake Controller.inForce
  cases c.settings.commit <;> cases c.settings.working <;> simp [and_assoc]

/-- A lowest entry that satisfies a test is the one found. -/
theorem lowest_eq_some_iff {α : Type} {n : Nat} {p : Nat → α → Bool} {t : Table α n} {i : Fin n} :
    t.lowest p = some i ↔ p i.val (t.get i) = true ∧ ∀ j : Fin n, j < i → p j.val (t.get j) = false := by
  refine ⟨Table.lowest_some, fun ⟨hi, hmin⟩ => ?_⟩
  cases h : t.lowest p with
  | none => exact absurd (hi.symm.trans (Table.lowest_none h i)) (by decide)
  | some j =>
    obtain ⟨hj, hminj⟩ := Table.lowest_some h
    rcases lt_trichotomy i j with hij | hij | hij
    · exact absurd (hi.symm.trans (hminj i hij)) (by decide)
    · rw [hij]
    · exact absurd (hj.symm.trans (hmin j hij)) (by decide)

theorem lowest_eq_none_iff {α : Type} {n : Nat} {p : Nat → α → Bool} {t : Table α n} :
    t.lowest p = none ↔ ∀ j : Fin n, p j.val (t.get j) = false := by
  refine ⟨Table.lowest_none, fun hall => ?_⟩
  cases h : t.lowest p with
  | none => rfl
  | some i => exact absurd ((Table.lowest_some h).1.symm.trans (hall i)) (by decide)

theorem placement_eq_some_iff (c : Controller) (kind : RecordKind) (k : SlotNo) :
    c.placement kind = some k ↔ c.mayTake kind k ∧ ∀ j, j < k → ¬ c.mayTake kind j := by
  simp only [← placement_test_iff, Bool.not_eq_true]
  exact lowest_eq_some_iff

theorem placement_eq_none_iff (c : Controller) (kind : RecordKind) : c.placement kind = none ↔ ∀ k, ¬ c.mayTake kind k := by
  simp only [← placement_test_iff, Bool.not_eq_true]
  exact lowest_eq_none_iff

/-- Settles O6. -/
theorem slotsAndCodesAreFound : Obligations.SlotsAndCodesAreFound :=
  ⟨fun c kind => ⟨placement_eq_some_iff c kind, placement_eq_none_iff c kind⟩,
    fun _ _ => ⟨fun _ h => findCode_some h, findCode_none_iff⟩⟩

/-! ### The unbind order (R22) -/

section
variable {r : Record} {valid : Bool} {now : Nat} {atReset : Bool}

theorem unbind_of_voidPending (h : r.voidPending = true) :
    r.unbind valid now atReset = { r.release valid now atReset with state := .VOIDED } := by simp [Record.unbind, h]

theorem unbind_of_no_credit (hp : r.voidPending = false) (h0 : r.remaining = 0) :
    r.unbind valid now atReset = { r.release valid now atReset with state := .SPENT, spendReason := some .CREDIT_ZERO } := by
  simp [Record.unbind, hp, h0]

theorem unbind_of_single_use (hp : r.voidPending = false) (h0 : r.remaining ≠ 0) (h : r.singleUse = true ∧ 0 < r.bindingEnergy.getD 0) :
    r.unbind valid now atReset = { r.release valid now atReset with
      state := .SPENT, spendReason := some .SINGLE_USE, remaining := 0, forfeited := r.forfeited + r.remaining } := by
  simp [Record.unbind, hp, h0, h]

theorem unbind_of_expired (hp : r.voidPending = false) (h0 : r.remaining ≠ 0) (hs : ¬ (r.singleUse = true ∧ 0 < r.bindingEnergy.getD 0))
    (hx : valid = true ∧ r.expiryTime ≤ now) : r.unbind valid now atReset = { r.release valid now atReset with state := .LAPSED } := by
  unfold Record.unbind
  simp only [hp, h0, Bool.and_eq_true, decide_eq_true_eq, Record.expiredAt, if_neg hs, if_pos hx, if_false, Bool.false_eq_true]

theorem unbind_of_fit (hp : r.voidPending = false) (h0 : r.remaining ≠ 0) (hs : ¬ (r.singleUse = true ∧ 0 < r.bindingEnergy.getD 0))
    (hx : ¬ (valid = true ∧ r.expiryTime ≤ now)) : r.unbind valid now atReset = { r.release valid now atReset with state := .LIVE } := by
  unfold Record.unbind
  simp only [hp, h0, Bool.and_eq_true, decide_eq_true_eq, Record.expiredAt, if_neg hs, if_neg hx, if_false, Bool.false_eq_true]

end

/-- Only the single-use line of the unbind order moves credit (R22). -/
theorem unbind_credit {r : Record} (valid : Bool) (now : Nat) (atReset : Bool)
    (h : ¬ (r.voidPending = false ∧ r.remaining ≠ 0 ∧ r.singleUse = true ∧ 0 < r.bindingEnergy.getD 0)) :
    (r.unbind valid now atReset).remaining = r.remaining ∧ (r.unbind valid now atReset).forfeited = r.forfeited := by
  cases hp : r.voidPending with
  | true => rw [unbind_of_voidPending hp]; exact ⟨rfl, rfl⟩
  | false =>
    by_cases h0 : r.remaining = 0
    · rw [unbind_of_no_credit hp h0]; exact ⟨rfl, rfl⟩
    · have hs : ¬ (r.singleUse = true ∧ 0 < r.bindingEnergy.getD 0) := fun hs => h ⟨hp, h0, hs⟩
      by_cases hx : valid = true ∧ r.expiryTime ≤ now
      · rw [unbind_of_expired hp h0 hs hx]; exact ⟨rfl, rfl⟩
      · rw [unbind_of_fit hp h0 hs hx]; exact ⟨rfl, rfl⟩

/-- Settles O12: the five lines of R22, taken in their order. -/
theorem unbindOrderGivesNewState : Obligations.UnbindOrderGivesNewState := by
  intro valid now atReset r
  refine ⟨fun hp => ?_, fun hp h0 => ?_, fun hp h0 hs he => ?_, fun hp h0 hs hv hx => ?_, fun hp h0 hs hx => ?_,
    unbind_credit valid now atReset⟩
  · rw [unbind_of_voidPending hp]
  · rw [unbind_of_no_credit hp h0]; exact ⟨rfl, rfl⟩
  · rw [unbind_of_single_use hp h0 ⟨hs, he⟩]; exact ⟨rfl, rfl, rfl, rfl⟩
  · rw [unbind_of_expired hp h0 hs ⟨hv, hx⟩]
  · rw [unbind_of_fit hp h0 hs hx]

end Sys2Proof.Machine
end

section
/-! SUPPORT. The commands of the credit table (R11 to R18) and the expiry sweep (R26). -/

namespace Sys2Proof.Machine

/-! ### A command at work

The buffer stands PENDING while the owner works (R183). -/

/-- The controller that has taken a command. -/
def Controller.taken (code : Nat) (c : Controller) : Controller := { c with port := c.port.take code }

section
variable (c : Controller) (m : Nat)

@[simp] theorem taken_credit : (c.taken m).credit = c.credit := rfl
@[simp] theorem taken_run : (c.taken m).run = c.run := rfl
@[simp] theorem taken_record (k : SlotNo) : (c.taken m).record k = c.record k := rfl
@[simp] theorem taken_keySlot (key : RecordKey) : (c.taken m).keySlot key = c.keySlot key := by cases key <;> rfl
@[simp] theorem taken_answer (n : Nat) (st : Status) (y : Body) : (c.taken m).answer n st y = c.answer n st y := rfl
@[simp] theorem taken_refuse (n : Nat) (st : Status) : (c.taken m).refuse n st = c.answer n st .none := rfl
@[simp] theorem taken_ok (n : Nat) (y : Body) : (c.taken m).ok n y = c.answer n .OK y := rfl
@[simp] theorem taken_updRecord (k : SlotNo) (f : Record → Record) : (c.taken m).updRecord k f = (c.updRecord k f).taken m := rfl

end

/-- A command of a controller that takes events. -/
theorem command_taken (code : Nat) (f : Controller → Controller) {s : State} (h : s.ctl.taking = true) :
    command code f s = .next (s.put (f (s.ctl.taken code))) := command_taking code f h

section
variable {s : State} (h : s.ctl.taking = true)
include h

/-! ### ISSUE (R11) -/

theorem exec_issue {code kind till tier credit validity single : Nat} {kd : RecordKind} {sg : Bool}
    (hk : recordKindOf? kind = some kd) (hs : flagOf? single = some sg) :
    exec (.issue code kind till tier credit validity single) s =
      .next (s.put (s.ctl.issue 0x10 code till tier credit validity kd sg)) := by
  show execIssue code kind till tier credit validity single s = _
  simp only [execIssue, command_taken _ _ h, hk, hs]
  rfl

theorem exec_issue_no_kind {code kind till tier credit validity single : Nat} (hk : recordKindOf? kind = none) :
    exec (.issue code kind till tier credit validity single) s = .next (s.put (s.ctl.answer 0x10 .BAD_PARAM .none)) := by
  show execIssue code kind till tier credit validity single s = _
  simp only [execIssue, command_taken _ _ h, hk, taken_refuse]

end

/-- ISSUE's parameters lie in their ranges (R11). -/
theorem issueParams_iff (code till tier credit validity : Nat) (kind : RecordKind) (single : Bool) :
    issueParams code till tier credit validity kind single = true ↔
      code ≠ 0 ∧ code < 2 ^ 64 ∧ till ≤ 63 ∧ tier ≤ 3 ∧ 1 ≤ credit ∧ credit ≤ 2000000 ∧ 1 ≤ validity ∧ validity ≤ 525600
        ∧ (kind = .PASS → till = 0 ∧ single = false) := by
  unfold issueParams
  rw [Bool.and_eq_true, decide_eq_true_eq]
  simp only [Config.creditMax, Config.validityMax, and_assoc]
  cases kind <;> cases single <;> simp

/-- A record put into a FREE slot under a code that no other record holds is the one that the code finds. -/
theorem findCode_set_of_none {t : CreditTable} {r : Record} (k : SlotNo) (hz : r.code ≠ 0) (hs : r.state ≠ .FREE)
    (hn : t.findCode r.code = none) : CreditTable.findCode { slots := t.slots.set k r } r.code = some k := by
  cases hf : CreditTable.findCode { slots := t.slots.set k r } r.code with
  | none =>
    have hk := ((findCode_none_iff.mp hf).resolve_left hz) k
    simp [hs] at hk
  | some j =>
    obtain ⟨hj, hc, -⟩ := findCode_some hf
    rw [Table.get_set] at hj hc
    split at hj
    · next hkj => rw [hkj]
    · next hkj =>
      rw [if_neg hkj] at hc
      exact absurd hc ((((findCode_none_iff.mp hn).resolve_left hz) j).resolve_left hj)

/-- A slot that goes from one state to another counts in the one and no more in the other (R5). -/
theorem count_set (t : CreditTable) (k : SlotNo) (r : Record) (st : RecordState) (hr : r.state = st) (hk : (t.slots.get k).state ≠ st) :
    CreditTable.count { slots := t.slots.set k r } st = t.count st + 1 := by
  unfold CreditTable.count Table.set
  have hlt : k.val < t.slots.data.length := by rw [t.slots.size_eq]; exact k.isLt
  rw [List.countP_set hlt]
  simp only [Table.get] at hk
  simp [hr, hk]

/-- Settles O7: the refusals of R11 in their order, then the record in the slot of R8. -/
theorem issueMakesALiveRecord : Obligations.IssueMakesALiveRecord := by
  intro s code kind till tier credit validity single sg h hsg
  dsimp only
  refine ⟨fun hk => exec_issue_no_kind h hk, fun kd hk => ?_⟩
  rw [exec_issue h hk hsg]
  simp only [← issueParams_iff]
  refine ⟨fun hr => ?_, fun hr hv => ?_, fun hr hv hx => ?_, fun hr hv hx => ?_⟩
  · simp [Controller.issue, hr, Controller.refuse]
  · simp [Controller.issue, hr, hv, Controller.refuse]
  · simp [Controller.issue, hr, hv, hx, Controller.refuse]
  · have hlimit : ¬ u32Max < s.ctl.run.siteTime + validity * 60 := Nat.not_lt.mpr hx
    refine ⟨fun k hf => ?_, fun hf => ⟨fun hp => ?_, fun k hp => ⟨?_, ?_, ?_⟩⟩⟩
    · simp [Controller.issue, hr, hv, hlimit, hf, Controller.refuse]
    · simp [Controller.issue, hr, hv, hlimit, hf, hp, Controller.refuse]
    · simp [Controller.issue, hr, hv, hlimit, hf, hp, Controller.ok, Record.issued, Record.free]
    · exact findCode_set_of_none k ((issueParams_iff ..).mp hr).1 (by simp) hf
    · exact count_set _ k _ _ rfl (by
        have hfree := ((placement_eq_some_iff _ _ _).mp hp).1.1
        exact fun hl => absurd (hfree.symm.trans hl) (by decide))

/-! ### AMEND (R12, R13) -/

theorem amendRefused_iff (r : Record) :
    r.amendRefused = true ↔
      r.state = .VOIDED ∨ (r.state = .SPENT ∧ r.spendReason = some .SINGLE_USE) ∨ (r.state = .BOUND ∧ r.voidPending = true) := by
  simp [Record.amendRefused, or_assoc]

/-- The optional parameters of AMEND lie in their ranges: the tier that is absent stands for 0. -/
theorem amend_ranges_iff (add : Nat) (tier : Option Nat) :
    ¬ (Config.creditMax < add ∨ 3 < tier.getD 0) ↔ add ≤ 2000000 ∧ ∀ x, tier = some x → x ≤ 3 := by
  cases tier <;> simp [Config.creditMax]

/-- An expiry time that is given lies after site time. -/
theorem amend_expiry_iff (now : Nat) (expiry : Option Nat) :
    (expiry.map fun t => decide (t ≤ now)).getD false = true ↔ ∃ x, expiry = some x ∧ x ≤ now := by
  cases expiry <;> simp

section
variable {s : State} (h : s.ctl.taking = true)
include h

theorem exec_amend_out_of_range {code add : Nat} {expiry tier : Option Nat} (hr : ¬ (add ≤ 2000000 ∧ ∀ x, tier = some x → x ≤ 3)) :
    exec (.amend code add expiry tier) s = .next (s.put (s.ctl.answer 0x11 .BAD_PARAM .none)) := by
  rw [← amend_ranges_iff, not_not] at hr
  show execAmend code add expiry tier s = _
  simp only [execAmend, command_taken _ _ h, if_pos hr, taken_refuse]

theorem exec_amend_not_found {code add : Nat} {expiry tier : Option Nat} (hr : add ≤ 2000000 ∧ ∀ x, tier = some x → x ≤ 3)
    (hf : s.ctl.credit.findCode code = none) :
    exec (.amend code add expiry tier) s = .next (s.put (s.ctl.answer 0x11 .NOT_FOUND .none)) := by
  rw [← amend_ranges_iff] at hr
  show execAmend code add expiry tier s = _
  simp only [execAmend, command_taken _ _ h, if_neg hr, taken_credit, hf, taken_refuse]

/-- AMEND of a record that is found, its refusals and its effect (R12). -/
theorem exec_amend_found {code add : Nat} {expiry tier : Option Nat} {k : SlotNo} (hr : add ≤ 2000000 ∧ ∀ x, tier = some x → x ≤ 3)
    (hf : s.ctl.credit.findCode code = some k) :
    let r := s.ctl.record k
    let a := r.accepts add
    let r' := (r.addCredit a expiry tier).amendState s.ctl.run.timeValid s.ctl.run.siteTime a expiry
    exec (.amend code add expiry tier) s = .next (s.put (
      if r.amendRefused = true then s.ctl.answer 0x11 .WRONG_STATE .none
      else if (expiry.isSome && !s.ctl.run.timeValid) = true then s.ctl.answer 0x11 .NO_TIME .none
      else if (expiry.map fun x => decide (x ≤ s.ctl.run.siteTime)).getD false = true then s.ctl.answer 0x11 .BAD_PARAM .none
      else (s.ctl.updRecord k fun _ => r').answer 0x11 (if a = add then .OK else .CLAMPED)
        (.amended a r'.state r'.remaining r'.expiryTime r'.tier))) := by
  rw [← amend_ranges_iff] at hr
  show execAmend code add expiry tier s = _
  simp only [execAmend, command_taken _ _ h, if_neg hr, taken_credit, hf]
  rfl

end

/-- AMEND changes the state and the spend reason alone beside credit, expiry time and tier (R13). -/
theorem amendState_frame (r : Record) (valid : Bool) (now a : Nat) (e : Option Nat) :
    r.amendState valid now a e =
      { r with state := (r.amendState valid now a e).state, spendReason := (r.amendState valid now a e).spendReason } := by
  unfold Record.amendState
  repeat' split
  all_goals rfl

section
variable {r : Record} {valid : Bool} {now a : Nat} {e : Option Nat}

theorem amendState_of_live_or_bound (h : r.state = .LIVE ∨ r.state = .BOUND) : r.amendState valid now a e = r := by
  rcases h with h | h <;> simp [Record.amendState, h]

theorem amendState_of_lapsed (h : r.state = .LAPSED) :
    r.amendState valid now a e = { r with state := if e.isSome then .LIVE else .LAPSED } := by
  unfold Record.amendState
  rw [h]
  dsimp only
  split
  · rfl
  · rw [← h]

theorem amendState_of_spent (h : r.state = .SPENT) (ha : 0 < a) :
    r.amendState valid now a e =
      { r with state := if valid = true ∧ r.expiryTime ≤ now then .LAPSED else .LIVE, spendReason := none } := by
  unfold Record.amendState
  rw [h]
  dsimp only
  simp only [Nat.ne_of_gt ha, if_false, Record.expiredAt, Bool.and_eq_true, decide_eq_true_eq]
  split <;> rfl

theorem amendState_of_spent_none (h : r.state = .SPENT) : r.amendState valid now 0 e = r := by
  simp [Record.amendState, h]

theorem amendState_spendReason (h : r.state ≠ .SPENT) : (r.amendState valid now a e).spendReason = r.spendReason := by
  unfold Record.amendState
  split
  · split <;> rfl
  · next hs => exact absurd hs h
  · rfl

end

/-- What AMEND makes of a record (R12, R13). -/
theorem amended_record (r : Record) (a : Nat) (e tier : Option Nat) (valid : Bool) (now : Nat) :
    let r' := (r.addCredit a e tier).amendState valid now a e
    r'.granted = r.granted + a ∧ r'.remaining = r.remaining + a ∧ r'.expiryTime = e.getD r.expiryTime ∧ r'.tier = tier.getD r.tier
      ∧ r' = { r with granted := r'.granted, remaining := r'.remaining, expiryTime := r'.expiryTime, tier := r'.tier
                      state := r'.state, spendReason := r'.spendReason }
      ∧ (r.state ≠ .SPENT → r'.spendReason = r.spendReason)
      ∧ (r.state = .LIVE ∨ r.state = .BOUND → r'.state = r.state)
      ∧ (r.state = .LAPSED → r'.state = if e.isSome then .LIVE else .LAPSED)
      ∧ (r.state = .SPENT → a = 0 → r'.state = .SPENT ∧ r'.spendReason = r.spendReason)
      ∧ (r.state = .SPENT → 0 < a → r'.spendReason = none
        ∧ r'.state = if valid = true ∧ r'.expiryTime ≤ now then .LAPSED else .LIVE) := by
  intro r'
  have hframe : r' = { r.addCredit a e tier with state := r'.state, spendReason := r'.spendReason } := amendState_frame _ _ _ _ _
  have hgranted : r'.granted = r.granted + a := congrArg Record.granted hframe
  have hremaining : r'.remaining = r.remaining + a := congrArg Record.remaining hframe
  have hexpiry : r'.expiryTime = e.getD r.expiryTime := congrArg Record.expiryTime hframe
  have htier : r'.tier = tier.getD r.tier := congrArg Record.tier hframe
  refine ⟨hgranted, hremaining, hexpiry, htier, ?_, amendState_spendReason (r := r.addCredit a e tier), fun h => ?_, fun h => ?_,
    fun h h0 => ?_, fun h ha => ?_⟩
  · rw [hgranted, hremaining, hexpiry, htier]
    exact hframe
  · have heq : r' = r.addCredit a e tier := amendState_of_live_or_bound (r := r.addCredit a e tier) h
    rw [heq]
    rfl
  · exact congrArg Record.state (amendState_of_lapsed (r := r.addCredit a e tier) h)
  · subst h0
    have heq : r' = r.addCredit 0 e tier := amendState_of_spent_none h
    rw [heq]
    exact ⟨h, rfl⟩
  · have heq := amendState_of_spent (r := r.addCredit a e tier) (valid := valid) (now := now) (e := e) h ha
    rw [hexpiry]
    exact ⟨congrArg Record.spendReason heq, congrArg Record.state heq⟩

/-- Settles O8: the refusals of R12 in their order, then credit, expiry time and tier, and the state by the table of R13. -/
theorem amendAddsCreditAndState : Obligations.AmendAddsCreditAndState := by
  intro s code add expiry tier h
  dsimp only
  refine ⟨fun hr => exec_amend_out_of_range h hr, fun hr hf => exec_amend_not_found h hr hf, fun k hr hf => ?_⟩
  simp only [exec_amend_found h hr hf, ← amendRefused_iff]
  refine ⟨fun hw => by rw [if_pos hw], fun hw he hv => ?_, fun x hw he hv hx => ?_, fun hw he => ?_⟩
  · rw [if_neg hw, if_pos (by simp [he, hv])]
  · rw [if_neg hw, if_neg (by simp [hv]), if_pos ((amend_expiry_iff _ _).mpr ⟨x, he, hx⟩)]
  · have htime : ¬ (expiry.isSome && !s.ctl.run.timeValid) = true := by
      cases expiry with
      | none => simp
      | some x => simp [(he x rfl).1]
    have hlater : ¬ (expiry.map fun x => decide (x ≤ s.ctl.run.siteTime)).getD false = true := fun hx => by
      obtain ⟨x, hx, hle⟩ := (amend_expiry_iff _ _).mp hx
      exact Nat.not_lt.mpr hle (he x hx).2
    rw [if_neg hw, if_neg htime, if_neg hlater]
    exact ⟨_, rfl, amended_record _ _ _ _ _ _⟩

/-! ### VOID and RETIRE (R14, R16) -/

theorem slotOf_val (k : SlotNo) : slotOf? k.val = some k := by simp [slotOf?, k.isLt]

theorem slotOf_none {n : Nat} (h : 1023 < n) : slotOf? n = none := by simp [slotOf?]; omega

/-- The slot of a key that names a record. -/
theorem keySlot_of_named {c : Controller} {key : RecordKey} {k : SlotNo}
    (h : (∃ code, key = .code code ∧ c.credit.findCode code = some k) ∨ (key = .slot k.val ∧ (c.record k).state ≠ .FREE)) :
    c.keySlot key = .ok k := by
  rcases h with ⟨code, rfl, hf⟩ | ⟨rfl, hs⟩
  · simp [Controller.keySlot, hf]
  · simp [Controller.keySlot, slotOf_val, hs]

section
variable {s : State} (h : s.ctl.taking = true)
include h

theorem exec_void_not_found {code : Nat} (hf : s.ctl.credit.findCode code = none) :
    exec (.void code) s = .next (s.put (s.ctl.answer 0x12 .NOT_FOUND .none)) := by
  show execVoid code s = _
  simp only [execVoid, command_taken _ _ h, taken_credit, hf, taken_refuse]

theorem exec_void_refused {code : Nat} {k : SlotNo} (hf : s.ctl.credit.findCode code = some k)
    (hw : (s.ctl.record k).kind = .PASS ∨ (s.ctl.record k).state = .VOIDED
      ∨ ((s.ctl.record k).state = .BOUND ∧ (s.ctl.record k).voidPending = true)) :
    exec (.void code) s = .next (s.put (s.ctl.answer 0x12 .WRONG_STATE .none)) := by
  show execVoid code s = _
  simp only [execVoid, command_taken _ _ h, taken_credit, hf, taken_record, hw, if_true, taken_refuse]

theorem exec_void_unbound {code : Nat} {k : SlotNo} (hf : s.ctl.credit.findCode code = some k) (hk : (s.ctl.record k).kind ≠ .PASS)
    (hv : (s.ctl.record k).state ≠ .VOIDED) (hb : (s.ctl.record k).state ≠ .BOUND) :
    exec (.void code) s = .next (s.put ((s.ctl.updRecord k Record.voidNow).answer 0x12 .OK
      (.voided (s.ctl.record k).remaining .VOIDED false))) := by
  show execVoid code s = _
  simp only [execVoid, command_taken _ _ h, taken_credit, hf, taken_record, hk, hv, hb, false_and, or_self, if_false, taken_updRecord,
    taken_ok]

theorem exec_retire_refused {key : RecordKey} {st : Status} (hk : s.ctl.keySlot key = .error st) :
    exec (.retire key) s = .next (s.put (s.ctl.answer 0x13 st .none)) := by
  show execRetire key s = _
  simp only [execRetire, command_taken _ _ h, taken_keySlot, hk, taken_refuse]

theorem exec_retire_bound {key : RecordKey} {k : SlotNo} (hk : s.ctl.keySlot key = .ok k) (hb : (s.ctl.record k).state = .BOUND) :
    exec (.retire key) s = .next (s.put (s.ctl.answer 0x13 .BOUND .none)) := by
  show execRetire key s = _
  simp only [execRetire, command_taken _ _ h, taken_keySlot, hk, taken_record, hb, if_true, taken_refuse]

theorem exec_retire_live_receipt {key : RecordKey} {k : SlotNo} (hk : s.ctl.keySlot key = .ok k)
    (hl : (s.ctl.record k).kind = .RECEIPT ∧ (s.ctl.record k).state = .LIVE) :
    exec (.retire key) s = .next (s.put (s.ctl.answer 0x13 .WRONG_STATE .none)) := by
  show execRetire key s = _
  simp only [execRetire, command_taken _ _ h, taken_keySlot, hk, taken_record, hl, reduceCtorEq, if_false, and_self, if_true,
    taken_refuse]

theorem exec_retire_done {key : RecordKey} {k : SlotNo} (hk : s.ctl.keySlot key = .ok k) (hb : (s.ctl.record k).state ≠ .BOUND)
    (hl : ¬ ((s.ctl.record k).kind = .RECEIPT ∧ (s.ctl.record k).state = .LIVE)) :
    exec (.retire key) s = .next (s.put ((s.ctl.updRecord k fun _ => Record.free).answer 0x13 .OK (.record k (s.ctl.record k)))) := by
  show execRetire key s = _
  simp only [execRetire, command_taken _ _ h, taken_keySlot, hk, taken_record, hb, hl, if_false, taken_updRecord, taken_ok]

end

/-- No code finds a slot once it is freed, where the codes were unique (R6, R16). -/
theorem findCode_set_free {t : CreditTable} (hu : t.codesUnique) (k : SlotNo) (hk : (t.slots.get k).state ≠ .FREE) :
    CreditTable.findCode { slots := t.slots.set k .free } (t.slots.get k).code = none := by
  refine findCode_none_iff.mpr (.inr fun j => ?_)
  rw [Table.get_set]
  split
  · exact .inl rfl
  · next hkj =>
    by_contra hj
    push Not at hj
    exact hkj (hu.2 k j hk hj.1 hj.2.symm)

/-- Settles O9. -/
theorem voidCancelsAndRetireFreesTheSlot : Obligations.VoidCancelsAndRetireFreesTheSlot := by
  refine ⟨fun s code h => ⟨fun hf => exec_void_not_found h hf, fun k hf => ⟨fun hw => exec_void_refused h hf hw, fun hkind hst => ?_⟩⟩,
    fun s key h => ⟨fun n hkey hn => ?_, fun code hkey hf => ?_, fun k hkey hfree => ?_, fun k hnamed => ?_⟩⟩
  · refine exec_void_unbound h hf (by simp [hkind]) ?_ ?_
    · rcases hst with hst | hst | hst <;> simp [hst]
    · rcases hst with hst | hst | hst <;> simp [hst]
  · exact exec_retire_refused h (by simp [hkey, Controller.keySlot, slotOf_none hn])
  · exact exec_retire_refused h (by simp [hkey, Controller.keySlot, hf])
  · exact exec_retire_refused h (by simp [hkey, Controller.keySlot, slotOf_val, hfree])
  · have hk := keySlot_of_named hnamed
    have hnf : (s.ctl.record k).state ≠ .FREE := keySlot_ok hk
    refine ⟨fun hb => exec_retire_bound h hk hb, fun hl hr => exec_retire_live_receipt h hk ⟨hr, hl⟩,
      fun hb hl => ⟨exec_retire_done h hk hb fun hrl => hl ⟨hrl.2, hrl.1⟩, count_set _ k _ _ rfl hnf, fun hu => findCode_set_free hu k hnf⟩⟩

/-! ### LOOKUP, READ_SLOT and FIND_NEXT (R17, R18) -/

section
variable {s : State} (h : s.ctl.taking = true)
include h

theorem exec_lookup_found {code : Nat} {k : SlotNo} (hf : s.ctl.credit.findCode code = some k) :
    exec (.lookup code) s = .next (s.put ((s.ctl.updRecord k fun r => { r with changed := false }).answer 0x14 .OK
      (.record k (s.ctl.record k)))) := by
  show execLookup code s = _
  simp only [execLookup, command_taken _ _ h, taken_credit, hf, Controller.readRecord, taken_updRecord, taken_record, taken_ok]

theorem exec_lookup_not_found {code : Nat} (hf : s.ctl.credit.findCode code = none) :
    exec (.lookup code) s = .next (s.put (s.ctl.answer 0x14 .NOT_FOUND .none)) := by
  show execLookup code s = _
  simp only [execLookup, command_taken _ _ h, taken_credit, hf, taken_refuse]

theorem exec_readSlot (k : SlotNo) :
    exec (.readSlot k.val) s = .next (s.put ((s.ctl.updRecord k fun r => { r with changed := false }).answer 0x15 .OK
      (.record k (s.ctl.record k)))) := by
  show execReadSlot k.val s = _
  simp only [execReadSlot, command_taken _ _ h, slotOf_val, Controller.readRecord, taken_updRecord, taken_record, taken_ok]

theorem exec_readSlot_above {n : Nat} (hn : 1023 < n) :
    exec (.readSlot n) s = .next (s.put (s.ctl.answer 0x15 .BAD_PARAM .none)) := by
  show execReadSlot n s = _
  simp only [execReadSlot, command_taken _ _ h, slotOf_none hn, taken_refuse]

theorem exec_findNext_refused {start only : Nat} {states : Byte} {ch : Bool} (ho : flagOf? only = some ch)
    (hp : 1023 < start ∨ states &&& 0x3F#8 = 0#8) :
    exec (.findNext start states only) s = .next (s.put (s.ctl.answer 0x16 .BAD_PARAM .none)) := by
  show execFindNext start states only s = _
  simp only [execFindNext, command_taken _ _ h, ho, if_pos hp, taken_refuse]

theorem exec_findNext {start only : Nat} {states : Byte} {ch : Bool} {found : Option SlotNo} (ho : flagOf? only = some ch)
    (hp : ¬ (1023 < start ∨ states &&& 0x3F#8 = 0#8)) (hf : s.ctl.credit.findNext start states ch = found) :
    exec (.findNext start states only) s = .next (s.put (s.ctl.answer 0x16 .OK
      (.found found (found.map fun k => (s.ctl.record k).state) (found.map fun k => (s.ctl.record k).code) s.ctl.credit.counts))) := by
  show execFindNext start states only s = _
  simp only [execFindNext, command_taken _ _ h, ho, if_neg hp, taken_credit, hf, taken_record, taken_ok]

end

/-- The test of FIND_NEXT: at or above the start, in a named state, and changed if asked so (R18). -/
theorem findNext_test_iff (start k : Nat) (states : Byte) (ch : Bool) (r : Record) :
    (decide (start ≤ k) && states.getLsbD r.state.bit && (!ch || r.changed)) = true ↔
      start ≤ k ∧ states.getLsbD r.state.bit = true ∧ (ch = true → r.changed = true) := by
  cases ch <;> simp [and_assoc]

/-- Settles O11. -/
theorem creditTableIsReadBySlotAndCode : Obligations.CreditTableIsReadBySlotAndCode := by
  refine ⟨fun s h => ⟨fun code k hf => exec_lookup_found h hf, fun code hf => exec_lookup_not_found h hf, exec_readSlot h,
    fun n hn => exec_readSlot_above h hn⟩, fun s start states only ch h ho => ?_⟩
  dsimp only
  simp only [← findNext_test_iff, Bool.not_eq_true]
  refine ⟨exec_findNext_refused h ho, fun hs hm => ?_⟩
  have hp : ¬ (1023 < start ∨ states &&& 0x3F#8 = 0#8) := fun hp => hp.elim (Nat.not_lt.mpr hs) hm
  exact ⟨fun k hk hmin => exec_findNext h ho hp (lowest_eq_some_iff.mpr ⟨hk, hmin⟩),
    fun hnone => exec_findNext h ho hp (lowest_eq_none_iff.mpr hnone)⟩

/-! ### The expiry sweep (R26) -/

theorem sweep_of_expired {now : Nat} {r : Record} (h : r.state = .LIVE ∧ r.expiryTime ≤ now) :
    r.sweep now = { r with state := .LAPSED, changed := true } := if_pos h

theorem sweep_of_fit {now : Nat} {r : Record} (h : ¬ (r.state = .LIVE ∧ r.expiryTime ≤ now)) : r.sweep now = r := if_neg h

/-- The sweep of the records, its notice, and nothing else (R26). -/
theorem sweep_eq (c : Controller) (now : Nat) :
    c.sweep now = { c with
      credit := { slots := c.credit.slots.map (Record.sweep now) }
      port := if c.credit.slots.data.any (Record.lapses now) then c.port.raise .receiptLapse else c.port } := by
  unfold Controller.sweep
  dsimp only
  split <;> rfl

/-- Some record lapses in the sweep exactly when a LIVE record's expiry time has come. -/
theorem any_lapses_iff (c : Controller) (now : Nat) :
    c.credit.slots.data.any (Record.lapses now) = true ↔ ∃ k, (c.record k).state = .LIVE ∧ (c.record k).expiryTime ≤ now := by
  rw [Table.any_data]
  simp [Record.lapses, Record.expiredAt, Controller.record]

/-- EXPIRY_SWEEP at a boundary that waits for it. -/
theorem exec_expirySweep {s : State} {now : Nat} (h : s.ctl.taking = true) (hn : s.ctl.run.sweepAt = some now) :
    exec .expirySweep s = .next (s.put
      { (if s.ctl.run.timeValid then s.ctl.sweep now else s.ctl) with run := { s.ctl.run with sweepAt := none } }) := by
  show execExpirySweep s = _
  simp only [execExpirySweep, event_taking _ h, hn]

/-- Settles O15. -/
theorem sweepLapsesExpiredLiveRecords : Obligations.SweepLapsesExpiredLiveRecords := by
  intro s h
  refine ⟨fun hn => ?_, fun now hn => ⟨_, exec_expirySweep h hn, ?_⟩⟩
  · show execExpirySweep s = _
    simp only [execExpirySweep, event_taking _ h, hn]
  · cases hv : s.ctl.run.timeValid with
    | false => simp
    | true =>
      simp only [if_true, sweep_eq, Bool.true_eq_false, false_implies, true_and, true_implies]
      refine ⟨fun k hl hx => ?_, fun k hk => ?_, ?_⟩
      · exact (Table.get_map _ _ _).trans (sweep_of_expired ⟨hl, hx⟩)
      · exact (Table.get_map _ _ _).trans (sweep_of_fit hk)
      · simp only [← any_lapses_iff]

end Sys2Proof.Machine
end

section
/-! SUPPORT. What the shared operations do to the outlet they are for and leave of the others: notices to nodes (R132), targets and their
release (R53, R54), pause reasons (R43), an unbind (R20 to R22), the end of a session (R39) and a funding withdrawal (R45). -/

namespace Sys2Proof.Machine

/-! ### Frames over outlets and records -/

theorem alike_iff (o o' : Outlet) : o.alike o' ↔ ∃ v, o' = { o with raiseReleased := v } := by
  unfold Outlet.alike
  constructor
  · intro h
    exact ⟨o'.raiseReleased, by rw [← h]⟩
  · rintro ⟨v, rfl⟩
    rfl

theorem outletsBut_refl (c : Controller) (b : Bay) : c.outletsBut b c := fun _ _ => rfl

theorem outletsBut_trans {c d e : Controller} {b : Bay} (h : c.outletsBut b d) (h' : d.outletsBut b e) : c.outletsBut b e := by
  intro x hx
  obtain ⟨v, hv⟩ := (alike_iff _ _).mp (h x hx)
  obtain ⟨w, hw⟩ := (alike_iff _ _).mp (h' x hx)
  exact (alike_iff _ _).mpr ⟨w, by rw [hw, hv]⟩

theorem outletsBut_of_eq {c d : Controller} {b : Bay} (h : ∀ x, x ≠ b → d.outlet x = c.outlet x) : c.outletsBut b d := fun x hx => by
  rw [h x hx]
  rfl

theorem outlet_eq_of_outlets {c d : Controller} (h : d.outlets = c.outlets) (b : Bay) : d.outlet b = c.outlet b := by
  unfold Controller.outlet
  rw [h]

theorem record_eq_of_credit {c d : Controller} (h : d.credit = c.credit) (k : SlotNo) : d.record k = c.record k := by
  unfold Controller.record
  rw [h]

theorem node_eq_of_link {c d : Controller} (h : d.link = c.link) (a : Addr) : d.node a = c.node a := by
  unfold Controller.node
  rw [h]

theorem bay_eq_of_settings {c d : Controller} (h : d.settings = c.settings) (b : Bay) : d.bay b = c.bay b := by
  unfold Controller.bay Controller.inForce
  rw [h]

theorem updOutlet_outletsBut (c : Controller) (b : Bay) (f : Outlet → Outlet) : c.outletsBut b (c.updOutlet b f) :=
  outletsBut_of_eq fun x hx => by rw [updOutlet_outlet, if_neg (Ne.symm hx)]

theorem judgeRelease_outletsBut (c : Controller) (b : Bay) : c.outletsBut b c.judgeRelease := fun x _ =>
  (alike_iff _ _).mpr (judgeRelease_outlet_eq c x)

/-- A new target and the judging of the release change three fields of the outlet. -/
theorem markTarget_judgeRelease_outlet (c : Controller) (b : Bay) (w : Nat) :
    ∃ p v ch, (c.markTarget b w).judgeRelease.outlet b = { c.outlet b with pending := p, raiseReleased := v, changed := ch } := by
  obtain ⟨v, hv⟩ := judgeRelease_outlet_eq (c.markTarget b w) b
  rw [hv, markTarget_outlet]
  split
  · exact ⟨_, v, _, rfl⟩
  · exact ⟨_, v, _, rfl⟩

theorem markTarget_outletsBut (c : Controller) (b : Bay) (w : Nat) : c.outletsBut b (c.markTarget b w) :=
  outletsBut_of_eq fun x hx => by
    rw [markTarget_outlet, if_neg]
    exact fun h => hx h.1.symm

@[simp] theorem withdraw_outlet (c : Controller) (b x : Bay) : (c.withdraw b).outlet x = c.outlet x := rfl
@[simp] theorem dequeue_outlet (c : Controller) (b x : Bay) : (c.dequeue b).outlet x = c.outlet x := rfl

@[simp] theorem enqueue_outlet (c : Controller) (b x : Bay) : (c.enqueue b).outlet x = c.outlet x :=
  outlet_eq_of_outlets (enqueue_leaves c b).2.1 x

@[simp] theorem tellNode_outlet (c : Controller) (b x : Bay) (k : NodeNoticeKind) : (c.tellNode b k).outlet x = c.outlet x :=
  outlet_eq_of_outlets (tellNode_leaves c b k).2.1 x

@[simp] theorem tellNode_record (c : Controller) (b : Bay) (kind : NodeNoticeKind) (k : SlotNo) :
    (c.tellNode b kind).record k = c.record k := record_eq_of_credit (tellNode_leaves c b kind).1 k

@[simp] theorem tellNode_bay (c : Controller) (b x : Bay) (k : NodeNoticeKind) : (c.tellNode b k).bay x = c.bay x :=
  bay_eq_of_settings (tellNode_leaves c b k).2.2.2.2.1 x

/-! ### Notices to nodes (R132) -/

/-- A bay's outlet has a list to tell: its map entry is valid and names a known pedestal. -/
def Controller.listens (c : Controller) (b : Bay) : Prop :=
  (c.bay b).map.valid = true ∧ (c.node (c.bay b).map.node).known = true ∧ (c.node (c.bay b).map.node).kind = some .PEDESTAL

/-- A notice list that an entry has joined, once. -/
def joinNotice (l : List NodeNotice) (e : NodeNotice) : List NodeNotice := if e ∈ l then l else l ++ [e]

theorem tellNode_of_not_listens {c : Controller} {b : Bay} (h : ¬ c.listens b) (kind : NodeNoticeKind) : c.tellNode b kind = c := by
  unfold Controller.tellNode
  dsimp only
  rw [if_neg]
  simp only [Bool.and_eq_true, beq_iff_eq]
  exact fun ht => h ⟨ht.1.1.1, ht.1.1.2, ht.1.2⟩

theorem tellNode_node {c : Controller} {b : Bay} (h : c.listens b) (kind : NodeNoticeKind) (x : Addr) :
    (c.tellNode b kind).node x = if x = (c.bay b).map.node
      then { c.node (c.bay b).map.node with
        notices := joinNotice (c.node (c.bay b).map.node).notices { outlet := (c.bay b).map.outlet, kind := kind } }
      else c.node x := by
  obtain ⟨hv, hk, hp⟩ := h
  unfold Controller.tellNode joinNotice
  simp only [hv, hk, hp, beq_self_eq_true, Bool.and_true, Bool.true_and, Bool.not_eq_true', List.contains_eq_mem, decide_eq_false_iff_not]
  split
  · rw [updNode_node]
    by_cases hx : x = (c.bay b).map.node
    · rw [if_pos hx, if_pos hx.symm]
    · rw [if_neg hx, if_neg (Ne.symm hx)]
  · next hm =>
    split
    · next hx => rw [hx, if_pos (not_not.mp hm)]
    · rfl

/-- A told node stays the node it was. -/
theorem tellNode_listens {c : Controller} {b : Bay} (h : c.listens b) (kind : NodeNoticeKind) : (c.tellNode b kind).listens b := by
  unfold Controller.listens
  rw [tellNode_bay, tellNode_node h, if_pos rfl]
  exact h

theorem listens_congr {c d : Controller} {b : Bay} (hl : d.link = c.link) (hs : d.settings = c.settings) : d.listens b ↔ c.listens b := by
  unfold Controller.listens
  rw [bay_eq_of_settings hs, node_eq_of_link hl]

/-- Of a controller, a telling reads and changes the link, and reads the map. -/
theorem tellNode_link_congr {c d : Controller} (hl : d.link = c.link) (hs : d.settings = c.settings) (b : Bay) (kind : NodeNoticeKind) :
    (d.tellNode b kind).link = (c.tellNode b kind).link := by
  unfold Controller.tellNode Controller.updNode
  dsimp only
  rw [bay_eq_of_settings hs, node_eq_of_link hl]
  split
  · rw [hl]
  · exact hl

/-- One notice is told. -/
theorem tells_one {c c' : Controller} {b : Bay} {kind : NodeNoticeKind} (h : c'.link = (c.tellNode b kind).link) : c.tells c' b [kind] := by
  have hn : ∀ x, c'.node x = (c.tellNode b kind).node x := node_eq_of_link h
  refine ⟨fun hl => ⟨?_, ?_, fun x hx => ?_⟩, fun hl => ?_⟩
  · rw [h]; exact tellNode_link c b kind
  · rw [hn, tellNode_node hl, if_pos rfl]; rfl
  · rw [hn, tellNode_node hl, if_neg hx]
  · rw [h, tellNode_of_not_listens hl]

/-- Two notices are told, one after the other. -/
theorem tells_two {c d c' : Controller} {b : Bay} {kind kind' : NodeNoticeKind} (hd : d.link = (c.tellNode b kind).link)
    (hs : d.settings = c.settings) (h : c'.link = (d.tellNode b kind').link) : c.tells c' b [kind, kind'] := by
  have hdl : d.link = (c.tellNode b kind).link := hd
  have hds : d.settings = (c.tellNode b kind).settings := hs.trans (tellNode_leaves c b kind).2.2.2.2.1.symm
  rw [tellNode_link_congr hdl hds] at h
  have hn : ∀ x, c'.node x = ((c.tellNode b kind).tellNode b kind').node x := node_eq_of_link h
  refine ⟨fun hl => ?_, fun hl => ?_⟩
  · have hl' := tellNode_listens (show c.listens b from hl) kind
    refine ⟨?_, ?_, fun x hx => ?_⟩
    · rw [h, tellNode_link, tellNode_link c]
    · rw [hn, tellNode_node hl', tellNode_bay, if_pos rfl, tellNode_node hl, if_pos rfl]; rfl
    · rw [hn, tellNode_node hl', tellNode_bay, if_neg hx, tellNode_node hl, if_neg hx]
  · rw [h, tellNode_of_not_listens (show ¬ c.listens b from hl), tellNode_of_not_listens hl]

/-! ### Pause reasons (R43) -/

@[simp] theorem withdraw_draws (c : Controller) (b : Bay) : (c.withdraw b).pool.draws = c.pool.draws := rfl
@[simp] theorem dequeue_draws (c : Controller) (b : Bay) : (c.dequeue b).pool.draws = c.pool.draws := rfl
@[simp] theorem depart_draws (c : Controller) (b : Bay) : (c.depart b).pool.draws = c.pool.draws := rfl

theorem put_eq (o : Outlet) (st : OutletState) : ∃ x y, o.put st = { o with state := x, beforeSilence := y } := by
  unfold Outlet.put
  split
  · exact ⟨_, _, rfl⟩
  · exact ⟨_, _, rfl⟩

theorem has_put (r : PauseReason) (v : Bool) (rs : Reasons) : (rs.put r v).has r = v := by cases r <;> rfl

/-- A change of one outlet, then of the queue and the computed allocations alone, then a target of 0 W for that outlet. -/
theorem change_then_target {c d : Controller} {b : Bay} {f : Outlet → Outlet} (h : d.outlets = (c.updOutlet b f).outlets) (w : Nat) :
    c.outletsBut b (d.markTarget b w).judgeRelease
      ∧ ∃ p v ch, (d.markTarget b w).judgeRelease.outlet b = { f (c.outlet b) with pending := p, raiseReleased := v, changed := ch } := by
  have hd : ∀ x, d.outlet x = (c.updOutlet b f).outlet x := outlet_eq_of_outlets h
  constructor
  · refine outletsBut_trans ?_ (outletsBut_trans (markTarget_outletsBut d b w) (judgeRelease_outletsBut _ b))
    exact outletsBut_of_eq fun x hx => by rw [hd, updOutlet_outlet, if_neg (Ne.symm hx)]
  · obtain ⟨p, v, ch, he⟩ := markTarget_judgeRelease_outlet d b w
    exact ⟨p, v, ch, by rw [he, hd, updOutlet_outlet_self]; rfl⟩

/-- The four ways that a reason is added (R43): it stands already, or the outlet is in no session state, and nothing changes; or the
outlet's set takes it, and but for the outlet's state and target the rest stands. -/
theorem addReason_cases (c : Controller) (b : Bay) (r : PauseReason) :
    (c.addReason b r = c ∧ ((c.outlet b).session.isSome = true → (c.outlet b).acting.inSession = true → (c.outlet b).reasons.has r = true))
    ∨ (c.outletsBut b (c.addReason b r)
      ∧ ((c.addReason b r).outlet b).session = (c.outlet b).session
      ∧ ((c.addReason b r).outlet b).reasons = (c.outlet b).reasons.put r true
      ∧ (c.addReason b r).pool.draws = c.pool.draws) := by
  have hput : ∀ (o : Outlet) (st : OutletState), (o.put st).session = o.session := fun o st => by
    obtain ⟨x, y, h⟩ := put_eq o st
    rw [h]
  have hmarked : ∀ (d : Controller) (f : Outlet → Outlet), d.outlets = (c.updOutlet b f).outlets → d.pool.draws = c.pool.draws →
      (∀ o, (f o).session = o.session ∧ (f o).reasons = o.reasons.put r true) →
      c.outletsBut b (d.markTarget b 0).judgeRelease
        ∧ ((d.markTarget b 0).judgeRelease.outlet b).session = (c.outlet b).session
        ∧ ((d.markTarget b 0).judgeRelease.outlet b).reasons = (c.outlet b).reasons.put r true
        ∧ (d.markTarget b 0).judgeRelease.pool.draws = c.pool.draws := fun d f hd hp hf => by
    obtain ⟨hbut, p, v, ch, ho⟩ := change_then_target (c := c) hd 0
    exact ⟨hbut, by rw [ho]; exact (hf _).1, by rw [ho]; exact (hf _).2, by simp [hp]⟩
  unfold Controller.addReason
  dsimp only
  split
  · next h =>
    refine .inl ⟨rfl, fun hs _ => ?_⟩
    rw [Option.isNone_eq_false_iff.mpr hs] at h
    simpa using h
  · split
    · exact .inr (hmarked _ _ rfl rfl fun o => ⟨hput o _, rfl⟩)
    · exact .inr (hmarked _ _ rfl rfl fun o => ⟨hput o _, rfl⟩)
    · exact .inr (hmarked _ _ rfl rfl fun o => ⟨hput o _, rfl⟩)
    · exact .inr ⟨updOutlet_outletsBut c b _, by rw [updOutlet_outlet_self]; rfl, by rw [updOutlet_outlet_self]; rfl, rfl⟩
    · next hq hs hc hp =>
      refine .inl ⟨rfl, fun _ ha => ?_⟩
      cases hst : (c.outlet b).acting <;> simp_all [OutletState.inSession]

theorem addReason_outletsBut (c : Controller) (b : Bay) (r : PauseReason) : c.outletsBut b (c.addReason b r) := by
  rcases addReason_cases c b r with ⟨h, -⟩ | ⟨h, -⟩
  · rw [h]; exact outletsBut_refl c b
  · exact h

theorem addReason_session (c : Controller) (b : Bay) (r : PauseReason) :
    ((c.addReason b r).outlet b).session = (c.outlet b).session := by
  rcases addReason_cases c b r with ⟨h, -⟩ | ⟨-, h, -⟩
  · rw [h]
  · exact h

theorem addReason_draws (c : Controller) (b : Bay) (r : PauseReason) : (c.addReason b r).pool.draws = c.pool.draws := by
  rcases addReason_cases c b r with ⟨h, -⟩ | ⟨-, -, -, h⟩
  · rw [h]
  · exact h

/-- In a session state the reason stands after it is added. -/
theorem addReason_has {c : Controller} {b : Bay} (hs : (c.outlet b).session.isSome = true) (ha : (c.outlet b).acting.inSession = true)
    (r : PauseReason) : ((c.addReason b r).outlet b).reasons.has r = true := by
  rcases addReason_cases c b r with ⟨h, hhas⟩ | ⟨-, -, h, -⟩
  · rw [h]; exact hhas hs ha
  · rw [h]; exact has_put r true _

/-! ### An unbind (R20 to R22) -/

theorem unbind_record {c : Controller} {k : SlotNo} (hb : (c.record k).state = .BOUND) (atReset : Bool) (x : Cause) (j : SlotNo) :
    (c.unbind k atReset x).record j =
      if k = j then (c.record k).unbind c.run.timeValid c.run.siteTime atReset else c.record j := by
  unfold Controller.unbind
  rw [if_pos hb]
  cases (c.record k).boundBay with
  | none => rw [raise_record, updRecord_record]
  | some b => rw [raise_record, updRecord_record, updOutlet_record, updOutlet_record]

/-- The session of the bound bay loses the slot; every other outlet stays. -/
theorem unbind_outlet_eq {c : Controller} {k : SlotNo} {b : Bay} (hb : (c.record k).state = .BOUND) (hbay : (c.record k).boundBay = some b)
    (atReset : Bool) (x : Cause) (y : Bay) :
    (c.unbind k atReset x).outlet y =
      if b = y then (c.outlet b).change fun o => { o with session := o.session.map (Session.dropSlot k) } else c.outlet y := by
  unfold Controller.unbind
  rw [if_pos hb, hbay]
  exact updOutlet_outlet c b y _

theorem unbind_outletsBut {c : Controller} {k : SlotNo} {b : Bay} (hb : (c.record k).state = .BOUND)
    (hbay : (c.record k).boundBay = some b) (atReset : Bool) (x : Cause) : c.outletsBut b (c.unbind k atReset x) :=
  outletsBut_of_eq fun y hy => by rw [unbind_outlet_eq hb hbay, if_neg (Ne.symm hy)]

theorem unbind_port {c : Controller} {k : SlotNo} (hb : (c.record k).state = .BOUND) (atReset : Bool) (x : Cause) :
    (c.unbind k atReset x).port = c.port.raise x := by
  unfold Controller.unbind
  rw [if_pos hb]
  cases (c.record k).boundBay <;> rfl

/-! ### The notice set (R186) -/

/-- A raising sets the cause of its source. -/
theorem raised_raise (c : Controller) (x : Cause) : (c.raise x).raised x := by
  unfold Controller.raised
  rw [raise_port, Port.raise, Port.putNotices]
  simp [NoticeEntry.raise]

/-- A raising leaves the causes of the other sources. -/
theorem raised_raise_of_ne {c : Controller} {x y : Cause} (hc : c.raised y) (hxy : x.source.ix ≠ y.source.ix) : (c.raise x).raised y := by
  unfold Controller.raised at hc ⊢
  rw [raise_port, Port.raise, Port.putNotices]
  dsimp only
  rw [Table.get_set_of_ne _ _ hxy]
  exact hc

theorem raised_congr {c d : Controller} (h : d.port = c.port) (x : Cause) : d.raised x ↔ c.raised x := by
  unfold Controller.raised
  rw [h]

/-! ### The end of a session (R39) -/

/-- Step 2 of R39: the slot that the session is bound to is unbound. -/
def Controller.releaseSlot (slot : Option SlotNo) (r : EndReason) (c : Controller) : Controller :=
  match slot with
  | some k => c.unbind k (r == EndReason.RESET) .receiptUnbind
  | none => c

/-- The steps of R39 at an outlet that holds a session. -/
theorem endSession_eq {c : Controller} {b : Bay} {ss : Session} (hs : (c.outlet b).session = some ss) (r : EndReason) (st : OutletState) :
    c.endSession b r st =
      let c3 := ((c.updOutlet b Outlet.closeTail).releaseSlot ss.boundSlot r).updOutlet b (Outlet.conclude r c.run.siteTime st)
      let c4 := ((c3.dequeue b).depart b).markTarget b 0
      ((if r.untold then c4 else c4.tellNode b .SESSION_ENDED).raise .outletSessionEnd).judgeRelease := by
  unfold Controller.endSession
  rw [hs]
  rfl

/-- The slot is released after the tail is closed, which no record and no notice shows. -/
theorem releaseSlot_leaves (c : Controller) (slot : Option SlotNo) (r : EndReason) :
    (c.releaseSlot slot r).pool = c.pool ∧ (c.releaseSlot slot r).link = c.link ∧ (c.releaseSlot slot r).settings = c.settings
      ∧ (c.releaseSlot slot r).storage = c.storage ∧ (c.releaseSlot slot r).lines = c.lines ∧ (c.releaseSlot slot r).run = c.run := by
  cases slot with
  | none => exact ⟨rfl, rfl, rfl, rfl, rfl, rfl⟩
  | some k =>
    obtain ⟨hp, hst, hl, hse, hli, hr⟩ := unbind_leaves c k (r == EndReason.RESET) .receiptUnbind
    exact ⟨hp, hl, hse, hst, hli, hr⟩

theorem releaseSlot_updOutlet_credit (c : Controller) (b : Bay) (f : Outlet → Outlet) (slot : Option SlotNo) (r : EndReason) :
    ((c.updOutlet b f).releaseSlot slot r).credit = (c.releaseSlot slot r).credit := by
  cases slot with
  | none => rfl
  | some k =>
    unfold Controller.releaseSlot Controller.unbind
    dsimp only
    rw [updOutlet_record]
    split
    · cases (c.record k).boundBay <;> rfl
    · rfl

section
variable {c : Controller} {b : Bay} {ss : Session} (hs : (c.outlet b).session = some ss) (r : EndReason) (st : OutletState)
include hs

theorem endSession_credit : (c.endSession b r st).credit = (c.releaseSlot ss.boundSlot r).credit := by
  rw [endSession_eq hs, ← releaseSlot_updOutlet_credit c b Outlet.closeTail]
  cases h : r.untold <;> simp

theorem endSession_draws : (c.endSession b r st).pool.draws = c.pool.draws := by
  rw [endSession_eq hs]
  cases h : r.untold <;> simp [(releaseSlot_leaves _ _ _).1]

theorem endSession_port :
    (c.endSession b r st).port = ((c.updOutlet b Outlet.closeTail).releaseSlot ss.boundSlot r).port.raise .outletSessionEnd := by
  rw [endSession_eq hs]
  cases h : r.untold <;> simp

/-- SESSION_ENDED is told, unless the reason is one of those that R39 leaves untold. -/
theorem endSession_link :
    (c.endSession b r st).link = if r.untold then c.link else (c.tellNode b .SESSION_ENDED).link := by
  obtain ⟨-, hlink, hset, -⟩ := releaseSlot_leaves (c.updOutlet b Outlet.closeTail) ss.boundSlot r
  rw [endSession_eq hs]
  dsimp only
  rw [(judgeRelease_leaves _).2.2.2.1, raise_link]
  cases h : r.untold
  · exact tellNode_link_congr (by simp [hlink]) (by simp [hset]) b _
  · simp [hlink]

/-- The session as R39 closes it before the summary is made: the tail in it, and the slot gone where it was bound to this bay. -/
theorem closed_session : ∃ slot, (slot = ss.boundSlot ∨ slot = none)
    ∧ (((c.updOutlet b Outlet.closeTail).releaseSlot ss.boundSlot r).outlet b).session
      = some { ss.closeTail (tailOf (c.outlet b).unattributed ss) with boundSlot := slot } := by
  have hclosed : ((c.updOutlet b Outlet.closeTail).outlet b).session = some (ss.closeTail (tailOf (c.outlet b).unattributed ss)) := by
    rw [updOutlet_outlet_self]
    show ((c.outlet b).session.map _) = _
    rw [hs]
    rfl
  have hslot : ∀ e, (ss.closeTail e).boundSlot = ss.boundSlot := fun e => by
    unfold Session.closeTail
    dsimp only
    split <;> rfl
  rw [← hslot (tailOf (c.outlet b).unattributed ss)]
  generalize ss.closeTail (tailOf (c.outlet b).unattributed ss) = x at hclosed
  cases hb : x.boundSlot with
  | none => exact ⟨none, .inl rfl, hclosed.trans (congrArg some (by rw [← hb]))⟩
  | some k =>
    unfold Controller.releaseSlot
    dsimp only
    rcases unbind_outlet (c.updOutlet b Outlet.closeTail) k (r == EndReason.RESET) .receiptUnbind b with h | h
    · exact ⟨some k, .inl rfl, by rw [h, hclosed, ← hb]⟩
    · refine ⟨none, .inr rfl, ?_⟩
      rw [h]
      show ((c.updOutlet b Outlet.closeTail).outlet b).session.map _ = _
      rw [hclosed]
      simp [Session.dropSlot, hb]

/-- The outlet of a session that has ended, but for what its new target changes (R39). -/
theorem endSession_outlet_eq : ∃ p v ch, (c.endSession b r st).outlet b =
    { Outlet.conclude r c.run.siteTime st (((c.updOutlet b Outlet.closeTail).releaseSlot ss.boundSlot r).outlet b) with
      pending := p, raiseReleased := v, changed := ch } := by
  rw [endSession_eq hs]
  dsimp only
  generalize ((c.updOutlet b Outlet.closeTail).releaseSlot ss.boundSlot r) = c2
  have hm : ∃ p v ch, ((((c2.updOutlet b (Outlet.conclude r c.run.siteTime st)).dequeue b).depart b).markTarget b 0).outlet b =
      { Outlet.conclude r c.run.siteTime st (c2.outlet b) with pending := p, raiseReleased := v, changed := ch } := by
    rw [markTarget_outlet]
    split <;> rw [depart_outlet, dequeue_outlet, updOutlet_outlet_self] <;> exact ⟨_, _, _, rfl⟩
  obtain ⟨p, v, ch, hm⟩ := hm
  obtain ⟨w, hw⟩ := judgeRelease_outlet_eq (((if r.untold
    then (((c2.updOutlet b (Outlet.conclude r c.run.siteTime st)).dequeue b).depart b).markTarget b 0
    else ((((c2.updOutlet b (Outlet.conclude r c.run.siteTime st)).dequeue b).depart b).markTarget b 0).tellNode b .SESSION_ENDED)).raise
      .outletSessionEnd) b
  refine ⟨p, w, ch, ?_⟩
  rw [hw, raise_outlet]
  cases r.untold
  · simp only [Bool.false_eq_true, if_false, tellNode_outlet, hm]
  · simp only [if_true, hm]

/-- The summary of a session that has ended (R39). -/
theorem endSession_summary : ∃ slot, (slot = ss.boundSlot ∨ slot = none) ∧ ((c.endSession b r st).outlet b).summary = some
    { session := { ss.closeTail (tailOf (c.outlet b).unattributed ss) with
        boundSlot := slot
        interrupted := (ss.closeTail (tailOf (c.outlet b).unattributed ss)).interrupted || r.interrupts }
      reason := r, endTime := c.run.siteTime } := by
  obtain ⟨slot, hslot, hclosed⟩ := closed_session hs r
  obtain ⟨p, v, ch, ho⟩ := endSession_outlet_eq hs r st
  refine ⟨slot, hslot, ?_⟩
  rw [ho]
  simp only [Outlet.conclude, hclosed]

/-- The end of a session whose bound record is bound to its bay leaves the other outlets alone (R20). -/
theorem endSession_outletsBut
    (hb : ∀ k, ss.boundSlot = some k → (c.record k).state = .BOUND ∧ (c.record k).boundBay = some b) :
    c.outletsBut b (c.endSession b r st) := by
  have hrelease : ∀ d : Controller, (∀ k, d.record k = c.record k) → d.outletsBut b (d.releaseSlot ss.boundSlot r) := fun d hd => by
    cases h : ss.boundSlot with
    | none => exact outletsBut_refl d b
    | some k =>
      obtain ⟨hst, hbay⟩ := hb k h
      exact unbind_outletsBut (by rw [hd]; exact hst) (by rw [hd]; exact hbay) _ _
  have htell : ∀ d : Controller, d.outletsBut b ((if r.untold then d else d.tellNode b .SESSION_ENDED).raise .outletSessionEnd) :=
    fun d => outletsBut_of_eq fun x _ => by cases r.untold <;> simp
  have hsame : ∀ d : Controller, d.outletsBut b ((d.dequeue b).depart b) := fun d => outletsBut_of_eq fun _ _ => rfl
  rw [endSession_eq hs]
  dsimp only
  exact outletsBut_trans (updOutlet_outletsBut c b _) (outletsBut_trans (hrelease _ fun _ => rfl) (outletsBut_trans (updOutlet_outletsBut _ b _)
    (outletsBut_trans (hsame _) (outletsBut_trans (markTarget_outletsBut _ b 0) (outletsBut_trans (htell _) (judgeRelease_outletsBut _ b))))))

end

end Sys2Proof.Machine
end

section
/-! SUPPORT. A funding withdrawal (R45), and the two events that hand one over: VOID of a bound record (R15) and an exhausting draw
(R24, R112); a draw that the credit covers (R23) or that finds no record (R25). -/

namespace Sys2Proof.Machine

/-! ### A funding withdrawal with paid continuation (R45) -/

section
variable {c : Controller} {b : Bay} (hp : (c.bay b).paidContinuation = true)
include hp

theorem withdrawFunding_of_paid :
    c.withdrawFunding b = ((c.tellNode b .FUNDING_ENDED).addReason b .FUNDING).updOutlet b fun o =>
      { o with fundingWait := some { Timer.start (c.inForce.tFund * 1000) with frozenBySilence := o.state == .OFFLINE } } := by
  unfold Controller.withdrawFunding
  dsimp only
  rw [if_pos hp]

theorem withdrawFunding_paid_credit : (c.withdrawFunding b).credit = c.credit := by
  rw [withdrawFunding_of_paid hp]
  simp

theorem withdrawFunding_paid_port : (c.withdrawFunding b).port = c.port := by
  rw [withdrawFunding_of_paid hp]
  simp

/-- FUNDING_ENDED is told, and nothing else of the link changes. -/
theorem withdrawFunding_paid_tells : c.tells (c.withdrawFunding b) b [.FUNDING_ENDED] := by
  refine tells_one ?_
  rw [withdrawFunding_of_paid hp]
  simp

/-- The session waits for a paid continuation: it is kept, FUNDING pauses it, and the wait of T_fund runs. -/
theorem withdrawFunding_paid_waits {ss : Session} (hs : (c.outlet b).session = some ss) (ha : (c.outlet b).acting.inSession = true) :
    ((c.withdrawFunding b).outlet b).session = some ss ∧ ((c.withdrawFunding b).outlet b).reasons.funding = true
      ∧ (((c.withdrawFunding b).outlet b).fundingWait.map (·.left)) = some (c.inForce.tFund * 1000) := by
  have hso : ((c.tellNode b .FUNDING_ENDED).outlet b).session = some ss := by rw [tellNode_outlet, hs]
  have hhas : (((c.tellNode b .FUNDING_ENDED).addReason b .FUNDING).outlet b).reasons.has .FUNDING = true :=
    addReason_has (by rw [hso]; rfl) (by rw [tellNode_outlet]; exact ha) .FUNDING
  rw [withdrawFunding_of_paid hp, updOutlet_outlet_self]
  exact ⟨(addReason_session _ b _).trans hso, hhas, rfl⟩

end

/-! ### A funding withdrawal without paid continuation (R45, R39) -/

/-- A tail of a CREDIT session is unfunded energy: the credit-funded energy and the uncovered credit stand (R39). -/
theorem closeTail_of_credit {ss : Session} (hk : ss.kind = .CREDIT) (e : Nat) :
    (ss.closeTail e).creditFunded = ss.creditFunded ∧ (ss.closeTail e).uncovered = ss.uncovered := by
  unfold Session.closeTail
  dsimp only
  rw [hk]
  exact ⟨rfl, rfl⟩

section
variable {c : Controller} {b : Bay} {ss : Session} (hp : (c.bay b).paidContinuation = false) (hs : (c.outlet b).session = some ss)

theorem withdrawFunding_of_unpaid (hp : (c.bay b).paidContinuation = false) :
    c.withdrawFunding b = (c.tellNode b .FUNDING_ENDED).endSession b .FUNDING_ENDED .ENDING := by
  unfold Controller.withdrawFunding
  dsimp only
  rw [hp]
  rfl

include hp hs

theorem withdrawFunding_unpaid_credit :
    (c.withdrawFunding b).credit = ((c.tellNode b .FUNDING_ENDED).releaseSlot ss.boundSlot .FUNDING_ENDED).credit := by
  rw [withdrawFunding_of_unpaid hp]
  exact endSession_credit (by rw [tellNode_outlet, hs]) _ _

/-- FUNDING_ENDED is told before SESSION_ENDED. -/
theorem withdrawFunding_unpaid_tells : c.tells (c.withdrawFunding b) b [.FUNDING_ENDED, .SESSION_ENDED] := by
  refine tells_two (d := c.tellNode b .FUNDING_ENDED) rfl (tellNode_leaves c b _).2.2.2.2.1 ?_
  rw [withdrawFunding_of_unpaid hp, endSession_link (by rw [tellNode_outlet, hs])]
  rfl

theorem withdrawFunding_unpaid_session : ((c.withdrawFunding b).outlet b).session = none := by
  obtain ⟨p, v, ch, ho⟩ := endSession_outlet_eq (c := c.tellNode b .FUNDING_ENDED) (b := b) (by rw [tellNode_outlet, hs])
    .FUNDING_ENDED .ENDING
  rw [withdrawFunding_of_unpaid hp, ho]
  rfl

/-- The summary of a CREDIT session carries its credit-funded energy and its uncovered credit, which the tail leaves alone (R39). -/
theorem withdrawFunding_unpaid_summary (hk : ss.kind = .CREDIT) : ∃ sm, ((c.withdrawFunding b).outlet b).summary = some sm
    ∧ sm.reason = .FUNDING_ENDED ∧ sm.session.creditFunded = ss.creditFunded ∧ sm.session.uncovered = ss.uncovered
    ∧ (sm.session.boundSlot = ss.boundSlot ∨ sm.session.boundSlot = none) := by
  obtain ⟨slot, hslot, hsum⟩ := endSession_summary (c := c.tellNode b .FUNDING_ENDED) (b := b) (by rw [tellNode_outlet, hs])
    .FUNDING_ENDED .ENDING
  rw [withdrawFunding_of_unpaid hp]
  exact ⟨_, hsum, rfl, (closeTail_of_credit hk _).1, (closeTail_of_credit hk _).2, hslot⟩

end

/-! ### A funding withdrawal, either way -/

theorem withdrawFunding_draws {c : Controller} {b : Bay} {ss : Session} (hs : (c.outlet b).session = some ss) :
    (c.withdrawFunding b).pool.draws = c.pool.draws := by
  cases hp : (c.bay b).paidContinuation with
  | true =>
    rw [withdrawFunding_of_paid hp]
    exact (addReason_draws _ _ _).trans (by rw [(tellNode_leaves c b _).2.2.1])
  | false =>
    rw [withdrawFunding_of_unpaid hp, endSession_draws (by rw [tellNode_outlet, hs]), (tellNode_leaves c b _).2.2.1]

/-- Where the session's bound record is bound to its bay, the withdrawal leaves the other outlets alone (R20). -/
theorem withdrawFunding_outletsBut {c : Controller} {b : Bay} {ss : Session} (hs : (c.outlet b).session = some ss)
    (hb : ∀ k, ss.boundSlot = some k → (c.record k).state = .BOUND ∧ (c.record k).boundBay = some b) :
    c.outletsBut b (c.withdrawFunding b) := by
  have htell : c.outletsBut b (c.tellNode b .FUNDING_ENDED) := outletsBut_of_eq fun x _ => tellNode_outlet c b x _
  cases hp : (c.bay b).paidContinuation with
  | true =>
    rw [withdrawFunding_of_paid hp]
    exact outletsBut_trans htell (outletsBut_trans (addReason_outletsBut _ b _) (updOutlet_outletsBut _ b _))
  | false =>
    rw [withdrawFunding_of_unpaid hp]
    exact outletsBut_trans htell (endSession_outletsBut (by rw [tellNode_outlet, hs]) _ _ fun k hk => by
      rw [tellNode_record]
      exact hb k hk)

/-! ### VOID of a bound record (R15) -/

theorem exec_void_bound {s : State} {code : Nat} {k : SlotNo} {b : Bay} {ss : Session} (h : s.ctl.taking = true)
    (hf : s.ctl.credit.findCode code = some k) (hk : (s.ctl.record k).kind = .RECEIPT) (hb : (s.ctl.record k).state = .BOUND)
    (hv : (s.ctl.record k).voidPending = false) (hbay : (s.ctl.record k).boundBay = some b) (hs : (s.ctl.outlet b).session = some ss)
    (hkind : ss.kind = .CREDIT) (hslot : ss.boundSlot = some k) :
    exec (.void code) s = .next (s.put ((((s.ctl.taken 0x12).updRecord k Record.voidBound).withdrawFunding b).answer 0x12 .OK
      (.voided (s.ctl.record k).remaining .BOUND true))) := by
  have hand : ((s.ctl.taken 0x12).updRecord k Record.voidBound).handWithdrawal b k
      = ((s.ctl.taken 0x12).updRecord k Record.voidBound).withdrawFunding b := by
    have hss : (((s.ctl.taken 0x12).updRecord k Record.voidBound).outlet b).session = some ss := hs
    simp only [Controller.handWithdrawal, hss, hkind, hslot, and_self, if_true]
  show execVoid code s = _
  simp only [execVoid, command_taken _ _ h, taken_credit, hf, taken_record, hk, hb, hv, hbay, hand, reduceCtorEq, Bool.false_eq_true,
    and_false, or_self, if_false, if_true]
  rfl

/-- What a funding withdrawal leaves of a bound record with void_pending set: with paid continuation all of it; without one it goes VOIDED at
the session's end, and no other record changes (R22, R39, R45). -/
theorem withdrawFunding_record_of_voidPending {c : Controller} {k : SlotNo} {b : Bay} {ss : Session} (hb : (c.record k).state = .BOUND)
    (hv : (c.record k).voidPending = true) (hs : (c.outlet b).session = some ss) (hslot : ss.boundSlot = some k) (j : SlotNo) :
    (c.withdrawFunding b).record j = if (c.bay b).paidContinuation = false ∧ k = j
      then { (c.record k).release c.run.timeValid c.run.siteTime false with state := .VOIDED } else c.record j := by
  cases hp : (c.bay b).paidContinuation with
  | true => rw [record_eq_of_credit (withdrawFunding_paid_credit hp), if_neg (by simp)]
  | false =>
    rw [record_eq_of_credit (withdrawFunding_unpaid_credit hp hs), hslot]
    show ((c.tellNode b _).unbind k _ _).record j = _
    rw [unbind_record (by rw [tellNode_record]; exact hb), tellNode_record, tellNode_record, unbind_of_voidPending hv,
      (tellNode_leaves c b _).2.2.2.2.2.2.2]
    simp only [true_and]
    rfl

/-- Settles O10. -/
theorem voidOfBoundRecordWithdrawsFunding : Obligations.VoidOfBoundRecordWithdrawsFunding := by
  intro s code k b ss h hf hk hb hv hbay hs hkind hslot ha
  let c1 := (s.ctl.taken 0x12).updRecord k Record.voidBound
  have hk1 : ∀ j, c1.record j = if k = j then (s.ctl.record k).voidBound else s.ctl.record j :=
    fun j => updRecord_record (s.ctl.taken 0x12) k j _
  have hkk : c1.record k = (s.ctl.record k).voidBound := by rw [hk1, if_pos rfl]
  have hs1 : (c1.outlet b).session = some ss := hs
  have hrec := withdrawFunding_record_of_voidPending (c := c1) (k := k) (b := b) (by rw [hkk]; exact hb) (by rw [hkk]; rfl) hs1 hslot
  have hout : c1.outletsBut b (c1.withdrawFunding b) := withdrawFunding_outletsBut hs1 fun j hj => by
    obtain rfl : k = j := Option.some.inj (hslot.symm.trans hj)
    rw [hkk]
    exact ⟨hb, hbay⟩
  obtain ⟨hst, hse, hli, hru⟩ := withdrawFunding_leaves c1 b
  refine ⟨_, exec_void_bound h hf hk hb hv hbay hs hkind hslot, by simp [Controller.holds], ?_, ?_, fun j hj => ?_, hout,
    ⟨hst, hse, hli, hru⟩, fun hp => ?_, fun hp => ?_⟩
  · show ((c1.withdrawFunding b).record k).remaining = 0
    rw [hrec k, hkk]
    split <;> rfl
  · show ((c1.withdrawFunding b).record k).forfeited = _
    rw [hrec k, hkk]
    split <;> rfl
  · show (c1.withdrawFunding b).record j = s.ctl.record j
    have hkj : k ≠ j := fun e => hj (by rw [e])
    rw [hrec j, if_neg fun e => hkj e.2, hk1, if_neg hkj]
  · have hp1 : (c1.bay b).paidContinuation = true := hp
    have hwait := withdrawFunding_paid_waits hp1 hs1 ha
    have hkeep : (c1.withdrawFunding b).record k = (s.ctl.record k).voidBound := by
      rw [record_eq_of_credit (withdrawFunding_paid_credit hp1), hkk]
    exact ⟨(congrArg Record.state hkeep).trans hb, congrArg Record.voidPending hkeep, hwait.1, hwait.2.1, hwait.2.2,
      withdrawFunding_paid_tells hp1⟩
  · have hp1 : (c1.bay b).paidContinuation = false := hp
    obtain ⟨sm, hsm, hreason, -⟩ := withdrawFunding_unpaid_summary hp1 hs1 hkind
    have hgone := hrec k
    rw [if_pos ⟨hp1, rfl⟩] at hgone
    exact ⟨congrArg Record.state hgone, withdrawFunding_unpaid_session hp1 hs1, (congrArg (Option.map _) hsm).trans (congrArg some hreason),
      withdrawFunding_unpaid_tells hp1 hs1⟩

end Sys2Proof.Machine
end

section
/-! SUPPORT. The draws of the credit table: one that the remaining credit covers (R23, R111), one that names no record it applies to (R25,
R110), and one that exhausts its record (R24, R112). -/

namespace Sys2Proof.Machine

/-! ### What a draw does (R23 to R25, R111, R112) -/

theorem drawApplies_iff {c : Controller} {b : Bay} {k : SlotNo} :
    c.drawApplies b k = true ↔ (c.record k).state = .BOUND ∧ (c.record k).boundBay = some b ∧ (c.record k).voidPending = false := by
  simp [Controller.drawApplies, and_assoc]

theorem holdsSlot_of_session {c : Controller} {b : Bay} {k : SlotNo} {ss : Session} (hs : (c.outlet b).session = some ss)
    (hk : ss.kind = .CREDIT) (hslot : ss.boundSlot = some k) : c.holdsSlot b k = true := by
  simp [Controller.holdsSlot, hs, hk, hslot]

/-- A draw in the record that it names and in the session of its bay: the credit taken, the increment funded. -/
def Controller.drawInto (dr : Draw) (k : SlotNo) (c : Controller) : Controller :=
  let uncovered := dr.d - min dr.d (c.record k).remaining
  (c.updRecord k fun r => (r.applyDraw dr.d).addDraw dr.p dr.b dr.g (dr.p + dr.b + dr.g) uncovered).updOutlet dr.bay fun o =>
    { o with session := o.session.map (Session.fund (dr.p + dr.b + dr.g) uncovered) }

section
variable {c : Controller} {dr : Draw} {k : SlotNo}

theorem takeDraw_of_not_applies (h : ∀ k, dr.slot = some k → c.drawApplies dr.bay k = false) : c.takeDraw dr = c := by
  unfold Controller.takeDraw
  cases hs : dr.slot with
  | none => rfl
  | some k => simp only [h k hs, Bool.not_false, if_true]

theorem takeDraw_of_covered (hk : dr.slot = some k) (ha : c.drawApplies dr.bay k = true) (hh : c.holdsSlot dr.bay k = true)
    (hd : dr.d < (c.record k).remaining) : c.takeDraw dr = c.drawInto dr k := by
  unfold Controller.takeDraw Controller.drawInto
  simp only [hk, ha, hh, hd, Bool.not_true, Bool.false_eq_true, if_false, if_true]

theorem takeDraw_of_exhausting (hk : dr.slot = some k) (ha : c.drawApplies dr.bay k = true) (hh : c.holdsSlot dr.bay k = true)
    (hd : (c.record k).remaining ≤ dr.d) :
    c.takeDraw dr = ((c.drawInto dr k).unbind k false .receiptExhausted).withdrawFunding dr.bay := by
  unfold Controller.takeDraw Controller.drawInto
  simp only [hk, ha, hh, Nat.not_lt.mpr hd, Bool.not_true, Bool.false_eq_true, if_false, if_true]

theorem drawInto_record (j : SlotNo) : (c.drawInto dr k).record j =
    if k = j then ((c.record k).applyDraw dr.d).addDraw dr.p dr.b dr.g (dr.p + dr.b + dr.g) (dr.d - min dr.d (c.record k).remaining)
    else c.record j := by
  unfold Controller.drawInto
  dsimp only
  rw [updOutlet_record, updRecord_record]

theorem drawInto_session {ss : Session} (hs : (c.outlet dr.bay).session = some ss) : ((c.drawInto dr k).outlet dr.bay).session =
    some (ss.fund (dr.p + dr.b + dr.g) (dr.d - min dr.d (c.record k).remaining)) := by
  unfold Controller.drawInto
  dsimp only
  rw [updOutlet_outlet_self]
  show (c.outlet dr.bay).session.map _ = _
  rw [hs]
  rfl

theorem drawInto_outlet_acting : ((c.drawInto dr k).outlet dr.bay).acting = (c.outlet dr.bay).acting
    ∧ ((c.drawInto dr k).outlet dr.bay).state = (c.outlet dr.bay).state := by
  unfold Controller.drawInto
  dsimp only
  rw [updOutlet_outlet_self]
  exact ⟨rfl, rfl⟩

theorem drawInto_outletsBut : c.outletsBut dr.bay (c.drawInto dr k) := updOutlet_outletsBut (c.updRecord k _) dr.bay _

end

/-! ### A funding withdrawal at a session that no record is bound to (R45) -/

section
variable {c : Controller} {b : Bay} {ss : Session} (hs : (c.outlet b).session = some ss) (hslot : ss.boundSlot = none)
include hs hslot

theorem withdrawFunding_credit_of_unbound : (c.withdrawFunding b).credit = c.credit := by
  cases hp : (c.bay b).paidContinuation with
  | true => exact withdrawFunding_paid_credit hp
  | false =>
    rw [withdrawFunding_unpaid_credit hp hs, hslot]
    exact (tellNode_leaves c b _).1

/-- A notice stands over the withdrawal: the session's end raises one of another source at most. -/
theorem withdrawFunding_raised_of_unbound {x : Cause} (hx : c.raised x) (hne : Cause.outletSessionEnd.source.ix ≠ x.source.ix) :
    (c.withdrawFunding b).raised x := by
  cases hp : (c.bay b).paidContinuation with
  | true => exact (raised_congr (withdrawFunding_paid_port hp) x).mpr hx
  | false =>
    have hport : (c.withdrawFunding b).port = (c.raise .outletSessionEnd).port := by
      rw [withdrawFunding_of_unpaid hp, endSession_port (by rw [tellNode_outlet, hs]), hslot]
      show (c.tellNode b _).port.raise _ = c.port.raise _
      rw [(tellNode_leaves c b _).2.2.2.2.2.1]
    exact (raised_congr hport x).mpr (raised_raise_of_ne hx hne)

end

/-- Of the controller before, what a telling says reads the link and the map. -/
theorem tells_congr {c d t : Controller} {b : Bay} {kinds : List NodeNoticeKind} (hl : d.link = c.link) (hs : d.settings = c.settings)
    (h : d.tells t b kinds) : c.tells t b kinds := by
  unfold Controller.tells at h ⊢
  simp only [bay_eq_of_settings hs, node_eq_of_link hl, hl] at h
  exact h

/-! ### DRAW -/

/-- A controller whose oldest draw has left the pool's list. -/
def Controller.putDraws (ds : List Draw) (c : Controller) : Controller := { c with pool := { c.pool with draws := ds } }

theorem exec_draw {s : State} {d : Draw} {ds : List Draw} (h : s.ctl.taking = true) (hd : s.ctl.pool.draws = d :: ds) :
    exec .draw s = .next (s.put ((s.ctl.putDraws ds).takeDraw d)) := by
  show execDraw s = _
  simp only [execDraw, event_taking _ h, Controller.takeOldestDraw, hd]
  rfl

/-- Settles O13. -/
theorem drawIsAppliedInFullOrNotAtAll : Obligations.DrawIsAppliedInFullOrNotAtAll := by
  refine ⟨fun s d ds k ss h hd hk hb hbay hv hlt hs hkind hslot => ?_, fun s d ds h hd hnone => ?_⟩
  · let c := s.ctl.putDraws ds
    have ha : c.drawApplies d.bay k = true := drawApplies_iff.mpr ⟨hb, hbay, hv⟩
    have htake : c.takeDraw d = c.drawInto d k := takeDraw_of_covered hk ha (holdsSlot_of_session hs hkind hslot) hlt
    have hmin : min d.d (s.ctl.record k).remaining = d.d := Nat.min_eq_left (Nat.le_of_lt hlt)
    refine ⟨s.put (c.drawInto d k), (exec_draw h hd).trans (by rw [← htake]), rfl, ?_, ?_, (drawInto_outlet_acting (c := c)).2, rfl, rfl,
      fun j hj => ?_, drawInto_outletsBut (c := c), ⟨rfl, rfl, rfl, rfl⟩⟩
    · show (c.drawInto d k).record k = _
      rw [drawInto_record, if_pos rfl]
      show ((s.ctl.record k).applyDraw d.d).addDraw d.p d.b d.g _ (d.d - min d.d (s.ctl.record k).remaining) = _
      rw [Record.applyDraw, hmin, Nat.sub_self]
      rfl
    · refine (drawInto_session (c := c) (k := k) hs).trans ?_
      show some (ss.fund _ (d.d - min d.d (s.ctl.record k).remaining)) = _
      rw [hmin, Nat.sub_self]
      rfl
    · show (c.drawInto d k).record j = _
      rw [drawInto_record, if_neg fun e => hj (by rw [e])]
      rfl
  · rw [exec_draw h hd, takeDraw_of_not_applies fun k hk => ?_]
    · rfl
    · rw [Bool.eq_false_iff, Ne, drawApplies_iff]
      rintro ⟨hb, hbay, hv⟩
      rcases hnone k hk with hn | hn
      · exact hn ⟨hb, hbay⟩
      · exact absurd (hn.symm.trans hv) (by decide)

/-- Settles O14. -/
theorem drawAtRemainingExhausts : Obligations.DrawAtRemainingExhausts := by
  intro s d ds k ss h hd hk hb hbay hv hle hs hkind hslot hin r ss'
  let c := s.ctl.putDraws ds
  let c1 := c.drawInto d k
  let c2 := c1.unbind k false .receiptExhausted
  have ha : c.drawApplies d.bay k = true := drawApplies_iff.mpr ⟨hb, hbay, hv⟩
  have htake : c.takeDraw d = c2.withdrawFunding d.bay := takeDraw_of_exhausting hk ha (holdsSlot_of_session hs hkind hslot) hle
  have hmin : min d.d r.remaining = r.remaining := Nat.min_eq_right hle
  have hr1 : c1.record k = (r.applyDraw d.d).addDraw d.p d.b d.g (d.p + d.b + d.g) (d.d - r.remaining) := by
    show (c.drawInto d k).record k = _
    rw [drawInto_record, if_pos rfl, ← hmin]
    rfl
  have hb1 : (c1.record k).state = .BOUND := by rw [hr1]; exact hb
  have hbay1 : (c1.record k).boundBay = some d.bay := by rw [hr1]; exact hbay
  have hs1 : (c1.outlet d.bay).session = some (ss.fund (d.p + d.b + d.g) (d.d - r.remaining)) := by
    rw [← hmin]
    exact drawInto_session (c := c) (k := k) hs
  have hr2 : ∀ j, c2.record j = if k = j then (c1.record k).unbind c1.run.timeValid c1.run.siteTime false else c1.record j :=
    unbind_record hb1 false _
  have hs2 : (c2.outlet d.bay).session = some ss' := by
    show ((c1.unbind k false .receiptExhausted).outlet d.bay).session = _
    rw [unbind_outlet_eq hb1 hbay1, if_pos rfl]
    show (c1.outlet d.bay).session.map (Session.dropSlot k) = _
    rw [hs1]
    simp [Session.dropSlot, Session.fund, hslot, ss']
  have hport2 : c2.port = c1.port.raise .receiptExhausted := unbind_port hb1 _ _
  have hraised2 : c2.raised .receiptExhausted := (raised_congr (d := c2) (c := c1.raise .receiptExhausted) hport2 _).mpr (raised_raise _ _)
  have hcredit : (c2.withdrawFunding d.bay).credit = c2.credit := withdrawFunding_credit_of_unbound hs2 rfl
  have hrk : (c2.withdrawFunding d.bay).record k = { (c1.record k).release c1.run.timeValid c1.run.siteTime false with
      state := .SPENT, spendReason := some .CREDIT_ZERO } := by
    rw [record_eq_of_credit hcredit, hr2, if_pos rfl]
    exact unbind_of_no_credit (by rw [hr1]; exact hv) (by rw [hr1]; simp [Record.addDraw, Record.applyDraw, hmin])
  rw [hr1] at hrk
  have hout : s.ctl.outletsBut d.bay (c2.withdrawFunding d.bay) :=
    outletsBut_trans (drawInto_outletsBut (c := c)) (outletsBut_trans (unbind_outletsBut hb1 hbay1 _ _)
      (withdrawFunding_outletsBut hs2 fun j hj => absurd hj (by simp [ss'])))
  obtain ⟨hpool, hsto, hlink, hset, hlin, hrun⟩ := unbind_leaves c1 k false .receiptExhausted
  obtain ⟨hst, hse, hli, hru⟩ := withdrawFunding_leaves c2 d.bay
  have hacting : (c2.outlet d.bay).acting.inSession = true := by
    show ((c1.unbind k false .receiptExhausted).outlet d.bay).acting.inSession = true
    rw [unbind_outlet_eq hb1 hbay1, if_pos rfl]
    show (c1.outlet d.bay).acting.inSession = true
    rw [(drawInto_outlet_acting (c := c) (k := k)).1]
    exact hin
  have hbay2 : c2.bay d.bay = s.ctl.bay d.bay := bay_eq_of_settings hset d.bay
  refine ⟨s.put (c2.withdrawFunding d.bay), (exec_draw h hd).trans (by rw [← htake]), ?_, ?_, ?_, ?_, ?_, ?_, ?_, ?_,
    withdrawFunding_raised_of_unbound hs2 rfl hraised2 (by decide), ?_, fun j hj => ?_, hout, ?_, fun hp => ?_, fun hp => ?_⟩
  · exact congrArg Record.state hrk
  · exact congrArg Record.spendReason hrk
  · refine (congrArg Record.remaining hrk).trans ?_
    show r.remaining - min d.d r.remaining = 0
    omega
  · refine (congrArg Record.drawn hrk).trans ?_
    show r.drawn + min d.d r.remaining = _
    rw [hmin]
  · exact congrArg Record.boundBay hrk
  · exact congrArg Record.changed hrk
  · exact congrArg (fun x => x.statement.creditFunded) hrk
  · exact congrArg (fun x => x.statement.uncovered) hrk
  · exact (withdrawFunding_draws hs2).trans (congrArg Pool.draws hpool)
  · have hkj : k ≠ j := fun e => hj (by rw [e])
    show (c2.withdrawFunding d.bay).record j = s.ctl.record j
    rw [record_eq_of_credit hcredit, hr2, if_neg hkj]
    show (c.drawInto d k).record j = _
    rw [drawInto_record, if_neg hkj]
    rfl
  · exact ⟨hst.trans hsto, hse.trans hset, hli.trans hlin, hru.trans hrun⟩
  · have hp2 : (c2.bay d.bay).paidContinuation = true := by rw [hbay2]; exact hp
    have hforce : c2.inForce = s.ctl.inForce := congrArg (fun x : SettingsBlock => x.stored) hset
    obtain ⟨hkept, hfunding, hwait⟩ := withdrawFunding_paid_waits hp2 hs2 hacting
    rw [hforce] at hwait
    exact ⟨hkept, hfunding, hwait, tells_congr hlink hset (withdrawFunding_paid_tells hp2)⟩
  · have hp2 : (c2.bay d.bay).paidContinuation = false := by rw [hbay2]; exact hp
    obtain ⟨sm, hsm, hreason, hfunded, huncov, hsl⟩ := withdrawFunding_unpaid_summary hp2 hs2 hkind
    exact ⟨withdrawFunding_unpaid_session hp2 hs2, tells_congr hlink hset (withdrawFunding_unpaid_tells hp2 hs2), sm, hsm, hreason, hfunded,
      huncov, hsl.elim id id⟩

end Sys2Proof.Machine
end

section
/-! SUPPORT. A mark that the operations on records and outlets overlook: the draws that still wait, and a REPORT counted in the link with its
node's report-used flag. An operation commutes with such a mark, so that draws may be taken one by one (R110) and a due REPORT is answered
as its rule says of the controller before it was counted (R135). -/

namespace Sys2Proof.Machine

/-! ### Marks -/

/-- A change of the link that reaches of a node the report-used flag alone, and that does not mind a change of the notice lists. -/
structure Link.Overlooked (m : Link → Link) : Prop where
  node : ∀ l x, ∃ u, (m l).nodes.get x = { l.nodes.get x with reportUsed := u }
  notices : ∀ (l : Link) (x : Addr) (g : List NodeNotice),
    m { l with nodes := l.nodes.set x { l.nodes.get x with notices := g } } =
      { m l with nodes := (m l).nodes.set x { (m l).nodes.get x with notices := g } }

/-- A controller with a mark in its link and in its list of waiting draws. -/
def Controller.mark (m : Link → Link) (q : List Draw → List Draw) (c : Controller) : Controller :=
  { c with link := m c.link, pool := { c.pool with draws := q c.pool.draws } }

/-- Of the link, what a REPORT counted in its window changes (R128, R135). -/
def Link.countReport (a : Addr) (l : Link) : Link :=
  { l with nodes := l.nodes.set a { l.nodes.get a with reportUsed := true }, reports := l.reports + 1 }

theorem overlooked_id : Link.Overlooked id := ⟨fun _ _ => ⟨_, rfl⟩, fun _ _ _ => rfl⟩

theorem countReport_get (a : Addr) (l : Link) (x : Addr) :
    (l.countReport a).nodes.get x = if a = x then { l.nodes.get a with reportUsed := true } else l.nodes.get x :=
  Table.get_set _ _ _ _

theorem overlooked_countReport (a : Addr) : Link.Overlooked (Link.countReport a) where
  node l x := by
    rw [countReport_get]
    split
    · next h => exact ⟨true, by rw [h]⟩
    · exact ⟨_, rfl⟩
  notices l x g := by
    have hnodes : (Link.countReport a { l with nodes := l.nodes.set x { l.nodes.get x with notices := g } }).nodes
        = (l.countReport a).nodes.set x { (l.countReport a).nodes.get x with notices := g } := by
      refine Table.ext_get fun y => ?_
      simp only [countReport_get, Table.get_set]
      by_cases hay : a = y <;> by_cases hxy : x = y <;> by_cases hax : a = x <;> simp_all
    exact congrArg (fun t => { l with nodes := t, reports := l.reports + 1 }) hnodes

section
variable (m : Link → Link) (q : List Draw → List Draw) (c : Controller)

@[simp] theorem mark_record (k : SlotNo) : (c.mark m q).record k = c.record k := rfl
@[simp] theorem mark_outlet (b : Bay) : (c.mark m q).outlet b = c.outlet b := rfl
@[simp] theorem mark_bay (b : Bay) : (c.mark m q).bay b = c.bay b := rfl
@[simp] theorem mark_inForce : (c.mark m q).inForce = c.inForce := rfl
@[simp] theorem mark_run : (c.mark m q).run = c.run := rfl
@[simp] theorem mark_holdsSlot (b : Bay) (k : SlotNo) : (c.mark m q).holdsSlot b k = c.holdsSlot b k := rfl
@[simp] theorem mark_drawApplies (b : Bay) (k : SlotNo) : (c.mark m q).drawApplies b k = c.drawApplies b k := rfl

/-! ### Operations that do not touch the link -/

@[simp] theorem updRecord_mark (k : SlotNo) (f : Record → Record) : (c.mark m q).updRecord k f = (c.updRecord k f).mark m q := rfl
@[simp] theorem updOutlet_mark (b : Bay) (f : Outlet → Outlet) : (c.mark m q).updOutlet b f = (c.updOutlet b f).mark m q := rfl
@[simp] theorem raise_mark (x : Cause) : (c.mark m q).raise x = (c.raise x).mark m q := rfl
@[simp] theorem withdraw_mark (b : Bay) : (c.mark m q).withdraw b = (c.withdraw b).mark m q := rfl
@[simp] theorem dequeue_mark (b : Bay) : (c.mark m q).dequeue b = (c.dequeue b).mark m q := rfl
@[simp] theorem depart_mark (b : Bay) : (c.mark m q).depart b = (c.depart b).mark m q := rfl

@[simp] theorem enqueue_mark (b : Bay) : (c.mark m q).enqueue b = (c.enqueue b).mark m q := by
  unfold Controller.enqueue
  rw [apply_ite (Controller.mark m q)]
  rfl

@[simp] theorem markTarget_mark (b : Bay) (w : Nat) : (c.mark m q).markTarget b w = (c.markTarget b w).mark m q := by
  unfold Controller.markTarget
  rw [apply_ite (Controller.mark m q)]
  rfl

@[simp] theorem judgeRelease_mark : (c.mark m q).judgeRelease = c.judgeRelease.mark m q := by
  unfold Controller.judgeRelease
  rw [apply_ite (Controller.mark m q)]
  rfl

@[simp] theorem unbind_mark (k : SlotNo) (atReset : Bool) (x : Cause) :
    (c.mark m q).unbind k atReset x = (c.unbind k atReset x).mark m q := by
  unfold Controller.unbind
  rw [mark_record, apply_ite (Controller.mark m q)]
  cases (c.record k).boundBay <;> rfl

@[simp] theorem addReason_mark (b : Bay) (r : PauseReason) : (c.mark m q).addReason b r = (c.addReason b r).mark m q := by
  unfold Controller.addReason
  dsimp only
  rw [mark_outlet, apply_ite (Controller.mark m q)]
  cases (c.outlet b).acting <;> simp

@[simp] theorem releaseSlot_mark (slot : Option SlotNo) (r : EndReason) :
    (c.mark m q).releaseSlot slot r = (c.releaseSlot slot r).mark m q := by
  cases slot with
  | none => rfl
  | some k => exact unbind_mark m q c k _ _

end

/-! ### Operations that touch the notice lists -/

section
variable {m : Link → Link} (hm : Link.Overlooked m) (q : List Draw → List Draw) (c : Controller)
include hm

theorem updNotices_mark (x : Addr) (g : List NodeNotice → List NodeNotice) :
    (c.mark m q).updNode x (fun n => { n with notices := g n.notices }) = (c.updNode x fun n => { n with notices := g n.notices }).mark m q := by
  obtain ⟨u, hu⟩ := hm.node c.link x
  have hlink := hm.notices c.link x (g (c.link.nodes.get x).notices)
  unfold Controller.updNode Controller.mark Controller.node
  dsimp only
  rw [hlink, hu]

theorem tellNode_mark (b : Bay) (kind : NodeNoticeKind) : (c.mark m q).tellNode b kind = (c.tellNode b kind).mark m q := by
  obtain ⟨u, hu⟩ := hm.node c.link (c.bay b).map.node
  have hnode : (c.mark m q).node (c.bay b).map.node = { c.node (c.bay b).map.node with reportUsed := u } := hu
  have hupd := updNotices_mark hm q c (c.bay b).map.node fun l => l ++ [({ outlet := (c.bay b).map.outlet, kind := kind } : NodeNotice)]
  unfold Controller.tellNode
  dsimp only
  rw [mark_bay, hnode, apply_ite (Controller.mark m q), ← hupd]
  rfl

theorem dropNotices_mark (b : Bay) : (c.mark m q).dropNotices b = (c.dropNotices b).mark m q := by
  unfold Controller.dropNotices
  dsimp only
  rw [mark_bay, apply_ite (Controller.mark m q),
    ← updNotices_mark hm q c (c.bay b).map.node fun l => l.filter fun e => e.outlet != (c.bay b).map.outlet]

theorem standing_mark (b : Bay) : (c.mark m q).standing b = c.standing b := by
  obtain ⟨u, hu⟩ := hm.node c.link (c.bay b).map.node
  have hnode : (c.mark m q).node (c.bay b).map.node = { c.node (c.bay b).map.node with reportUsed := u } := hu
  unfold Controller.standing Controller.reading
  rw [mark_bay, hnode]
  rfl

theorem endSession_mark (b : Bay) (r : EndReason) (st : OutletState) :
    (c.mark m q).endSession b r st = (c.endSession b r st).mark m q := by
  cases hs : (c.outlet b).session with
  | none => rw [endSession_none hs, endSession_none (c := c.mark m q) hs]
  | some ss =>
    rw [endSession_eq hs, endSession_eq (c := c.mark m q) hs]
    cases r.untold <;> simp [tellNode_mark hm]

theorem withdrawFunding_mark (b : Bay) : (c.mark m q).withdrawFunding b = (c.withdrawFunding b).mark m q := by
  unfold Controller.withdrawFunding
  dsimp only
  rw [mark_bay, tellNode_mark hm, endSession_mark hm, addReason_mark, apply_ite (Controller.mark m q)]
  rfl

theorem takeDraw_mark (d : Draw) : (c.mark m q).takeDraw d = (c.takeDraw d).mark m q := by
  unfold Controller.takeDraw
  cases d.slot with
  | none => rfl
  | some k =>
    dsimp only
    rw [mark_drawApplies, mark_holdsSlot, mark_record]
    cases c.holdsSlot d.bay k <;> simp [withdrawFunding_mark hm, apply_ite (Controller.mark m q)]

theorem openSession_mark (b : Bay) (kind : FundingKind) (slot : Option SlotNo) (cap : Nat) :
    (c.mark m q).openSession b kind slot cap = (c.openSession b kind slot cap).mark m q := by
  unfold Controller.openSession
  dsimp only
  rw [standing_mark hm, mark_run, updOutlet_mark, dropNotices_mark hm, enqueue_mark, ← apply_ite (Controller.mark m q), markTarget_mark,
    judgeRelease_mark]

theorem bindAndOpen_mark (b : Bay) (k : SlotNo) : (c.mark m q).bindAndOpen b k = (c.bindAndOpen b k).mark m q := by
  unfold Controller.bindAndOpen
  rw [updRecord_mark, raise_mark, openSession_mark hm]

end

/-! ### Draws and presentations -/

/-- An answer with the controller that it leaves marked. -/
def Controller.markAnswer (m : Link → Link) (q : List Draw → List Draw) (x : Answered) : Answered :=
  (x.1, x.2.1, x.2.2.1, x.2.2.2.mark m q)

section
variable {m : Link → Link} (hm : Link.Overlooked m)
include hm

theorem takeAllDraws_mark (c : Controller) : (c.mark m id).takeAllDraws = c.takeAllDraws.mark m id := by
  unfold Controller.takeAllDraws
  show List.foldl _ (Controller.mark m id { c with pool := { c.pool with draws := [] } }) c.pool.draws = _
  generalize ({ c with pool := { c.pool with draws := [] } } : Controller) = d
  induction c.pool.draws generalizing d with
  | nil => rfl
  | cons x xs ih =>
    rw [List.foldl_cons, List.foldl_cons, takeDraw_mark hm]
    exact ih _

theorem presentCode_mark (q : List Draw → List Draw) (c : Controller) (b : Bay) (code : Nat) :
    (c.mark m q).presentCode b code = Controller.markAnswer m q (c.presentCode b code) := by
  have hf : (c.mark m q).credit.findCode code = c.credit.findCode code := rfl
  unfold Controller.presentCode
  rw [hf]
  cases c.credit.findCode code with
  | none => rfl
  | some k =>
    dsimp only
    rw [mark_record, bindAndOpen_mark hm]
    cases (c.record k).state with
    | LIVE =>
      simp only [apply_ite (Controller.markAnswer m q)]
      rfl
    | _ => rfl

theorem presentAt_mark (c : Controller) (b : Bay) (code : Nat) :
    (c.mark m id).presentAt b code = Controller.markAnswer m id (c.presentAt b code) := by
  have hbusy : (c.mark m id).siteBusy = c.siteBusy := rfl
  unfold Controller.presentAt
  rw [mark_outlet, hbusy, takeAllDraws_mark hm, presentCode_mark hm]
  cases (c.outlet b).state <;> simp only [apply_ite (Controller.markAnswer m id)] <;> rfl

end

/-! ### The draws taken one by one (R110) -/

@[simp] theorem tellNode_draws (c : Controller) (b : Bay) (kind : NodeNoticeKind) : (c.tellNode b kind).pool.draws = c.pool.draws := by
  rw [(tellNode_leaves c b kind).2.2.1]

theorem withdrawFunding_keeps_draws (c : Controller) (b : Bay) : (c.withdrawFunding b).pool.draws = c.pool.draws := by
  cases hs : (c.outlet b).session with
  | some ss => exact withdrawFunding_draws hs
  | none =>
    have hend : (c.tellNode b .FUNDING_ENDED).endSession b .FUNDING_ENDED .ENDING = c.tellNode b .FUNDING_ENDED :=
      endSession_none (by rw [tellNode_outlet, hs]) _ _
    unfold Controller.withdrawFunding
    dsimp only
    split
    · exact (addReason_draws _ _ _).trans (tellNode_draws c b _)
    · rw [hend, tellNode_draws]

theorem takeDraw_draws (c : Controller) (d : Draw) : (c.takeDraw d).pool.draws = c.pool.draws := by
  unfold Controller.takeDraw
  cases d.slot with
  | none => rfl
  | some k =>
    dsimp only
    cases c.holdsSlot d.bay k <;> simp [apply_ite Controller.pool, apply_ite Pool.draws, withdrawFunding_keeps_draws]

theorem takeAllDraws_of_none {c : Controller} (h : c.pool.draws = []) : c.takeAllDraws = c := by
  unfold Controller.takeAllDraws
  rw [h, List.foldl_nil, ← h]

/-- The first draw taken alone, and then the others. -/
theorem takeAllDraws_of_cons {c : Controller} {d : Draw} {ds : List Draw} (h : c.pool.draws = d :: ds) :
    c.takeAllDraws = ((c.putDraws ds).takeDraw d).takeAllDraws := by
  have hdraws : ((c.putDraws ds).takeDraw d).pool.draws = ds := takeDraw_draws _ _
  have hput : ((c.putDraws ds).takeDraw d).putDraws [] = (c.putDraws []).takeDraw d :=
    (takeDraw_mark overlooked_id (fun _ => []) (c.putDraws ds) d).symm
  show c.pool.draws.foldl (fun c d => c.takeDraw d) (c.putDraws []) =
    ((c.putDraws ds).takeDraw d).pool.draws.foldl (fun c d => c.takeDraw d) (((c.putDraws ds).takeDraw d).putDraws [])
  rw [h, hdraws, hput, List.foldl_cons]

end Sys2Proof.Machine
end

section
/-! SUPPORT. A due REPORT and its answer (R134, R135): presentations (R19), what their rule leaves of the link, and their answer in the
exchange that brought them. -/

namespace Sys2Proof.Machine

/-! ### Operations that change of the link the node table alone -/

/-- Of the link, the node table alone is changed. -/
def Controller.nodesAlone (c d : Controller) : Prop := d.link = { c.link with nodes := d.link.nodes }

theorem nodesAlone_of_link {c d : Controller} (h : d.link = c.link) : c.nodesAlone d := by
  unfold Controller.nodesAlone
  rw [h]

theorem nodesAlone_trans {c d e : Controller} (h : c.nodesAlone d) (h' : d.nodesAlone e) : c.nodesAlone e := by
  unfold Controller.nodesAlone at h h' ⊢
  rw [h', h]

section
variable (c : Controller) (b : Bay)

theorem tellNode_nodesAlone (kind : NodeNoticeKind) : c.nodesAlone (c.tellNode b kind) := tellNode_link c b kind

theorem dropNotices_nodesAlone : c.nodesAlone (c.dropNotices b) := by
  unfold Controller.dropNotices
  dsimp only
  split <;> rfl

theorem endSession_nodesAlone (r : EndReason) (st : OutletState) : c.nodesAlone (c.endSession b r st) := by
  cases hs : (c.outlet b).session with
  | none => rw [endSession_none hs]; rfl
  | some ss =>
    have hlink := endSession_link hs r st
    cases hr : r.untold with
    | true => exact nodesAlone_of_link (by rw [hlink, hr]; rfl)
    | false => exact nodesAlone_trans (tellNode_nodesAlone c b .SESSION_ENDED) (nodesAlone_of_link (by rw [hlink, hr]; rfl))

theorem withdrawFunding_nodesAlone : c.nodesAlone (c.withdrawFunding b) := by
  unfold Controller.withdrawFunding
  dsimp only
  refine nodesAlone_trans (tellNode_nodesAlone c b .FUNDING_ENDED) ?_
  split
  · exact nodesAlone_of_link (addReason_leaves _ b _).2.2.1
  · exact endSession_nodesAlone _ b _ _

theorem takeDraw_nodesAlone (d : Draw) : c.nodesAlone (c.takeDraw d) := by
  unfold Controller.takeDraw
  cases d.slot with
  | none => rfl
  | some k =>
    dsimp only
    have hunbind : ∀ x : Controller, x.link = c.link → c.nodesAlone (x.unbind k false .receiptExhausted) := fun x hx =>
      nodesAlone_of_link ((unbind_leaves x k _ _).2.2.1.trans hx)
    have hwithdraw : ∀ x : Controller, x.link = c.link → c.nodesAlone ((x.unbind k false .receiptExhausted).withdrawFunding d.bay) :=
      fun x hx => nodesAlone_trans (hunbind x hx) (withdrawFunding_nodesAlone _ _)
    split
    · rfl
    · split
      · cases c.holdsSlot d.bay k <;> rfl
      · cases c.holdsSlot d.bay k with
        | false => exact hunbind _ rfl
        | true => exact hwithdraw _ rfl

theorem takeAllDraws_nodesAlone : c.nodesAlone c.takeAllDraws := by
  unfold Controller.takeAllDraws
  generalize hd : ({ c with pool := { c.pool with draws := [] } } : Controller) = d
  have hcd : c.nodesAlone d := by rw [← hd]; rfl
  clear hd
  induction c.pool.draws generalizing d with
  | nil => exact hcd
  | cons x xs ih => exact ih _ (nodesAlone_trans hcd (takeDraw_nodesAlone d x))

theorem openSession_nodesAlone (kind : FundingKind) (slot : Option SlotNo) (cap : Nat) : c.nodesAlone (c.openSession b kind slot cap) := by
  have hdropped : ∀ x : Controller, x.link = c.link → c.nodesAlone
      (((if c.standing b = .empty then (x.dropNotices b).enqueue b else x.dropNotices b).markTarget b 0).judgeRelease) := fun x hx => by
    refine nodesAlone_trans (nodesAlone_trans (nodesAlone_of_link hx) (dropNotices_nodesAlone x b)) (nodesAlone_of_link ?_)
    rw [(judgeRelease_leaves _).2.2.2.1, (markTarget_leaves _ _ _).2.2.2.1]
    split
    · exact (enqueue_leaves _ b).2.2.2.1
    · rfl
  exact hdropped _ rfl

theorem bindAndOpen_nodesAlone (k : SlotNo) : c.nodesAlone (c.bindAndOpen b k) := by
  have hbound : ∀ x : Controller, x.link = c.link → c.nodesAlone (x.openSession b .CREDIT (some k) 0) := fun x hx =>
    nodesAlone_trans (nodesAlone_of_link hx) (openSession_nodesAlone x b _ _ _)
  exact hbound _ rfl

theorem presentCode_nodesAlone (code : Nat) : c.nodesAlone (c.presentCode b code).2.2.2 := by
  unfold Controller.presentCode
  cases c.credit.findCode code with
  | none => rfl
  | some k =>
    dsimp only
    cases (c.record k).state with
    | LIVE =>
      dsimp only
      split
      · rfl
      · split
        · rfl
        · split
          · rfl
          · exact bindAndOpen_nodesAlone c b k
    | _ => rfl

theorem presentAt_nodesAlone (code : Nat) : c.nodesAlone (c.presentAt b code).2.2.2 := by
  have hcode : c.nodesAlone (c.takeAllDraws.presentCode b code).2.2.2 :=
    nodesAlone_trans (takeAllDraws_nodesAlone c) (presentCode_nodesAlone _ b code)
  unfold Controller.presentAt
  split
  · rfl
  · split
    · rfl
    · split
      · exact hcode
      all_goals rfl

end

/-! ### A due REPORT (R134, R135) -/

theorem outIxOf_succ (ix : OutIx) : outIxOf? (ix.val + 1) = some ix := by
  unfold outIxOf?
  rw [dif_pos ⟨Nat.le_add_left 1 _, ix.isLt⟩]
  rfl

/-- A REPORT counted, and what is left answered in its exchange. -/
def Controller.sendAnswer (a : Addr) (outlet : Nat) (x : Answered) : Controller :=
  (x.2.2.2.mark (Link.countReport a) id).send (.answer a outlet x.1 x.2.1 x.2.2.1)

/-- A due REPORT is counted, then answered by its rule, and the ANSWER is sent. -/
theorem report_of_due {c : Controller} {a : Addr} {ix : OutIx} {b : Bay} (h : c.reportDue a ix b) (f : Bay → Controller → Answered)
    (hf : f b (c.mark (Link.countReport a) id) = Controller.markAnswer (Link.countReport a) id (f b c)) :
    c.report a (ix.val + 1) f = Controller.sendAnswer a (ix.val + 1) (f b c) := by
  obtain ⟨hw, hk, hu, hn, hb⟩ := h
  have hnode : (c.mark (Link.countReport a) id).node a = { c.node a with reportUsed := true } :=
    (countReport_get a c.link a).trans (if_pos rfl)
  have hbay : (c.mark (Link.countReport a) id).reportBay a (ix.val + 1) = some b := by
    unfold Controller.reportBay
    rw [hnode, outIxOf_succ]
    show (if (c.node a).known && decide (ix.val + 1 ≤ (c.node a).outlets) then c.bayAt a ix else none) = some b
    rw [hk, decide_eq_true hn]
    exact hb
  unfold Controller.report
  rw [if_pos hw, hu]
  show (c.mark (Link.countReport a) id).answerReport a (ix.val + 1) f = _
  unfold Controller.answerReport
  rw [hbay]
  dsimp only
  rw [hf]
  rfl

theorem exec_present_due {s : State} {a : Addr} {ix : OutIx} {b : Bay} (h : s.ctl.taking = true) (hd : s.ctl.reportDue a ix b) (code : Nat) :
    exec (.present a (ix.val + 1) code) s = .next (s.put (Controller.sendAnswer a (ix.val + 1) (s.ctl.presentAt b code))) := by
  show execPresent a (ix.val + 1) code s = _
  rw [execPresent, event_taking _ h,
    report_of_due hd _ (presentAt_mark (overlooked_countReport a) s.ctl b code)]

/-- What is sent for a rule that leaves the rest of the link alone is what `reported` says. -/
theorem reported_sendAnswer {c : Controller} {x : Answered} (hx : c.nodesAlone x.2.2.2) (a : Addr) (outlet : Nat) :
    c.reported (Controller.sendAnswer a outlet x) a outlet x := by
  have hnode : ∀ y, (Controller.sendAnswer a outlet x).node y =
      if a = y then { x.2.2.2.node a with reportUsed := true } else x.2.2.2.node y := countReport_get a x.2.2.2.link
  refine ⟨rfl, by rw [hnode, if_pos rfl], fun y hy => by rw [hnode, if_neg (Ne.symm hy)], ?_, ?_, ?_, rfl, rfl, rfl, rfl, rfl, rfl, rfl, rfl⟩
  · show x.2.2.2.link.reports + 1 = _
    rw [hx]
  · show x.2.2.2.link.windows = _
    rw [hx]
  · show x.2.2.2.link.state = _
    rw [hx]

/-! ### The lines of a presentation (R19) -/

theorem siteBusy_iff {c : Controller} : c.siteBusy = true ↔ c.settings.working.isSome = true ∨ c.lines.stopAll.qualified = true := by
  simp [Controller.siteBusy, SettingsBlock.setupFlag]

section
variable {c : Controller} {b : Bay} (code : Nat)

theorem presentAt_of_meter_only (h : (c.outlet b).state = .METER_ONLY) : c.presentAt b code = (.NOT_MANAGED, 0, 0, c) := by
  unfold Controller.presentAt
  rw [h]

theorem presentAt_of_busy (h : (c.outlet b).state ≠ .METER_ONLY) (hb : c.siteBusy = true) :
    c.presentAt b code = (.SITE_BUSY, 0, 0, c) := by
  unfold Controller.presentAt
  split
  · next hs => exact absurd hs h
  · exact if_pos hb

section
variable (hb : ¬ c.siteBusy = true)
include hb

theorem presentAt_of_funded (h : (c.outlet b).state = .QUEUED ∨ (c.outlet b).state = .STARTING ∨ (c.outlet b).state = .CHARGING
    ∨ (c.outlet b).state = .PAUSED ∨ (c.outlet b).state = .ENDING) : c.presentAt b code = (.ALREADY_FUNDED, 0, 0, c) := by
  unfold Controller.presentAt
  rcases h with h | h | h | h | h <;> rw [h] <;> exact if_neg hb

theorem presentAt_of_not_ready (h : (c.outlet b).state = .UNMAPPED ∨ (c.outlet b).state = .OFFLINE ∨ (c.outlet b).state = .DISABLED
    ∨ (c.outlet b).state = .IDLE ∨ (c.outlet b).state = .FAULT ∨ (c.outlet b).state = .HOLDOFF ∨ (c.outlet b).state = .LOCKED) :
    c.presentAt b code = (.NOT_READY, 0, 0, c) := by
  unfold Controller.presentAt
  rcases h with h | h | h | h | h | h | h <;> rw [h] <;> exact if_neg hb

theorem presentAt_of_plugged (h : (c.outlet b).state = .PLUGGED) : c.presentAt b code = c.takeAllDraws.presentCode b code := by
  unfold Controller.presentAt
  rw [h]
  exact if_neg hb

end

/-! The lines of a presentation that the credit table answers. -/

theorem presentCode_unknown (hf : c.credit.findCode code = none) : c.presentCode b code = (.UNKNOWN, 0, 0, c) := by
  unfold Controller.presentCode
  rw [hf]

section
variable {code : Nat} {k : SlotNo} (hf : c.credit.findCode code = some k)
include hf

theorem presentCode_voided (h : (c.record k).state = .VOIDED ∨ ((c.record k).state = .BOUND ∧ (c.record k).voidPending = true)) :
    c.presentCode b code = (.VOIDED, 0, 0, c) := by
  unfold Controller.presentCode
  rw [hf]
  dsimp only
  rcases h with h | ⟨h, hv⟩
  · rw [h]
  · rw [h, hv]; rfl

theorem presentCode_spent (h : (c.record k).state = .SPENT) : c.presentCode b code = (.SPENT, 0, 0, c) := by
  unfold Controller.presentCode
  rw [hf]
  dsimp only
  rw [h]

theorem presentCode_lapsed (h : (c.record k).state = .LAPSED) : c.presentCode b code = (.EXPIRED, 0, 0, c) := by
  unfold Controller.presentCode
  rw [hf]
  dsimp only
  rw [h]

theorem presentCode_in_use (h : (c.record k).state = .BOUND) (hv : (c.record k).voidPending = false) :
    c.presentCode b code = (.IN_USE, 0, 0, c) := by
  unfold Controller.presentCode
  rw [hf]
  dsimp only
  rw [h, hv]
  rfl

section
variable (h : (c.record k).state = .LIVE)
include h

theorem presentCode_expired (hx : c.run.timeValid = true ∧ (c.record k).expiryTime ≤ c.run.siteTime) :
    c.presentCode b code = (.EXPIRED, 0, 0, (c.updRecord k Record.lapse).raise .receiptLapse) := by
  unfold Controller.presentCode
  rw [hf]
  dsimp only
  rw [h]
  exact if_pos (by simpa [Record.expiredAt] using hx)

/-- A LIVE record that has not expired is judged by its tier, and then by the run mode (R19, R197). -/
theorem presentCode_of_fit (hx : ¬ (c.run.timeValid = true ∧ (c.record k).expiryTime ≤ c.run.siteTime)) :
    c.presentCode b code = if (c.record k).tier < (c.bay b).minTier then (.TIER_LOW, 0, 0, c)
      else if !c.run.running then (.SITE_BUSY, 0, 0, c)
      else (.ACCEPTED, (c.record k).tier, (c.record k).remaining, c.bindAndOpen b k) := by
  unfold Controller.presentCode
  rw [hf]
  dsimp only
  rw [h]
  exact if_neg (by simpa [Record.expiredAt] using hx)

end
end
end

/-- Settles O21. -/
theorem refusedPresentationAnswers : Obligations.RefusedPresentationAnswers := by
  refine ⟨fun s a ix b code h hd => ⟨_, exec_present_due h hd code, reported_sendAnswer (presentAt_nodesAlone _ _ _) a _⟩, ?_⟩
  intro c b code busy st answers
  have hbusy : c.siteBusy = true ↔ busy := siteBusy_iff
  refine ⟨presentAt_of_meter_only code, fun hm hb => presentAt_of_busy code hm (hbusy.mpr hb), fun hb => presentAt_of_funded code (by rwa [hbusy]),
    fun hb => presentAt_of_not_ready code (by rwa [hbusy]), fun hb => presentAt_of_plugged code (by rwa [hbusy]), fun hb hp hd => ?_⟩
  have hcode : c.presentAt b code = c.presentCode b code := by
    rw [presentAt_of_plugged code (by rwa [hbusy]) hp, takeAllDraws_of_none hd]
  simp only [answers, hcode]
  refine ⟨presentCode_unknown code, fun k hf => ?_⟩
  refine ⟨presentCode_voided hf, presentCode_spent hf, presentCode_lapsed hf, presentCode_expired hf, presentCode_in_use hf,
    fun hl hx ht => ?_, fun hl hx ht hr => ?_⟩
  · rw [presentCode_of_fit hf hl hx, if_pos ht]
  · rw [presentCode_of_fit hf hl hx, if_neg (Nat.not_lt.mpr ht), hr]
    rfl

end Sys2Proof.Machine
end

section
/-! SUPPORT. The opening of a session (R37) and an accepted presentation (R19, R20). -/

namespace Sys2Proof.Machine

/-! ### The admission queue (R74, R75) -/

theorem mem_queueInsert (e : QueueEntry) (q : List QueueEntry) : e ∈ queueInsert e q := by
  induction q with
  | nil => exact List.mem_cons_self
  | cons x xs ih =>
    unfold queueInsert
    split
    · exact List.mem_cons_self
    · exact List.mem_cons_of_mem _ ih

/-- A bay that is enqueued has an ACTIVE entry. -/
theorem enqueue_active (c : Controller) (b : Bay) : ∃ e, e ∈ (c.enqueue b).pool.queue ∧ e.bay = b ∧ e.active = true := by
  unfold Controller.enqueue
  split
  · next h =>
    obtain ⟨e, he, heb⟩ := List.any_eq_true.mp h
    have heb : e.bay = b := by simpa using heb
    exact ⟨{ e with active := true }, List.mem_map.mpr ⟨e, he, if_pos heb⟩, heb, rfl⟩
  · exact ⟨_, mem_queueInsert _ _, rfl, rfl⟩

/-! ### The opening of a session (R37) -/

/-- Of the bay's own list the entries for its outlet go, and no other list changes (R132). -/
theorem dropNotices_node (c : Controller) (b : Bay) (x : Addr) : ((c.dropNotices b).node x).notices =
    if (c.bay b).map.valid = true ∧ x = (c.bay b).map.node
      then (c.node x).notices.filter fun e => e.outlet != (c.bay b).map.outlet else (c.node x).notices := by
  unfold Controller.dropNotices
  dsimp only
  split
  · next hv =>
    rw [updNode_node]
    by_cases hx : x = (c.bay b).map.node
    · rw [if_pos hx.symm, if_pos ⟨hv, hx⟩, hx]
    · rw [if_neg (Ne.symm hx), if_neg fun h => hx h.2]
  · next hv => rw [if_neg fun h => hv h.1]

/-- An outlet as an opening leaves it, but for its target. -/
def Outlet.openedWith (rs : Reasons) (ss : Session) (o : Outlet) : Outlet :=
  { o with session := some ss, state := if rs = .empty then .QUEUED else .PAUSED, reasons := rs }

/-- The queue entry of a bay whose session opens: it joins where no reason pauses the session (R37). -/
def Controller.queueIf (rs : Reasons) (b : Bay) (c : Controller) : Controller := if rs = .empty then c.enqueue b else c

theorem queueIf_leaves (rs : Reasons) (b : Bay) (c : Controller) :
    (c.queueIf rs b).outlets = c.outlets ∧ (c.queueIf rs b).link = c.link ∧ (c.queueIf rs b).settings = c.settings := by
  unfold Controller.queueIf
  split
  · obtain ⟨-, ho, -, hl, hs, -⟩ := enqueue_leaves c b
    exact ⟨ho, hl, hs⟩
  · exact ⟨rfl, rfl, rfl⟩

section
variable (c : Controller) (b : Bay) (kind : FundingKind) (slot : Option SlotNo) (cap : Nat)

theorem openSession_eq : c.openSession b kind slot cap =
    ((((c.updOutlet b (Outlet.openedWith (c.standing b) (Session.opened kind slot cap c.run.siteTime))).dropNotices b).queueIf
      (c.standing b) b).markTarget b 0).judgeRelease := rfl

theorem openSession_outlets : c.outletsBut b (c.openSession b kind slot cap) ∧ ∃ p v ch, (c.openSession b kind slot cap).outlet b =
    { (c.outlet b).openedWith (c.standing b) (Session.opened kind slot cap c.run.siteTime) with
      pending := p, raiseReleased := v, changed := ch } := by
  rw [openSession_eq]
  exact change_then_target ((queueIf_leaves _ b _).1.trans (dropNotices_leaves _ b).2.1) 0

theorem openSession_queue : (c.openSession b kind slot cap).pool.queue =
    (((c.updOutlet b (Outlet.openedWith (c.standing b) (Session.opened kind slot cap c.run.siteTime))).dropNotices b).queueIf
      (c.standing b) b).pool.queue := by
  rw [openSession_eq, (judgeRelease_leaves _).2.1, (markTarget_leaves _ _ _).2.1]

theorem openSession_notices (x : Addr) : ((c.openSession b kind slot cap).node x).notices =
    if (c.bay b).map.valid = true ∧ x = (c.bay b).map.node
      then (c.node x).notices.filter fun e => e.outlet != (c.bay b).map.outlet else (c.node x).notices := by
  rw [openSession_eq, node_eq_of_link (judgeRelease_leaves _).2.2.2.1, node_eq_of_link (markTarget_leaves _ _ _).2.2.2.1,
    node_eq_of_link (queueIf_leaves _ b _).2.1, dropNotices_node]
  rfl

theorem openSession_openedAt : c.openedAt (c.openSession b kind slot cap) b kind slot cap := by
  obtain ⟨-, p, v, ch, ho⟩ := openSession_outlets c b kind slot cap
  have hreasons : ((c.openSession b kind slot cap).outlet b).reasons = c.standing b := by rw [ho]; rfl
  have hstate : ((c.openSession b kind slot cap).outlet b).state = if c.standing b = .empty then .QUEUED else .PAUSED := by rw [ho]; rfl
  refine ⟨by rw [ho]; rfl, hreasons, fun he => ?_, fun he => ?_, openSession_notices c b kind slot cap⟩
  · rw [hreasons] at he
    rw [hstate, if_pos he, openSession_queue, Controller.queueIf, if_pos he]
    exact ⟨rfl, enqueue_active _ b⟩
  · rw [hreasons] at he
    rw [hstate, if_neg he, openSession_queue, Controller.queueIf, if_neg he, (dropNotices_leaves _ b).2.2.1]
    exact ⟨rfl, rfl⟩

end

/-! ### An accepted presentation (R19, R20) -/

section
variable (c : Controller) (b : Bay) (k : SlotNo)

theorem bindAndOpen_credit : (c.bindAndOpen b k).credit = (c.updRecord k (Record.bind b)).credit := (openSession_leaves _ b _ _ _).1

theorem bindAndOpen_record (j : SlotNo) :
    (c.bindAndOpen b k).record j = if k = j then (c.record k).bind b else c.record j := by
  rw [record_eq_of_credit (bindAndOpen_credit c b k), updRecord_record]

theorem bindAndOpen_openedAt : c.openedAt (c.bindAndOpen b k) b .CREDIT (some k) 0 :=
  openSession_openedAt ((c.updRecord k (Record.bind b)).raise .receiptBind) b _ _ _

theorem bindAndOpen_outletsBut : c.outletsBut b (c.bindAndOpen b k) :=
  (openSession_outlets ((c.updRecord k (Record.bind b)).raise .receiptBind) b _ _ _).1

theorem bindAndOpen_raised : (c.bindAndOpen b k).raised .receiptBind :=
  (raised_congr (openSession_leaves _ b _ _ _).2.2.2.1 _).mpr (raised_raise (c.updRecord k (Record.bind b)) .receiptBind)

theorem bindAndOpen_quiet : c.quietBlocks (c.bindAndOpen b k) := by
  obtain ⟨-, hst, hse, -, hli, hru⟩ := openSession_leaves ((c.updRecord k (Record.bind b)).raise .receiptBind) b .CREDIT (some k) 0
  exact ⟨hst, hse, hli, hru⟩

end

theorem quietBlocks_trans {c d e : Controller} (h : c.quietBlocks d) (h' : d.quietBlocks e) : c.quietBlocks e := by
  obtain ⟨hst, hse, hli, hru⟩ := h
  obtain ⟨hst', hse', hli', hru'⟩ := h'
  exact ⟨hst'.trans hst, hse'.trans hse, hli'.trans hli, hru'.trans hru⟩

/-- The answer that accepts a presentation, with the tier and the credit of its record (R20). -/
def Controller.acceptance (b : Bay) (k : SlotNo) (c : Controller) : Answered :=
  (.ACCEPTED, (c.record k).tier, (c.record k).remaining, c.bindAndOpen b k)

/-- The answer that was counted and sent leaves the opened session as it is: its node's notice list is what the opening left. -/
theorem openedAt_sendAnswer {c : Controller} {x : Answered} {b : Bay} {kind : FundingKind} {slot : Option SlotNo} {cap : Nat}
    (h : c.openedAt x.2.2.2 b kind slot cap) (a : Addr) (outlet : Nat) :
    c.openedAt (Controller.sendAnswer a outlet x) b kind slot cap := by
  obtain ⟨hs, hr, hq, hp, hn⟩ := h
  refine ⟨hs, hr, hq, hp, fun y => ?_⟩
  have hnode : ((Controller.sendAnswer a outlet x).node y).notices = (x.2.2.2.node y).notices := by
    refine (congrArg Node.notices (countReport_get a x.2.2.2.link y)).trans ?_
    split
    · next h => rw [h]; rfl
    · rfl
  rw [hnode]
  exact hn y

/-- Settles O20. -/
theorem acceptedPresentationBindsAndOpens : Obligations.AcceptedPresentationBindsAndOpens := by
  have hidle : ∀ s : State, s.ctl.settings.working = none → s.ctl.lines.stopAll.qualified = false → ¬ s.ctl.siteBusy = true :=
    fun s hw hq => by simp [siteBusy_iff, hw, hq]
  refine ⟨fun s h => ⟨takeAllDraws_of_none, fun d ds hd => ⟨_, exec_draw h hd, takeAllDraws_of_cons hd⟩⟩,
    fun s a ix b code h hd hp hw hq => ?_, fun s a ix b code k h hd hp hw hq hrun hdraws hf hlive hx ht => ?_⟩
  · refine ⟨_, exec_present_due h hd code, ?_⟩
    rw [← presentAt_of_plugged code (hidle s hw hq) hp]
    exact reported_sendAnswer (presentAt_nodesAlone _ _ _) a _
  · have hanswer : s.ctl.presentAt b code = s.ctl.acceptance b k := by
      rw [presentAt_of_plugged code (hidle s hw hq) hp, takeAllDraws_of_none hdraws, presentCode_of_fit hf hlive hx,
        if_neg (Nat.not_lt.mpr ht), hrun]
      rfl
    obtain ⟨hans, hnode, -, -, -, -, hcredit, houtlets, -, hport, hquiet⟩ :=
      reported_sendAnswer (c := s.ctl) (x := s.ctl.acceptance b k) (bindAndOpen_nodesAlone s.ctl b k) a (ix.val + 1)
    have hopened := openedAt_sendAnswer (x := s.ctl.acceptance b k) (bindAndOpen_openedAt s.ctl b k) a (ix.val + 1)
    have hrecord := fun j => (record_eq_of_credit hcredit j).trans (bindAndOpen_record s.ctl b k j)
    have hrecords : s.ctl.recordsBut (some k) (Controller.sendAnswer a (ix.val + 1) (s.ctl.acceptance b k)) :=
      fun j hj => (hrecord j).trans (if_neg fun e => hj (congrArg some e.symm))
    have hsent := outletsBut_of_eq (b := b) fun y _ => outlet_eq_of_outlets houtlets y
    have hexec := exec_present_due h hd code
    rw [hanswer] at hexec
    exact ⟨_, hexec, hans, (hrecord k).trans (if_pos rfl), hopened, (raised_congr hport _).mpr (bindAndOpen_raised s.ctl b k),
      congrArg Node.reportUsed hnode, hrecords, outletsBut_trans (bindAndOpen_outletsBut s.ctl b k) hsent,
      quietBlocks_trans (bindAndOpen_quiet s.ctl b k) hquiet⟩

end Sys2Proof.Machine
end

section
/-! SUPPORT. The end of a session in full (R39): the outlet it leaves with its target, its summary, the record it unbinds, the pool, and what
it leaves alone; and the expiries of the outlet timers, each of which acts on its outlet (R42, R44, R46 to R49, R51). -/

namespace Sys2Proof.Machine

/-! ### The state that a rule gives (R39, R43) -/

section
variable {o : Outlet}

theorem put_of_offline (h : o.state = .OFFLINE) (st : OutletState) : o.put st = { o with beforeSilence := some st } := if_pos h

theorem put_of_online (h : o.state ≠ .OFFLINE) (st : OutletState) : o.put st = { o with state := st } := if_neg h

theorem acting_of_offline (h : o.state = .OFFLINE) : o.acting = o.beforeSilence.getD .OFFLINE := if_pos h

theorem acting_of_online (h : o.state ≠ .OFFLINE) : o.acting = o.state := if_neg h

/-- The state that a rule gives is the one that the next rule acts on. -/
theorem acting_put (o : Outlet) {st : OutletState} (hst : st ≠ .OFFLINE) : (o.put st).acting = st := by
  by_cases h : o.state = .OFFLINE
  · rw [put_of_offline h]
    exact if_pos h
  · rw [put_of_online h]
    exact if_neg hst

end

/-! ### The target of 0 W (R33, R53) -/

/-- The pending target of an outlet after a new target: an OFFLINE or UNMAPPED one takes none. -/
def Outlet.pendingAfter (w : Nat) (o : Outlet) : Option PendingTarget :=
  if o.state = .OFFLINE ∨ o.state = .UNMAPPED then o.pending else pendingFor o.inForce w

theorem pendingAfter_of_taking {o : Outlet} (h : o.state ≠ .OFFLINE) (h' : o.state ≠ .UNMAPPED) (w : Nat) :
    o.pendingAfter w = pendingFor o.inForce w := if_neg (not_or.mpr ⟨h, h'⟩)

theorem markTarget_outlet_self (c : Controller) (b : Bay) (w : Nat) :
    ∃ v ch, (c.markTarget b w).outlet b = { c.outlet b with pending := (c.outlet b).pendingAfter w, raiseReleased := v, changed := ch } := by
  rw [markTarget_outlet]
  by_cases h : (c.outlet b).state = .OFFLINE ∨ (c.outlet b).state = .UNMAPPED
  · exact ⟨_, _, by rw [if_neg (fun e => e.2 h), Outlet.pendingAfter, if_pos h]⟩
  · exact ⟨false, _, by rw [if_pos ⟨rfl, h⟩, Outlet.pendingAfter, if_neg h]; rfl⟩

/-- A change of one outlet, then of other blocks than the outlets alone, then a new target for that outlet: what is left of the outlet. -/
theorem change_then_target_outlet {c d : Controller} {b : Bay} {f : Outlet → Outlet} (h : d.outlets = (c.updOutlet b f).outlets) (w : Nat) :
    ∃ v ch, (d.markTarget b w).judgeRelease.outlet b =
      { f (c.outlet b) with pending := (f (c.outlet b)).pendingAfter w, raiseReleased := v, changed := ch } := by
  obtain ⟨v, hv⟩ := judgeRelease_outlet_eq (d.markTarget b w) b
  obtain ⟨v', ch, hm⟩ := markTarget_outlet_self d b w
  exact ⟨v, ch, by rw [hv, hm, outlet_eq_of_outlets h, updOutlet_outlet_self]; rfl⟩

/-! ### What a release of the bound record does (R20, R21) -/

theorem alike_trans {o o' o'' : Outlet} (h : o.alike o') (h' : o'.alike o'') : o.alike o'' := by
  obtain ⟨v, rfl⟩ := (alike_iff _ _).mp h
  obtain ⟨w, rfl⟩ := (alike_iff _ _).mp h'
  rfl

/-- An unbind reaches of the outlets the bound bay alone. -/
theorem unbind_outlet_of_ne {c : Controller} {k : SlotNo} {x : Bay} (h : (c.record k).boundBay ≠ some x) (atReset : Bool) (y : Cause) :
    (c.unbind k atReset y).outlet x = c.outlet x := by
  unfold Controller.unbind
  split
  · cases hb : (c.record k).boundBay with
    | none => rfl
    | some b =>
      rw [raise_outlet, updRecord_outlet, updOutlet_outlet, if_neg]
      exact fun e => h (hb.trans (congrArg some e))
  · rfl

/-- An unbind reaches of the records the one it is for. -/
theorem unbind_record_of_ne (c : Controller) {k j : SlotNo} (h : k ≠ j) (atReset : Bool) (y : Cause) :
    (c.unbind k atReset y).record j = c.record j := by
  by_cases hb : (c.record k).state = .BOUND
  · rw [unbind_record hb, if_neg h]
  · unfold Controller.unbind
    rw [if_neg hb]

theorem releaseSlot_outlet_of_ne {c : Controller} {slot : Option SlotNo} {x : Bay}
    (h : ∀ k, slot = some k → (c.record k).boundBay ≠ some x) (r : EndReason) : (c.releaseSlot slot r).outlet x = c.outlet x := by
  cases slot with
  | none => rfl
  | some k => exact unbind_outlet_of_ne (h k rfl) _ _

theorem releaseSlot_recordsBut (c : Controller) (slot : Option SlotNo) (r : EndReason) : c.recordsBut slot (c.releaseSlot slot r) :=
  fun j hj => by
    cases slot with
    | none => rfl
    | some k => exact unbind_record_of_ne c (fun e => hj (congrArg some e.symm)) _ _

/-- The outlet as steps 1 and 2 of R39 leave it. -/
theorem closeTail_releaseSlot_outlet (c : Controller) (b : Bay) (slot : Option SlotNo) (r : EndReason) :
    ∃ s' ch, ((c.updOutlet b Outlet.closeTail).releaseSlot slot r).outlet b =
      { c.outlet b with session := s', unattributed := 0, changed := ch } := by
  have hclosed : (c.updOutlet b Outlet.closeTail).outlet b = (c.outlet b).change Outlet.closeTail := updOutlet_outlet_self c b _
  cases slot with
  | none => exact ⟨_, _, hclosed⟩
  | some k =>
    show ∃ s' ch, ((c.updOutlet b Outlet.closeTail).unbind k _ _).outlet b = _
    rcases unbind_outlet (c.updOutlet b Outlet.closeTail) k (r == EndReason.RESET) .receiptUnbind b with h | h
    · exact ⟨_, _, h.trans hclosed⟩
    · rw [hclosed] at h
      exact ⟨_, _, h⟩

/-! ### The end of a session in full (R39) -/

/-- An outlet after its session's end, but for the summary and for the two flags that the end may set (R39, R40, R53). -/
def Outlet.sessionOver (st : OutletState) (o : Outlet) : Outlet :=
  { o with state := if o.state = .OFFLINE then .OFFLINE else st
           beforeSilence := if o.state = .OFFLINE then some st else o.beforeSilence
           session := none, reasons := .empty, startTimer := none, fundingWait := none, pauseMinimum := none, silenceHold := none
           overdraw := if st = .ENDING then o.overdraw else none, unattributed := 0
           pending := if o.state = .OFFLINE ∨ st = .OFFLINE ∨ st = .UNMAPPED then o.pending else pendingFor o.inForce 0 }

section
variable {c : Controller} {b : Bay} {ss : Session} (hs : (c.outlet b).session = some ss) (r : EndReason) (st : OutletState)
include hs

/-- The outlet of a session that has ended. -/
theorem endSession_outlet_over : ∃ sm v ch, (c.endSession b r st).outlet b =
    { (c.outlet b).sessionOver st with summary := sm, raiseReleased := v, changed := ch } := by
  obtain ⟨s', ch', hrel⟩ := closeTail_releaseSlot_outlet c b ss.boundSlot r
  rw [endSession_eq hs]
  dsimp only
  generalize ((c.updOutlet b Outlet.closeTail).releaseSlot ss.boundSlot r) = c2 at hrel
  generalize hc3 : ((c2.updOutlet b (Outlet.conclude r c.run.siteTime st)).dequeue b).depart b = c3
  have h3 : c3.outlet b = (c2.outlet b).change (Outlet.conclude r c.run.siteTime st) := by
    rw [← hc3, depart_outlet, dequeue_outlet, updOutlet_outlet_self]
  obtain ⟨v, ch, hm⟩ := markTarget_outlet_self c3 b 0
  obtain ⟨w, hw⟩ := judgeRelease_outlet_eq ((if r.untold then c3.markTarget b 0 else (c3.markTarget b 0).tellNode b .SESSION_ENDED).raise
    .outletSessionEnd) b
  refine ⟨(Outlet.conclude r c.run.siteTime st (c2.outlet b)).summary, w, ch, hw.trans ?_⟩
  have htold : ((if r.untold then c3.markTarget b 0 else (c3.markTarget b 0).tellNode b .SESSION_ENDED).raise .outletSessionEnd).outlet b =
      (c3.markTarget b 0).outlet b := by
    cases r.untold <;> simp
  rw [htold, hm, h3, hrel]
  by_cases h : (c.outlet b).state = .OFFLINE <;>
    simp [Outlet.change, Outlet.conclude, Outlet.put, Outlet.sessionOver, Outlet.pendingAfter, h]

/-- After the release of its record a session's end reaches no other outlet. -/
theorem endSession_after_release :
    ((c.updOutlet b Outlet.closeTail).releaseSlot ss.boundSlot r).outletsBut b (c.endSession b r st) := by
  have htell : ∀ d : Controller, d.outletsBut b ((if r.untold then d else d.tellNode b .SESSION_ENDED).raise .outletSessionEnd) :=
    fun d => outletsBut_of_eq fun x _ => by cases r.untold <;> simp
  have hqueue : ∀ d : Controller, d.outletsBut b ((d.dequeue b).depart b) := fun d => outletsBut_of_eq fun _ _ => rfl
  rw [endSession_eq hs]
  exact outletsBut_trans (updOutlet_outletsBut _ b _) (outletsBut_trans (hqueue _) (outletsBut_trans (markTarget_outletsBut _ b 0)
    (outletsBut_trans (htell _) (judgeRelease_outletsBut _ b))))

theorem endSession_pool : (c.endSession b r st).pool =
    { c.pool with queue := c.pool.queue.filter fun e => e.bay != b, computed := c.pool.computed.set b 0 } := by
  have hpool : ((c.updOutlet b Outlet.closeTail).releaseSlot ss.boundSlot r).pool = c.pool := (releaseSlot_leaves _ _ _).1
  rw [endSession_eq hs]
  generalize (c.updOutlet b Outlet.closeTail).releaseSlot ss.boundSlot r = c2 at hpool
  cases r.untold <;> simp [Controller.dequeue, Controller.depart, Controller.putQueue, hpool]

theorem endSession_raised : (c.endSession b r st).raised .outletSessionEnd :=
  (raised_congr (c := ((c.updOutlet b Outlet.closeTail).releaseSlot ss.boundSlot r).raise .outletSessionEnd) (endSession_port hs r st) _).mpr
    (raised_raise _ _)

theorem endSession_record {k : SlotNo} (hk : ss.boundSlot = some k) (hb : (c.record k).state = .BOUND) :
    (c.endSession b r st).record k = (c.record k).unbind c.run.timeValid c.run.siteTime (r == .RESET) := by
  rw [record_eq_of_credit (endSession_credit hs r st), hk]
  exact (unbind_record hb _ _ k).trans (if_pos rfl)

end

theorem endFrame_refl (c : Controller) (b : Bay) : c.endFrame b c := ⟨fun _ _ => rfl, fun _ _ => rfl, rfl, rfl, rfl, rfl⟩

/-- What the end of a session leaves alone, whether one is held or not (R20, R39). -/
theorem endSession_endFrame (c : Controller) (b : Bay) (r : EndReason) (st : OutletState) : c.endFrame b (c.endSession b r st) := by
  cases hs : (c.outlet b).session with
  | none => rw [endSession_none hs]; exact endFrame_refl c b
  | some ss =>
    refine ⟨fun j hj => ?_, fun x hx => ?_, endSession_leaves c b r st⟩
    · rw [hs] at hj
      rw [record_eq_of_credit (endSession_credit hs r st)]
      exact releaseSlot_recordsBut c _ r j hj
    · have hslot : ∀ k, ss.boundSlot = some k → (c.record k).boundBay ≠ some x := fun k hk hb => hx (.inr ⟨k, by rw [hs]; exact hk, hb⟩)
      have hrel : ((c.updOutlet b Outlet.closeTail).releaseSlot ss.boundSlot r).outlet x = c.outlet x := by
        rw [releaseSlot_outlet_of_ne (c := c.updOutlet b Outlet.closeTail) hslot, updOutlet_outlet, if_neg fun e => hx (.inl e.symm)]
      have h := endSession_after_release hs r st x fun e => hx (.inl e)
      rwa [hrel] at h

/-- What a session's end leaves alone, a later change of that outlet leaves alone too. -/
theorem endFrame_trans {c d e : Controller} {b : Bay} (h : c.endFrame b d) (hr : e.credit = d.credit) (ho : d.outletsBut b e)
    (hq : c.quietBlocks e) : c.endFrame b e := by
  obtain ⟨hrec, hout, -⟩ := h
  exact ⟨fun j hj => (record_eq_of_credit hr j).trans (hrec j hj), fun x hx => alike_trans (hout x hx) (ho x fun e => hx (.inl e)), hq⟩

/-- What the tail adds to a session (R39). -/
theorem closeTail_fields (ss : Session) (e : Nat) :
    (ss.closeTail e).kind = ss.kind ∧ (ss.closeTail e).cap = ss.cap ∧ (ss.closeTail e).solar = ss.solar
      ∧ (ss.closeTail e).battery = ss.battery ∧ (ss.closeTail e).grid = satAdd u32Max ss.grid e
      ∧ (ss.closeTail e).energy = satAdd u32Max ss.energy e ∧ (ss.closeTail e).interrupted = ss.interrupted := by
  unfold Session.closeTail
  cases ss.kind <;> exact ⟨rfl, rfl, rfl, rfl, rfl, rfl, rfl⟩

/-- The tail of a CREDIT session is unfunded, that of any other paid (R39). -/
theorem closeTail_funding (ss : Session) (e : Nat) :
    (ss.kind = .CREDIT → (ss.closeTail e).unfunded = satAdd u32Max ss.unfunded e ∧ (ss.closeTail e).paidEnergy = ss.paidEnergy)
      ∧ (ss.kind ≠ .CREDIT → (ss.closeTail e).paidEnergy = satAdd u32Max ss.paidEnergy e ∧ (ss.closeTail e).unfunded = ss.unfunded) := by
  unfold Session.closeTail
  cases ss.kind <;> simp

theorem interrupts_eq (r : EndReason) : r.interrupts = (r == .LINK_LOSS || r == .LINK_DOWN || r == .RESET) := by cases r <;> rfl

theorem untold_iff (r : EndReason) : r.untold = true ↔ r = .UNPLUGGED ∨ r = .LINK_LOSS ∨ r = .LINK_DOWN ∨ r = .RESET := by
  cases r <;> simp [EndReason.untold]

/-- A session that has ended is summarised, and nothing of it is left (R39). -/
theorem endSession_endedWith {c : Controller} {b : Bay} {ss : Session} (hs : (c.outlet b).session = some ss) (r : EndReason)
    (st : OutletState) : (c.endSession b r st).endedWith b r c.run.siteTime := by
  obtain ⟨sm, v, ch, ho⟩ := endSession_outlet_over hs r st
  obtain ⟨slot, -, hsum⟩ := endSession_summary hs r st
  exact ⟨by rw [ho]; rfl, by rw [ho]; rfl, _, hsum, rfl, rfl⟩

/-- Settles O27. -/
theorem sessionEndClearsAndSummarises : Obligations.SessionEndClearsAndSummarises := by
  intro c b reason next ss hs c' tail
  obtain ⟨sm, v, ch, ho⟩ := endSession_outlet_over hs reason next
  obtain ⟨slot, -, hsum⟩ := endSession_summary hs reason next
  have ho' : c'.outlet b = { (c.outlet b).sessionOver next with summary := sm, raiseReleased := v, changed := ch } := ho
  have htold := untold_iff reason
  refine ⟨by rw [ho']; rfl, by rw [ho']; rfl, by rw [ho']; rfl, by rw [ho']; rfl, by rw [ho']; rfl, by rw [ho']; rfl, by rw [ho']; rfl,
    fun hn => by rw [ho']; exact if_neg hn, fun hn => by rw [ho']; exact if_pos hn, fun h => ?_, fun h => by rw [ho']; exact if_neg h,
    fun h hoff hun => ?_, ⟨_, hsum, rfl, rfl, ?_⟩, fun k hk hb => endSession_record hs reason next hk hb, endSession_pool hs reason next,
    endSession_raised hs reason next, endSession_endFrame c b reason next, fun h => ?_, fun h => tells_one ?_⟩
  · rw [ho']
    exact ⟨if_pos h, if_pos h, if_pos (.inl h)⟩
  · rw [ho']
    exact if_neg (by simp [h, hoff, hun])
  · obtain ⟨hkind, hcap, hsolar, hbattery, hgrid, henergy, hint⟩ := closeTail_fields ss tail
    obtain ⟨hcredit, hpaid⟩ := closeTail_funding ss tail
    exact ⟨hkind, hcap, hsolar, hbattery, hgrid, henergy, hcredit, hpaid, congr (congrArg or hint) (interrupts_eq reason)⟩
  · exact (endSession_link hs reason next).trans (if_pos (htold.mpr h))
  · exact (endSession_link hs reason next).trans (if_neg fun e => h (htold.mp e))

/-! ### An outlet fault (R48) -/

/-- The fault of an outlet after the session's end: the fault is recorded, and the outlet waits or is locked (R48). -/
def Outlet.faulted (s : Settings) (cause : FaultCause) (now : Nat) (o : Outlet) : Outlet :=
  { o with lastFault := some (cause, now), faultList := faultListAfter now s.wFault o.faultList, overdraw := none, startTimer := none
           state := if s.lockoutCount ≤ (faultListAfter now s.wFault o.faultList).length then .LOCKED else .HOLDOFF
           holdOff := if s.lockoutCount ≤ (faultListAfter now s.wFault o.faultList).length then none
                      else some (Timer.start (s.tHold * 1000)) }

/-- A fault raises OUTLET with FAULT, and with LOCKED after it where the outlet is locked (R48). -/
def Controller.raiseFault (b : Bay) (c : Controller) : Controller :=
  if (c.outlet b).state = .LOCKED then (c.raise .outletFault).raise .outletLocked else c.raise .outletFault

theorem fault_eq (c : Controller) (b : Bay) (cause : FaultCause) : c.fault b cause =
    (((((c.endSession b .FAULT .FAULT).updOutlet b (Outlet.faulted c.inForce cause c.run.siteTime)).depart b).markTarget
      b 0).judgeRelease.setFault cause.flag).raiseFault b := by
  unfold Controller.fault Controller.raiseFault
  simp only [raise_outlet]
  rfl

theorem raiseFault_leaves (c : Controller) (b : Bay) : (c.raiseFault b).credit = c.credit ∧ (c.raiseFault b).outlets = c.outlets
    ∧ (c.raiseFault b).pool = c.pool ∧ (c.raiseFault b).link = c.link ∧ (c.raiseFault b).port.faults = c.port.faults
    ∧ (c.raiseFault b).port.buffer = c.port.buffer := by
  unfold Controller.raiseFault
  split <;> exact ⟨rfl, rfl, rfl, rfl, rfl, rfl⟩

/-- A fault flag that is set carries the site time (R191). -/
theorem flagged_setFault (c : Controller) (flag : FaultFlag) : (c.setFault flag).flagged flag c.run.siteTime c.run.timeValid := by
  unfold Controller.flagged
  rw [setFault_port, Port.setFault]
  simp [FaultEntry.mark]

theorem flagged_congr {c d : Controller} (h : d.port.faults = c.port.faults) {flag : FaultFlag} {time : Nat} {valid : Bool} :
    d.flagged flag time valid ↔ c.flagged flag time valid := by
  unfold Controller.flagged
  rw [h]

section
variable (c : Controller) (b : Bay) (cause : FaultCause)

theorem fault_outlets : (c.fault b cause).outlets =
    ((((c.endSession b .FAULT .FAULT).updOutlet b (Outlet.faulted c.inForce cause c.run.siteTime)).depart b).markTarget
      b 0).judgeRelease.outlets := by
  rw [fault_eq, (raiseFault_leaves _ b).2.1, setFault_outlets]

/-- The outlet that a fault leaves, after its session's end (R48). -/
theorem fault_outlet : ∃ v ch, (c.fault b cause).outlet b =
    { ((c.endSession b .FAULT .FAULT).outlet b).faulted c.inForce cause c.run.siteTime with
      pending := pendingFor ((c.endSession b .FAULT .FAULT).outlet b).inForce 0, raiseReleased := v, changed := ch } := by
  obtain ⟨v, ch, h⟩ := change_then_target_outlet (c := c.endSession b .FAULT .FAULT) (b := b)
    (f := Outlet.faulted c.inForce cause c.run.siteTime)
    (d := ((c.endSession b .FAULT .FAULT).updOutlet b (Outlet.faulted c.inForce cause c.run.siteTime)).depart b) rfl 0
  refine ⟨v, ch, (outlet_eq_of_outlets (fault_outlets c b cause) b).trans (h.trans ?_)⟩
  rw [pendingAfter_of_taking]
  · rfl
  · unfold Outlet.faulted
    dsimp only
    split <;> decide
  · unfold Outlet.faulted
    dsimp only
    split <;> decide

theorem fault_endFrame : c.endFrame b (c.fault b cause) := by
  have hend := endSession_endFrame c b .FAULT .FAULT
  have hbut : (c.endSession b .FAULT .FAULT).outletsBut b (c.fault b cause) := by
    have h := (change_then_target (c := c.endSession b .FAULT .FAULT) (b := b) (f := Outlet.faulted c.inForce cause c.run.siteTime)
      (d := ((c.endSession b .FAULT .FAULT).updOutlet b (Outlet.faulted c.inForce cause c.run.siteTime)).depart b) rfl 0).1
    exact outletsBut_trans h (outletsBut_of_eq fun x _ => outlet_eq_of_outlets (fault_outlets c b cause) x)
  have hcredit : (c.fault b cause).credit = (c.endSession b .FAULT .FAULT).credit := by
    rw [fault_eq, (raiseFault_leaves _ b).1]
    simp
  exact endFrame_trans hend hcredit hbut (fault_leaves c b cause)

theorem fault_flagged : (c.fault b cause).flagged cause.flag c.run.siteTime c.run.timeValid := by
  rw [fault_eq]
  refine (flagged_congr (raiseFault_leaves _ b).2.2.2.2.1).mpr ?_
  have h := flagged_setFault ((((c.endSession b .FAULT .FAULT).updOutlet b
    (Outlet.faulted c.inForce cause c.run.siteTime)).depart b).markTarget b 0).judgeRelease cause.flag
  simpa using h

theorem fault_computed : (c.fault b cause).pool.computed = c.pool.computed.set b 0 := by
  have hpool : (c.fault b cause).pool.computed = (c.endSession b .FAULT .FAULT).pool.computed.set b 0 := by
    rw [fault_eq, (raiseFault_leaves _ b).2.2.1]
    simp
  rw [hpool]
  cases hs : (c.outlet b).session with
  | none => rw [endSession_none hs]
  | some ss =>
    rw [endSession_pool hs]
    refine Table.ext_get fun i => ?_
    simp only [Table.get_set]
    split <;> rfl

theorem fault_raised : ((c.fault b cause).outlet b).state = .LOCKED ∧ (c.fault b cause).raised .outletLocked
    ∨ ((c.fault b cause).outlet b).state ≠ .LOCKED ∧ (c.fault b cause).raised .outletFault := by
  rw [fault_eq]
  generalize (((((c.endSession b .FAULT .FAULT).updOutlet b (Outlet.faulted c.inForce cause c.run.siteTime)).depart b).markTarget
      b 0).judgeRelease.setFault cause.flag) = d
  rw [outlet_eq_of_outlets (raiseFault_leaves d b).2.1]
  by_cases h : (d.outlet b).state = .LOCKED
  · exact .inl ⟨h, by rw [Controller.raiseFault, if_pos h]; exact raised_raise _ _⟩
  · exact .inr ⟨h, by rw [Controller.raiseFault, if_neg h]; exact raised_raise _ _⟩

end

/-- What the end of a session leaves of its own outlet, whether one is held or not (R39). -/
theorem endSession_stands (c : Controller) (b : Bay) (r : EndReason) (st : OutletState) :
    ((c.endSession b r st).outlet b).session = none ∧ ((c.endSession b r st).outlet b).inForce = (c.outlet b).inForce
      ∧ ((c.endSession b r st).outlet b).faultList = (c.outlet b).faultList := by
  cases hs : (c.outlet b).session with
  | none => rw [endSession_none hs]; exact ⟨hs, rfl, rfl⟩
  | some ss =>
    obtain ⟨sm, v, ch, ho⟩ := endSession_outlet_over hs r st
    rw [ho]
    exact ⟨rfl, rfl, rfl⟩

/-- Settles O28. -/
theorem timerFaultHoldsOffOrLocks : Obligations.TimerFaultHoldsOffOrLocks := by
  intro s b h p hp hruns now list
  have hcases : ∃ cause, p.2.2.1 = cause ∧ p.2.2.2 = cause.flag ∧ ∃ t, exec p.1 s = .next t
      ∧ t.ctl = s.ctl.fault b cause := by
    simp only [List.mem_cons, List.not_mem_nil, or_false] at hp
    rcases hp with rfl | rfl
    · exact ⟨_, rfl, rfl, _, event_taking _ h, if_pos hruns⟩
    · exact ⟨_, rfl, rfl, _, event_taking _ h, if_pos hruns⟩
  obtain ⟨cause, hcause, hflag, t, hexec, ht⟩ := hcases
  rw [hcause, hflag]
  obtain ⟨v, ch, ho⟩ := fault_outlet s.ctl b cause
  obtain ⟨hsession, hinForce, hfaultList⟩ := endSession_stands s.ctl b .FAULT .FAULT
  have hlist : faultListAfter now s.ctl.inForce.wFault ((s.ctl.endSession b .FAULT .FAULT).outlet b).faultList = list := by
    rw [hfaultList]; rfl
  have hstate : ((s.ctl.fault b cause).outlet b).state = if s.ctl.inForce.lockoutCount ≤ list.length then .LOCKED else .HOLDOFF := by
    rw [ho, ← hlist]; rfl
  have hholdOff : ((s.ctl.fault b cause).outlet b).holdOff =
      if s.ctl.inForce.lockoutCount ≤ list.length then none else some (Timer.start (s.ctl.inForce.tHold * 1000)) := by
    rw [ho, ← hlist]; rfl
  refine ⟨t, hexec, ?_⟩
  rw [ht]
  refine ⟨by rw [ho]; rfl, by rw [ho]; exact hlist, by rw [ho]; exact hsession, by rw [ho]; rfl, by rw [ho]; rfl,
    by rw [ho, hinForce], fun hl => ?_, fun hl => ?_, fault_flagged s.ctl b cause, fault_computed s.ctl b cause,
    fun hs => ?_, fault_endFrame s.ctl b cause⟩
  · rw [if_pos hl] at hstate hholdOff
    rcases fault_raised s.ctl b cause with ⟨-, hr⟩ | ⟨hn, -⟩
    · exact ⟨hstate, hholdOff, hr⟩
    · exact absurd hstate hn
  · rw [if_neg (Nat.not_le.mpr hl)] at hstate hholdOff
    rcases fault_raised s.ctl b cause with ⟨hl', -⟩ | ⟨-, hr⟩
    · rw [hstate] at hl'
      cases hl'
    · exact ⟨hstate, by rw [hholdOff]; rfl, hr⟩
  · obtain ⟨ss, hss⟩ := Option.isSome_iff_exists.mp hs
    obtain ⟨-, -, sm, hsum, hreason, -⟩ := endSession_endedWith hss .FAULT .FAULT
    rw [ho]
    exact (congrArg (Option.map _) hsum).trans (congrArg some hreason)

/-! ### The other timers (R44, R46, R49, R51) -/

theorem plugState_eq (c : Controller) (b : Bay) : c.plugState b = c.plugOf b := by
  unfold Controller.plugState Controller.plugOf
  cases c.reading b <;> rfl

/-- The outlet that enters a state without a session, but for its target. -/
def Outlet.entered (st : OutletState) (o : Outlet) : Outlet :=
  { o with state := st, overdraw := if st.keepsOverdraw then o.overdraw else none }

theorem enter_of_zero {st : OutletState} (h : st.takesNoZero = false) (c : Controller) (b : Bay) :
    c.enter b st = ((c.updOutlet b (Outlet.entered st)).markTarget b 0).judgeRelease := by
  unfold Controller.enter
  rw [h]
  rfl

theorem enter_outletsBut (c : Controller) (b : Bay) (st : OutletState) : c.outletsBut b (c.enter b st) := by
  unfold Controller.enter
  dsimp only
  split
  · exact updOutlet_outletsBut c b _
  · exact (change_then_target rfl 0).1

theorem enter_outlet {st : OutletState} (h : st.takesNoZero = false) (c : Controller) (b : Bay) : ∃ p v ch,
    (c.enter b st).outlet b = { (c.outlet b).entered st with pending := p, raiseReleased := v, changed := ch } := by
  rw [enter_of_zero h]
  exact (change_then_target rfl 0).2

theorem plugOf_takesNoZero (c : Controller) (b : Bay) : (c.plugOf b).takesNoZero = false := by
  unfold Controller.plugOf
  cases c.reading b with
  | none => rfl
  | some r => dsimp only; split <;> rfl

/-- A change that R62 does not name leaves the changed flag. -/
theorem change_eq {f : Outlet → Outlet} {o : Outlet} (hst : (f o).state = o.state) (hca : (f o).offlineCause = o.offlineCause)
    (hre : (f o).reasons = o.reasons) (hse : (f o).session.map (·.kind) = o.session.map (·.kind)) : o.change f = f o := by
  have hmoved : o.moved (f o) = false := by simp [Outlet.moved, hst, hca, hre, hse]
  unfold Outlet.change
  rw [hmoved, Bool.or_false]

/-- Settles O29. -/
theorem timerExpiriesActOnTheirOutlet : Obligations.TimerExpiriesActOnTheirOutlet := by
  intro s b h o
  refine ⟨fun hruns hs => ?_, fun hruns => ?_, fun hruns => ?_, fun hruns hoff => ?_⟩
  · obtain ⟨ss, hss⟩ := Option.isSome_iff_exists.mp hs
    obtain ⟨sm, v, ch, ho⟩ := endSession_outlet_over hss .FUNDING_ENDED .ENDING
    refine ⟨s.put (s.ctl.endSession b .FUNDING_ENDED .ENDING), (event_taking _ h).trans (by rw [if_pos hruns]),
      endSession_endedWith hss _ _, ?_, by rw [ho]; rfl, endSession_endFrame _ _ _ _⟩
    rw [ho]
    by_cases hoff : (s.ctl.outlet b).state = .OFFLINE <;> simp [Outlet.acting, Outlet.sessionOver, hoff]
  · let c1 := s.ctl.updOutlet b fun o => { o with holdOff := none }
    obtain ⟨p, v, ch, ho⟩ := enter_outlet (plugOf_takesNoZero s.ctl b) c1 b
    obtain ⟨hcr, -, hst, hli, hse, hpo, hln, hru⟩ := enter_leaves c1 b (s.ctl.plugOf b)
    have hc1 : c1.outlet b = (s.ctl.outlet b).change fun o => { o with holdOff := none } := updOutlet_outlet_self _ _ _
    refine ⟨s.put (c1.enter b (s.ctl.plugOf b)), (event_taking _ h).trans (by rw [if_pos hruns, plugState_eq]), by rw [ho]; rfl,
      by rw [ho, hc1]; rfl, by rw [ho, hc1]; rfl, hcr, hpo, hli, outletsBut_trans (updOutlet_outletsBut _ b _) (enter_outletsBut c1 b _),
      hst, hse, hln, hru⟩
  · refine ⟨s.put (s.ctl.updOutlet b fun o => { o with pauseMinimum := none }), (event_taking _ h).trans (by rw [if_pos hruns]), ?_,
      fun x hx => (updOutlet_outlet _ _ _ _).trans (if_neg (Ne.symm hx)), rfl, rfl, rfl, rfl, rfl, rfl, rfl, rfl⟩
    exact (updOutlet_outlet_self _ _ _).trans (change_eq rfl rfl rfl rfl)
  · let c1 := s.ctl.endSession b .LINK_LOSS .OFFLINE
    let c2 := c1.updOutlet b fun o => { o.noTimers with beforeSilence := none }
    have ho2 : c2.outlet b = (c1.outlet b).change fun o => { o.noTimers with beforeSilence := none } := updOutlet_outlet_self _ _ _
    have hframe : s.ctl.endFrame b c2 := endFrame_trans (endSession_endFrame _ _ _ _) rfl (updOutlet_outletsBut c1 b _)
      (endSession_leaves s.ctl b .LINK_LOSS .OFFLINE)
    have hstands : (c1.outlet b).state = .OFFLINE ∧ (c1.outlet b).pending = o.pending := by
      cases hs : o.session with
      | none =>
        have hc1 : c1 = s.ctl := endSession_none hs _ _
        rw [hc1]
        exact ⟨hoff, rfl⟩
      | some ss =>
        obtain ⟨sm, v, ch, ho⟩ := endSession_outlet_over hs .LINK_LOSS .OFFLINE
        have hc1 : c1.outlet b = _ := ho
        rw [hc1]
        exact ⟨if_pos hoff, if_pos (.inl hoff)⟩
    obtain ⟨hsession, hinForce, -⟩ := endSession_stands s.ctl b .LINK_LOSS .OFFLINE
    refine ⟨s.put c2, (event_taking _ h).trans (by rw [if_pos hruns]), by rw [ho2]; exact hstands.1, by rw [ho2]; exact hsession,
      by rw [ho2]; rfl, by rw [ho2]; rfl, by rw [ho2]; rfl, by rw [ho2]; exact hinForce, by rw [ho2]; exact hstands.2, fun hs => ?_, hframe⟩
    obtain ⟨ss, hss⟩ := Option.isSome_iff_exists.mp hs
    obtain ⟨hnone, hempty, hsum⟩ := endSession_endedWith hss .LINK_LOSS .OFFLINE
    exact ⟨by rw [ho2]; exact hnone, by rw [ho2]; exact hempty, by rw [ho2]; exact hsum⟩

end Sys2Proof.Machine
end

section
/-! SUPPORT. The outlet commands of the site port (R56 to R60): OUTLET_READ, the refusals that all share, ENABLE, DISABLE, STOP and CLEAR. -/

namespace Sys2Proof.Machine

/-! ### The bay operand and the shared refusals (R56) -/

theorem bayOf_succ (b : Bay) : bayOf? (b.val + 1) = some b := dif_pos ⟨Nat.le_add_left 1 _, b.isLt⟩

theorem bayOf_eq_none {n : Nat} (h : ¬ (1 ≤ n ∧ n ≤ 24)) : bayOf? n = none := dif_neg h

theorem bayOf_of_range {n : Nat} (h : 1 ≤ n ∧ n ≤ 24) : ∃ b, bayOf? n = some b := ⟨_, dif_pos h⟩

section
variable {c : Controller} {b : Bay}

theorem outletRefusal_of_stopped (h : c.run.running = false) : c.outletRefusal b = some .NOT_RUNNING := by
  unfold Controller.outletRefusal
  rw [h]
  rfl

theorem outletRefusal_of_unmanaged (h : c.run.running = true) (hu : (c.outlet b).state = .UNMAPPED ∨ (c.outlet b).state = .METER_ONLY
    ∨ ((c.outlet b).state = .OFFLINE ∧ (c.bay b).map.managed = false)) : c.outletRefusal b = some .NOT_MANAGED := by
  unfold Controller.outletRefusal
  rw [h]
  rcases hu with hu | hu | ⟨hoff, hm⟩
  · simp [hu]
  · simp [hu]
  · simp [hoff, hm]

theorem outletRefusal_of_commandable (h : c.commandable b) : c.outletRefusal b = none := by
  obtain ⟨hrun, hun, hme, hoff⟩ := h
  unfold Controller.outletRefusal
  rw [hrun]
  simp only [Bool.not_true, Bool.false_eq_true, if_false, hun, hme, or_self]
  exact if_neg fun e => absurd ((hoff e.1).symm.trans e.2) (by decide)

end

section
variable {s : State} (h : s.ctl.taking = true) (cmd : Nat) (own : Bay → Controller → Except Status (Controller × Body))
include h

theorem outletCommand_bad_bay {n : Nat} (hn : ¬ (1 ≤ n ∧ n ≤ 24)) :
    outletCommand cmd n own s = .next (s.put (s.ctl.answer cmd .BAD_PARAM .none)) := by
  unfold outletCommand
  rw [command_taken _ _ h, bayOf_eq_none hn]
  rfl

theorem outletCommand_refused {n : Nat} {b : Bay} (hb : bayOf? n = some b) {status : Status}
    (hr : s.ctl.outletRefusal b = some status) : outletCommand cmd n own s = .next (s.put (s.ctl.answer cmd status .none)) := by
  have hr' : (s.ctl.taken cmd).outletRefusal b = some status := hr
  unfold outletCommand
  rw [command_taken _ _ h, hb]
  simp only [hr', taken_refuse]

theorem outletCommand_error {b : Bay} (hc : s.ctl.commandable b) {status : Status} (ho : own b (s.ctl.taken cmd) = .error status) :
    outletCommand cmd (b.val + 1) own s = .next (s.put (s.ctl.answer cmd status .none)) := by
  have hr : (s.ctl.taken cmd).outletRefusal b = none := outletRefusal_of_commandable hc
  unfold outletCommand
  rw [command_taken _ _ h, bayOf_succ]
  simp only [hr, ho, taken_refuse]

theorem outletCommand_ok {b : Bay} (hc : s.ctl.commandable b) {c' : Controller} {body : Body}
    (ho : own b (s.ctl.taken cmd) = .ok (c', body)) : outletCommand cmd (b.val + 1) own s = .next (s.put (c'.ok cmd body)) := by
  have hr : (s.ctl.taken cmd).outletRefusal b = none := outletRefusal_of_commandable hc
  unfold outletCommand
  rw [command_taken _ _ h, bayOf_succ]
  simp only [hr, ho]

end

/-! ### OUTLET_READ and the refusals (R56, R57) -/

theorem exec_outletRead {s : State} (h : s.ctl.taking = true) (b : Bay) : exec (.outletRead (b.val + 1)) s = .next (s.put (
    ({ s.ctl with outlets := { s.ctl.outlets with
        entries := s.ctl.outlets.entries.set b { s.ctl.outlet b with changed := false } } } : Controller).answer 0x20 .OK
      (.outlet { bay := b, settings := s.ctl.bay b, outlet := s.ctl.outlet b, reading := s.ctl.reading b, age := s.ctl.readingAge b }))) := by
  show execOutletRead (b.val + 1) s = _
  rw [execOutletRead, command_taken _ _ h, bayOf_succ]
  rfl

/-- Each of the five commands that act is an outlet command with its own part. -/
theorem exec_outletCommand {s : State} {n cap : Nat} (hcap : cap ≤ 4294967295) {p : Instr × Nat}
    (hp : p ∈ [(Instr.outletEnable n, 0x21), (.outletDisable n, 0x22), (.outletStop n, 0x23), (.outletClear n, 0x24),
      (.outletServiceStart n cap, 0x25)]) : ∃ own, exec p.1 s = outletCommand p.2 n own s := by
  simp only [List.mem_cons, List.not_mem_nil, or_false] at hp
  rcases hp with rfl | rfl | rfl | rfl | rfl
  · exact ⟨_, rfl⟩
  · exact ⟨_, rfl⟩
  · exact ⟨_, rfl⟩
  · exact ⟨_, rfl⟩
  · refine ⟨Controller.serviceStart cap, ?_⟩
    show outletCommand 0x25 (if cap ≤ u32Max then n else 0) _ s = _
    rw [if_pos hcap]

/-- Settles O23. -/
theorem outletReadAndOutletRefusals : Obligations.OutletReadAndOutletRefusals := by
  refine ⟨fun s h => ⟨fun b _ => exec_outletRead h b, fun b _ _ => exec_outletRead h b, fun n hn => ?_⟩,
    fun s n cap h hcap p hp => ?_⟩
  · show execOutletRead n s = _
    rw [execOutletRead, command_taken _ _ h, bayOf_eq_none hn]
    rfl
  · obtain ⟨own, hexec⟩ := exec_outletCommand (s := s) hcap hp
    refine ⟨fun hn => ?_, fun hn hrun => ?_, fun b hb hrun hu => ?_⟩
    · exact hexec.trans (outletCommand_bad_bay h _ own hn)
    · obtain ⟨b, hb⟩ := bayOf_of_range hn
      exact hexec.trans (outletCommand_refused h _ own hb (outletRefusal_of_stopped hrun))
    · exact hexec.trans (outletCommand_refused h _ own (by rw [hb]; exact bayOf_succ b) (outletRefusal_of_unmanaged hrun hu))

/-! ### OUTLET_ENABLE and OUTLET_CLEAR (R58, R60) -/

/-- Of a state before silence that a command may lift, the outlet acts in it. -/
theorem acting_of_before {o : Outlet} (h : o.state = .OFFLINE) {st : OutletState} (hb : o.beforeSilence = some st) : o.acting = st := by
  rw [acting_of_offline h, hb]
  rfl

section
variable {c : Controller} {b : Bay}

theorem enableOutlet_disabled (h : (c.outlet b).state = .DISABLED) :
    Controller.enableOutlet b c = .ok (c.enter b (c.plugState b), .none) := if_pos h

theorem enableOutlet_offline (h : (c.outlet b).state = .OFFLINE) (hb : (c.outlet b).beforeSilence = some .DISABLED) :
    Controller.enableOutlet b c = .ok (c.updOutlet b fun o => { o with beforeSilence := none }, .none) := by
  unfold Controller.enableOutlet
  dsimp only
  rw [if_neg (by rw [h]; decide), if_pos ⟨h, hb⟩]

theorem enableOutlet_elsewhere (h : (c.outlet b).acting ≠ .DISABLED) : Controller.enableOutlet b c = .error .WRONG_STATE := by
  unfold Controller.enableOutlet
  dsimp only
  rw [if_neg fun e => h ((acting_of_online (by rw [e]; decide)).trans e), if_neg fun e => h (acting_of_before e.1 e.2)]

theorem clearOutlet_locked (h : (c.outlet b).state = .LOCKED) :
    Controller.clearOutlet b c = .ok ((c.updOutlet b fun o => { o with faultList := [] }).enter b (c.plugState b), .none) := if_pos h

theorem clearOutlet_offline (h : (c.outlet b).state = .OFFLINE) (hb : (c.outlet b).beforeSilence = some .LOCKED) :
    Controller.clearOutlet b c = .ok (c.updOutlet b fun o => { o with faultList := [], beforeSilence := none }, .none) := by
  unfold Controller.clearOutlet
  dsimp only
  rw [if_neg (by rw [h]; decide), if_pos ⟨h, hb⟩]

theorem clearOutlet_elsewhere (h : (c.outlet b).acting ≠ .LOCKED) : Controller.clearOutlet b c = .error .WRONG_STATE := by
  unfold Controller.clearOutlet
  dsimp only
  rw [if_neg fun e => h ((acting_of_online (by rw [e]; decide)).trans e), if_neg fun e => h (acting_of_before e.1 e.2)]

end

/-- The entry of an outlet into its plug state: what it changes of the outlet, and what it leaves of the rest. -/
theorem enter_plugState (c : Controller) (b : Bay) : (∃ p v ch, (c.enter b (c.plugState b)).outlet b =
    { (c.outlet b).entered (c.plugOf b) with pending := p, raiseReleased := v, changed := ch })
    ∧ c.outletsBut b (c.enter b (c.plugState b)) := by
  refine ⟨?_, enter_outletsBut c b _⟩
  rw [plugState_eq]
  exact enter_outlet (plugOf_takesNoZero c b) c b

/-- Settles O24. -/
theorem enableAndClearReturnToPlugState : Obligations.EnableAndClearReturnToPlugState := by
  intro s b h hc o frame
  refine ⟨fun hst => ?_, fun hoff hb => ?_, fun ha => ?_, fun hst => ?_, fun hoff hb => ?_, fun ha => ?_⟩
  · obtain ⟨⟨p, v, ch, ho⟩, hbut⟩ := enter_plugState (s.ctl.taken 0x21) b
    obtain ⟨hcr, hpo, hsto, hli, hse, -, hln, hru⟩ := enter_leaves (s.ctl.taken 0x21) b ((s.ctl.taken 0x21).plugState b)
    exact ⟨_, outletCommand_ok h 0x21 Controller.enableOutlet hc (enableOutlet_disabled hst), rfl, (congrArg Outlet.state ho :),
      (congrArg Outlet.session ho :), hcr, hpo, hli, hbut, hsto, hse, hln, hru⟩
  · exact ⟨_, outletCommand_ok h 0x21 Controller.enableOutlet hc (enableOutlet_offline hoff hb), rfl,
      (updOutlet_outlet_self _ _ _).trans (change_eq rfl rfl rfl rfl), rfl, rfl, rfl, updOutlet_outletsBut (s.ctl.taken 0x21) b _,
      rfl, rfl, rfl, rfl⟩
  · exact outletCommand_error h 0x21 Controller.enableOutlet hc (enableOutlet_elsewhere ha)
  · let c1 := (s.ctl.taken 0x24).updOutlet b fun o => { o with faultList := [] }
    have hc1 : c1.outlet b = { o with faultList := [] } := (updOutlet_outlet_self _ _ _).trans (change_eq rfl rfl rfl rfl)
    obtain ⟨⟨p, v, ch, ho⟩, hbut⟩ := enter_plugState c1 b
    rw [hc1] at ho
    obtain ⟨hcr, hpo, hsto, hli, hse, -, hln, hru⟩ := enter_leaves c1 b (c1.plugState b)
    exact ⟨_, outletCommand_ok h 0x24 Controller.clearOutlet hc (clearOutlet_locked hst), rfl, (congrArg Outlet.state ho :),
      (congrArg Outlet.faultList ho :), (congrArg Outlet.lastFault ho :), (congrArg Outlet.session ho :), hcr, hpo, hli,
      outletsBut_trans (updOutlet_outletsBut (s.ctl.taken 0x24) b _) hbut, hsto, hse, hln, hru⟩
  · exact ⟨_, outletCommand_ok h 0x24 Controller.clearOutlet hc (clearOutlet_offline hoff hb), rfl,
      (updOutlet_outlet_self _ _ _).trans (change_eq rfl rfl rfl rfl), rfl, rfl, rfl, updOutlet_outletsBut (s.ctl.taken 0x24) b _,
      rfl, rfl, rfl, rfl⟩
  · exact outletCommand_error h 0x24 Controller.clearOutlet hc (clearOutlet_elsewhere ha)

/-! ### OUTLET_DISABLE and OUTLET_STOP (R58, R59, R40) -/

/-- An outlet out of service: DISABLED, or with DISABLED as its state before silence, and no timer of a fault (R47, R58). -/
def Outlet.outOfService (o : Outlet) : Outlet := { o.put .DISABLED with holdOff := none, overdraw := none }

/-- An outlet taken out of service, its session ended (R58). -/
def Controller.takeOutOfService (b : Bay) (c : Controller) : Controller :=
  (((c.endSession b .COMMAND .DISABLED).updOutlet b Outlet.outOfService).markTarget b 0).judgeRelease

section
variable {c : Controller} {b : Bay}

theorem disableOutlet_refused (h : (c.outlet b).acting = .DISABLED ∨ (c.outlet b).acting = .LOCKED) :
    Controller.disableOutlet b c = .error .WRONG_STATE := by
  unfold Controller.disableOutlet
  rcases h with h | h <;> rw [h]

theorem disableOutlet_taken (hd : (c.outlet b).acting ≠ .DISABLED) (hl : (c.outlet b).acting ≠ .LOCKED) :
    Controller.disableOutlet b c = .ok (c.takeOutOfService b, .none) := by
  unfold Controller.disableOutlet
  split
  · next h => exact absurd h hd
  · next h => exact absurd h hl
  · rfl

theorem stopOutlet_refused (h : (c.outlet b).session = none) : Controller.stopOutlet b c = .error .WRONG_STATE := by
  unfold Controller.stopOutlet
  simp [h]

theorem stopOutlet_taken {ss : Session} (h : (c.outlet b).session = some ss) :
    Controller.stopOutlet b c = .ok (c.endSession b .COMMAND (if ss.admitted then .ENDING else .PLUGGED), .none) := by
  unfold Controller.stopOutlet Outlet.endingOrPlugged
  simp [h]

end

/-- The state of an outlet after the end of a session, if it holds one: OFFLINE if it was (R39). -/
theorem endSession_offline_iff (c : Controller) (b : Bay) (r : EndReason) {st : OutletState} (hst : st ≠ .OFFLINE) :
    ((c.endSession b r st).outlet b).state = .OFFLINE ↔ (c.outlet b).state = .OFFLINE := by
  cases hs : (c.outlet b).session with
  | none => rw [endSession_none hs]
  | some ss =>
    obtain ⟨sm, v, ch, ho⟩ := endSession_outlet_over hs r st
    rw [ho]
    by_cases h : (c.outlet b).state = .OFFLINE <;> simp [Outlet.sessionOver, h, hst]

section
variable (c : Controller) (b : Bay)

theorem takeOutOfService_endFrame : c.endFrame b (c.takeOutOfService b) := by
  refine endFrame_trans (endSession_endFrame c b .COMMAND .DISABLED) ?_ (change_then_target rfl 0).1 ?_
  · simp [Controller.takeOutOfService]
  · simp [Controller.takeOutOfService, Controller.quietBlocks]

/-- What going out of service leaves of the outlet after its session's end. -/
theorem takeOutOfService_keeps : ((c.takeOutOfService b).outlet b).holdOff = none
    ∧ ((c.takeOutOfService b).outlet b).session = ((c.endSession b .COMMAND .DISABLED).outlet b).session
    ∧ ((c.takeOutOfService b).outlet b).reasons = ((c.endSession b .COMMAND .DISABLED).outlet b).reasons
    ∧ ((c.takeOutOfService b).outlet b).summary = ((c.endSession b .COMMAND .DISABLED).outlet b).summary
    ∧ ((c.takeOutOfService b).outlet b).inForce = ((c.endSession b .COMMAND .DISABLED).outlet b).inForce := by
  obtain ⟨v, ch, ho⟩ := change_then_target_outlet (c := c.endSession b .COMMAND .DISABLED) (b := b) (f := Outlet.outOfService) rfl 0
  obtain ⟨x, y, hput⟩ := put_eq ((c.endSession b .COMMAND .DISABLED).outlet b) .DISABLED
  unfold Controller.takeOutOfService
  rw [ho]
  unfold Outlet.outOfService
  rw [hput]
  exact ⟨rfl, rfl, rfl, rfl, rfl⟩

/-- DISABLED is the state before silence of an OFFLINE outlet, and the state of any other, which takes a target of 0 W (R58, R53). -/
theorem takeOutOfService_state :
    ((c.outlet b).state = .OFFLINE →
      ((c.takeOutOfService b).outlet b).state = .OFFLINE ∧ ((c.takeOutOfService b).outlet b).beforeSilence = some .DISABLED)
    ∧ ((c.outlet b).state ≠ .OFFLINE →
      ((c.takeOutOfService b).outlet b).state = .DISABLED
        ∧ ((c.takeOutOfService b).outlet b).pending = pendingFor (c.outlet b).inForce 0) := by
  obtain ⟨v, ch, ho⟩ := change_then_target_outlet (c := c.endSession b .COMMAND .DISABLED) (b := b) (f := Outlet.outOfService) rfl 0
  have hoff := endSession_offline_iff c b .COMMAND (st := .DISABLED) (by decide)
  unfold Controller.takeOutOfService
  rw [ho, ← (endSession_stands c b .COMMAND .DISABLED).2.1]
  unfold Outlet.outOfService
  constructor
  · intro h
    rw [put_of_offline (hoff.mpr h)]
    exact ⟨hoff.mpr h, rfl⟩
  · intro h
    rw [put_of_online (mt hoff.mp h), pendingAfter_of_taking]
    · exact ⟨rfl, rfl⟩
    · exact (nomatch ·)
    · exact (nomatch ·)

end

/-- Settles O25. -/
theorem disableAndStopEndTheSession : Obligations.DisableAndStopEndTheSession := by
  intro s b h hc
  refine ⟨fun ha => outletCommand_error h 0x22 Controller.disableOutlet hc (disableOutlet_refused ha), fun hd hl => ?_,
    fun hs => outletCommand_error h 0x23 Controller.stopOutlet hc (stopOutlet_refused hs), ?_⟩
  · have hexec := outletCommand_ok h 0x22 Controller.disableOutlet hc (disableOutlet_taken hd hl)
    obtain ⟨hnone, hinForce, -⟩ := endSession_stands (s.ctl.taken 0x22) b .COMMAND .DISABLED
    obtain ⟨hholdOff, hsession, hreasons, hsummary, hforce⟩ := takeOutOfService_keeps (s.ctl.taken 0x22) b
    obtain ⟨hoff, hon⟩ := takeOutOfService_state (s.ctl.taken 0x22) b
    have hframe := takeOutOfService_endFrame (s.ctl.taken 0x22) b
    have hended := fun ss hss => endSession_endedWith (c := s.ctl.taken 0x22) (b := b) (ss := ss) hss .COMMAND .DISABLED
    generalize (s.ctl.taken 0x22).takeOutOfService b = d at hexec hholdOff hsession hreasons hsummary hforce hoff hon hframe
    generalize (s.ctl.taken 0x22).endSession b .COMMAND .DISABLED = e at hnone hinForce hsession hreasons hsummary hforce hended
    refine ⟨_, hexec, rfl, hoff, hon, hholdOff, hsession.trans hnone, hforce.trans hinForce, fun hs => ?_, hframe⟩
    obtain ⟨ss, hss⟩ := Option.isSome_iff_exists.mp hs
    obtain ⟨-, hempty, sm, hsum, hreason, htime⟩ := hended ss hss
    exact ⟨hsession.trans hnone, hreasons.trans hempty, sm, hsummary.trans hsum, hreason, htime⟩
  · intro ss hs after
    obtain ⟨sm, v, ch, ho⟩ := endSession_outlet_over (c := s.ctl.taken 0x23) hs .COMMAND after
    have hexec := outletCommand_ok h 0x23 Controller.stopOutlet hc (stopOutlet_taken hs)
    have hended := endSession_endedWith (c := s.ctl.taken 0x23) hs .COMMAND after
    have hframe := endSession_endFrame (s.ctl.taken 0x23) b .COMMAND after
    generalize (s.ctl.taken 0x23).endSession b .COMMAND after = d at ho hended hframe hexec
    refine ⟨_, hexec, rfl, hended, (congrArg Outlet.silenceHold ho :), fun hoff => ?_, fun hoff => ?_, hframe⟩
    · exact ⟨(congrArg Outlet.state ho).trans (if_pos hoff), (congrArg Outlet.beforeSilence ho).trans (if_pos hoff)⟩
    · exact (congrArg Outlet.state ho).trans (if_neg hoff)

end Sys2Proof.Machine
end

section
/-! SUPPORT. The meter of an outlet (R35), and the targets: their marks, their release and the echo of a SETPOINT (R53 to R55). -/

namespace Sys2Proof.Machine

/-! ### The meter (R35) -/

/-- A reading becomes the baseline. -/
def Outlet.rebase (base : Baseline) (o : Outlet) : Outlet := { o with baseline := some base }

/-- A reading becomes the baseline, and its increment is counted, in the session too when one is held. -/
def Outlet.countEnergy (base : Baseline) (inc : Nat) (o : Outlet) : Outlet :=
  { o with baseline := some base, lifetime := satAdd u32Max o.lifetime inc
           unattributed := if o.session.isSome then o.unattributed + inc else o.unattributed }

section
variable {c : Controller} {b : Bay} (reading stamp : Nat)

theorem meter_first (h : (c.outlet b).baseline = none) :
    c.meter b reading stamp = c.updOutlet b (Outlet.rebase { reading := reading, stamp := stamp }) := by
  unfold Controller.meter
  rw [h]
  rfl

section
variable {base : Baseline} (h : (c.outlet b).baseline = some base)
include h

theorem meter_counted (hinc : meterIncrement base.reading reading ≤ meterLimit (c.bay b).pMax (stamp - base.stamp)) :
    c.meter b reading stamp = c.updOutlet b (Outlet.countEnergy { reading := reading, stamp := stamp } (meterIncrement base.reading reading)) := by
  unfold Controller.meter
  rw [h]
  exact if_pos hinc

theorem meter_discarded (hinc : meterLimit (c.bay b).pMax (stamp - base.stamp) < meterIncrement base.reading reading) :
    c.meter b reading stamp =
      ((c.updOutlet b (Outlet.rebase { reading := reading, stamp := stamp })).setFault .METER_IMPLAUSIBLE).raise .outletMeter := by
  unfold Controller.meter
  rw [h]
  exact if_neg (Nat.not_le.mpr hinc)

end

/-- What a reading can do: its outlet has the new baseline and energies, and of the rest fault summary and notices may change. -/
theorem meter_cases (c : Controller) (b : Bay) (reading stamp : Nat) : ∃ f : Outlet → Outlet,
    (∀ o, ∃ life un, f o = { o with baseline := some { reading := reading, stamp := stamp }, lifetime := life, unattributed := un })
      ∧ (c.meter b reading stamp = c.updOutlet b f
        ∨ c.meter b reading stamp = ((c.updOutlet b f).setFault .METER_IMPLAUSIBLE).raise .outletMeter) := by
  cases h : (c.outlet b).baseline with
  | none => exact ⟨_, fun _ => ⟨_, _, rfl⟩, .inl (meter_first reading stamp h)⟩
  | some base =>
    rcases Nat.lt_or_ge (meterLimit (c.bay b).pMax (stamp - base.stamp)) (meterIncrement base.reading reading) with hinc | hinc
    · exact ⟨_, fun _ => ⟨_, _, rfl⟩, .inr (meter_discarded reading stamp h hinc)⟩
    · exact ⟨_, fun _ => ⟨_, _, rfl⟩, .inl (meter_counted reading stamp h hinc)⟩

end

section
variable (c : Controller) (b : Bay) (reading stamp : Nat)

theorem meter_outlet : ∃ life un, (c.meter b reading stamp).outlet b =
    { c.outlet b with baseline := some { reading := reading, stamp := stamp }, lifetime := life, unattributed := un } := by
  obtain ⟨f, hf, h⟩ := meter_cases c b reading stamp
  obtain ⟨life, un, hfo⟩ := hf (c.outlet b)
  have hupd : (c.updOutlet b f).outlet b = f (c.outlet b) :=
    (updOutlet_outlet_self c b f).trans (by rw [change_eq] <;> rw [hfo])
  refine ⟨life, un, ?_⟩
  rw [← hfo, ← hupd]
  rcases h with h | h
  · rw [h]
  · rw [h, raise_outlet, setFault_outlet]

theorem meter_outlet_of_ne {x : Bay} (hx : x ≠ b) : (c.meter b reading stamp).outlet x = c.outlet x := by
  obtain ⟨f, -, h⟩ := meter_cases c b reading stamp
  have hupd : (c.updOutlet b f).outlet x = c.outlet x := (updOutlet_outlet _ _ _ _).trans (if_neg (Ne.symm hx))
  rw [← hupd]
  rcases h with h | h
  · rw [h]
  · rw [h, raise_outlet, setFault_outlet]

/-- The blocks that a reading leaves alone. -/
theorem meter_leaves : (c.meter b reading stamp).credit = c.credit ∧ (c.meter b reading stamp).pool = c.pool
    ∧ (c.meter b reading stamp).storage = c.storage ∧ (c.meter b reading stamp).link = c.link
    ∧ (c.meter b reading stamp).settings = c.settings ∧ (c.meter b reading stamp).lines = c.lines
    ∧ (c.meter b reading stamp).run = c.run := by
  obtain ⟨f, -, h⟩ := meter_cases c b reading stamp
  rcases h with h | h <;> rw [h] <;> exact ⟨rfl, rfl, rfl, rfl, rfl, rfl, rfl⟩

end

theorem meterLimit_eq (pMax elapsed : Nat) : meterLimit pMax elapsed = (pMax * elapsed * 50 + 14399999) / 14400000 :=
  congrArg (· / 14400000) (Nat.add_sub_assoc (by decide) _)

/-- Settles O31. -/
theorem meterIncrementIsJudged : Obligations.MeterIncrementIsJudged := by
  intro c b reading stamp o c'
  obtain ⟨life, un, ho⟩ := meter_outlet c b reading stamp
  obtain ⟨hcredit, hpool, -, hlink, -⟩ := meter_leaves c b reading stamp
  refine ⟨(congrArg Outlet.baseline ho :), (congrArg Outlet.state ho :), fun x hx => meter_outlet_of_ne c b reading stamp hx, hcredit, hpool, hlink,
    fun hb => ?_, fun base hb => ?_⟩
  · have hc : c' = _ := meter_first reading stamp hb
    rw [hc, updOutlet_outlet_self]
    exact ⟨rfl, rfl, rfl⟩
  · rw [← meterLimit_eq]
    intro inc limit
    refine ⟨fun hinc => ?_, fun hinc => ?_⟩
    · have hc : c' = _ := meter_counted reading stamp hb hinc
      rw [hc, updOutlet_outlet_self]
      exact ⟨rfl, rfl, rfl⟩
    · have hc : c' = _ := meter_discarded reading stamp hb hinc
      rw [hc, raise_outlet, setFault_outlet, updOutlet_outlet_self]
      exact ⟨rfl, rfl, flagged_setFault (c.updOutlet b _) .METER_IMPLAUSIBLE, raised_raise _ _⟩

/-! ### Targets (R53 to R55) -/

section
variable {inForce : Int} {target : Nat}

theorem pendingFor_below (h : (target : Int) < inForce) : pendingFor inForce target = some { kind := .DECREASE, target := target } := if_pos h

theorem pendingFor_above (h : inForce < (target : Int)) : pendingFor inForce target = some { kind := .RAISE, target := target } :=
  (if_neg (by omega)).trans (if_pos h)

theorem pendingFor_equal (h : (target : Int) = inForce) : pendingFor inForce target = none :=
  (if_neg (by omega)).trans (if_neg (by omega))

end

theorem decreasing_iff (o : Outlet) : o.decreasing = true ↔ ∃ p, o.pending = some p ∧ p.kind = .DECREASE := by
  unfold Outlet.decreasing
  cases o.pending <;> simp

/-- An outlet holds a pending DECREASE, so no raise is released (R54). -/
theorem judgeRelease_of_decrease {c : Controller} {b : Bay} (h : (c.outlet b).decreasing = true) : c.judgeRelease = c :=
  if_pos ((Table.any_data _ _).mpr ⟨b, h⟩)

/-- No outlet holds a pending DECREASE, so every pending RAISE is released (R54). -/
theorem judgeRelease_of_no_decrease {c : Controller} (h : ∀ b, (c.outlet b).decreasing = false) (b : Bay) :
    c.judgeRelease.outlet b = (c.outlet b).releaseRaise := by
  rw [judgeRelease_outlet, if_neg]
  rw [Table.any_data]
  rintro ⟨x, hx⟩
  exact Bool.false_ne_true ((h x).symm.trans hx)

theorem takeEcho_eq (o : Outlet) (echo : Int) : ∃ v, o.takeEcho echo =
    { o with inForce := echo, pending := o.pending.bind fun p => pendingFor echo p.target, raiseReleased := v } := by
  unfold Outlet.takeEcho
  cases h : o.pending with
  | none => exact ⟨o.raiseReleased, by simp⟩
  | some p => exact ⟨false, rfl⟩

/-- Settles O32. -/
theorem targetsAreMarkedReleasedAndEchoed : Obligations.TargetsAreMarkedReleasedAndEchoed := by
  refine ⟨fun o target => ⟨rfl, rfl, pendingFor_below, pendingFor_above, pendingFor_equal⟩, fun c b target h => if_pos (.inl h),
    fun c => ⟨fun ⟨b, p, hp, hk⟩ => judgeRelease_of_decrease ((decreasing_iff _).mpr ⟨p, hp, hk⟩), fun hraise b => ?_⟩,
    fun o echo => ?_⟩
  · have hnone : ∀ x, (c.outlet x).decreasing = false := fun x => by
      rw [Bool.eq_false_iff, Ne, decreasing_iff]
      rintro ⟨p, hp, hk⟩
      exact absurd ((hraise x p hp).symm.trans hk) (by decide)
    rw [judgeRelease_of_no_decrease hnone, Outlet.releaseRaise]
    cases hp : (c.outlet b).pending with
    | none => rfl
    | some p => simp [hp, hraise b p hp]
  · obtain ⟨v, he⟩ := takeEcho_eq o echo
    rw [he]
    refine ⟨rfl, fun hp => by simp [hp], fun p hp => ?_⟩
    simp only [hp, Option.bind_some]
    exact ⟨pendingFor_below, pendingFor_above, pendingFor_equal⟩

end Sys2Proof.Machine
end

section
/-! SUPPORT. Pause reasons added and removed (R43, R44), an outlet that is heard again (R51), and the steps of a STATUS entry (R34) with its
power checks (R42, R47). -/

namespace Sys2Proof.Machine

/-! ### A reason is added (R43) -/

/-- In a session state a new reason pauses the outlet; an OFFLINE one stays OFFLINE. -/
theorem addReason_pauses {c : Controller} {b : Bay} {r : PauseReason} (hs : (c.outlet b).session.isSome = true)
    (ha : (c.outlet b).acting.inSession = true) (hr : (c.outlet b).reasons.has r = false) :
    ((c.addReason b r).outlet b).acting = .PAUSED
      ∧ (((c.addReason b r).outlet b).state = .OFFLINE ↔ (c.outlet b).state = .OFFLINE) := by
  have hput : ∀ o o' : Outlet, o'.state = (o.put .PAUSED).state → o'.beforeSilence = (o.put .PAUSED).beforeSilence →
      o'.acting = .PAUSED ∧ (o'.state = .OFFLINE ↔ o.state = .OFFLINE) := fun o o' hst hbe => by
    have hacting : o'.acting = (o.put .PAUSED).acting := by unfold Outlet.acting; rw [hst, hbe]
    refine ⟨hacting.trans (acting_put o (by decide)), ?_⟩
    rw [hst]
    by_cases h : o.state = .OFFLINE
    · rw [put_of_offline h]
    · rw [put_of_online h]
      simp [h]
  have hmarked : ∀ (d : Controller) (f : Outlet → Outlet), d.outlets = (c.updOutlet b f).outlets →
      (∀ o, (f o).state = (o.put .PAUSED).state ∧ (f o).beforeSilence = (o.put .PAUSED).beforeSilence) →
      ((d.markTarget b 0).judgeRelease.outlet b).acting = .PAUSED
        ∧ (((d.markTarget b 0).judgeRelease.outlet b).state = .OFFLINE ↔ (c.outlet b).state = .OFFLINE) := fun d f hd hf => by
    obtain ⟨-, p, v, ch, ho⟩ := change_then_target (c := c) hd 0
    rw [ho]
    exact hput _ _ (hf _).1 (hf _).2
  unfold Controller.addReason
  rw [if_neg (by rw [hr, Option.isNone_eq_false_iff.mpr hs]; decide)]
  dsimp only
  split
  · exact hmarked _ _ rfl fun _ => ⟨rfl, rfl⟩
  · exact hmarked _ _ rfl fun _ => ⟨rfl, rfl⟩
  · exact hmarked _ _ rfl fun _ => ⟨rfl, rfl⟩
  · next h =>
    rw [updOutlet_outlet_self]
    exact ⟨h, Iff.rfl⟩
  · next hq hst hc hp => cases h : (c.outlet b).acting <;> simp_all [OutletState.inSession]

/-- A reason that stands is not added. -/
theorem addReason_of_has {c : Controller} {b : Bay} {r : PauseReason} (h : (c.outlet b).reasons.has r = true) : c.addReason b r = c := by
  unfold Controller.addReason
  rw [if_pos (by rw [h, Bool.or_true])]

/-! ### A reason is removed (R44) -/

theorem getD_of_ne_true {x : Option Bool} (h : x ≠ some true) : x.getD false = false := by
  cases x with
  | none => rfl
  | some x => cases x with
    | false => rfl
    | true => exact absurd rfl h

theorem updOutlet_outlet_eq (c : Controller) (b : Bay) (f : Outlet → Outlet) :
    ∃ ch, (c.updOutlet b f).outlet b = { f (c.outlet b) with changed := ch } := ⟨_, updOutlet_outlet_self c b f⟩

/-- An outlet that is queued again without a pause reason; the overdraw timer goes (R44, R47). -/
def Outlet.requeued (o : Outlet) : Outlet := { o.put .QUEUED with reasons := .empty, overdraw := none }

theorem requeued_of_offline {o : Outlet} (h : o.state = .OFFLINE) :
    o.requeued = { o with beforeSilence := some .QUEUED, reasons := .empty, overdraw := none } := by
  unfold Outlet.requeued
  rw [put_of_offline h]

theorem requeued_of_online {o : Outlet} (h : o.state ≠ .OFFLINE) :
    o.requeued = { o with state := .QUEUED, reasons := .empty, overdraw := none } := by
  unfold Outlet.requeued
  rw [put_of_online h]

section
variable {c : Controller} {b : Bay} {r : PauseReason}

theorem removeReason_of_absent (h : (c.outlet b).reasons.has r = false) : c.removeReason b r = c := by
  unfold Controller.removeReason
  exact if_pos (by rw [h]; rfl)

section
variable (h : (c.outlet b).reasons.has r = true)
include h

theorem removeReason_stays (hstay : ¬ ((c.outlet b).reasons.put r false = .empty ∧ (c.outlet b).acting = .PAUSED)) :
    c.removeReason b r = c.updOutlet b fun o => { o with reasons := (c.outlet b).reasons.put r false } := by
  unfold Controller.removeReason
  exact (if_neg (by rw [h]; decide)).trans (if_pos (by simpa [imp_iff_not_or] using hstay))

section
variable (hleft : (c.outlet b).reasons.put r false = .empty) (ha : (c.outlet b).acting = .PAUSED)
include hleft ha

theorem removeReason_waits (hadm : (c.outlet b).session.map (·.admitted) = some true) :
    c.removeReason b r = c.updOutlet b fun o => { o with reasons := .budgetAlone, pauseMinimum := none } := by
  unfold Controller.removeReason
  simp [h, hleft, ha, hadm]

section
variable (hadm : (c.outlet b).session.map (·.admitted) ≠ some true)
include hadm

theorem removeReason_requeues_offline (hoff : (c.outlet b).state = .OFFLINE) : c.removeReason b r = c.updOutlet b Outlet.requeued := by
  unfold Controller.removeReason
  dsimp only
  rw [hleft]
  exact (if_neg (by rw [h]; decide)).trans ((if_neg (by rw [ha]; decide)).trans ((if_neg (by rw [getD_of_ne_true hadm]; decide)).trans
    (if_pos hoff)))

theorem removeReason_requeues_online (hon : (c.outlet b).state ≠ .OFFLINE) :
    c.removeReason b r = (((c.updOutlet b Outlet.requeued).enqueue b).markTarget b 0).judgeRelease := by
  unfold Controller.removeReason
  dsimp only
  rw [hleft]
  exact (if_neg (by rw [h]; decide)).trans ((if_neg (by rw [ha]; decide)).trans ((if_neg (by rw [getD_of_ne_true hadm]; decide)).trans
    (if_neg hon)))

end
end
end
end

/-- An entry of a bay that is ACTIVE. -/
def Controller.queuedActive (b : Bay) (c : Controller) : Prop := ∃ e, e ∈ c.pool.queue ∧ e.bay = b ∧ e.active = true

/-- What the removal of a reason leaves of its outlet (R44). -/
theorem removeReason_resumedAt {c : Controller} {b : Bay} {r : PauseReason} (h : (c.outlet b).reasons.has r = true) :
    c.resumedAt (c.removeReason b r) b ((c.outlet b).reasons.put r false) := by
  by_cases hres : (c.outlet b).reasons.put r false = .empty ∧ (c.outlet b).acting = .PAUSED
  · obtain ⟨hleft, ha⟩ := hres
    by_cases hadm : (c.outlet b).session.map (·.admitted) = some true
    · rw [removeReason_waits h hleft ha hadm, Controller.resumedAt, updOutlet_outlet_self]
      exact ⟨Iff.rfl, fun hn => absurd ⟨hleft, ha⟩ hn, fun _ _ => ⟨rfl, ha, rfl⟩, fun _ hn => absurd hadm hn⟩
    · by_cases hoff : (c.outlet b).state = .OFFLINE
      · obtain ⟨ch, ho⟩ := updOutlet_outlet_eq c b Outlet.requeued
        rw [removeReason_requeues_offline h hleft ha hadm hoff, Controller.resumedAt, ho, requeued_of_offline hoff]
        exact ⟨Iff.rfl, fun hn => absurd ⟨hleft, ha⟩ hn, fun _ hn => absurd hn hadm,
          fun _ _ => ⟨rfl, if_pos hoff, rfl, fun hn => absurd hoff hn⟩⟩
      · have houtlets := (enqueue_leaves (c.updOutlet b Outlet.requeued) b).2.1
        have hpending : (c.outlet b).requeued.pendingAfter 0 = pendingFor (c.outlet b).inForce 0 := by
          rw [requeued_of_online hoff]
          exact pendingAfter_of_taking (by simp) (by simp) 0
        obtain ⟨v, ch, ho⟩ := change_then_target_outlet houtlets 0
        rw [hpending] at ho
        have hqueue : ((((c.updOutlet b Outlet.requeued).enqueue b).markTarget b 0).judgeRelease).queuedActive b := by
          unfold Controller.queuedActive
          rw [(judgeRelease_leaves _).2.1, (markTarget_leaves _ _ _).2.1]
          exact enqueue_active _ b
        rw [removeReason_requeues_online h hleft ha hadm hoff, Controller.resumedAt, ho, requeued_of_online hoff]
        exact ⟨⟨(nomatch ·), fun e => absurd e hoff⟩, fun hn => absurd ⟨hleft, ha⟩ hn, fun _ hn => absurd hn hadm,
          fun _ _ => ⟨rfl, rfl, rfl, fun _ => ⟨hqueue, rfl⟩⟩⟩
  · rw [removeReason_stays h hres, Controller.resumedAt, updOutlet_outlet_self]
    exact ⟨Iff.rfl, fun _ => ⟨rfl, rfl, rfl⟩, fun hr => absurd hr hres, fun hr => absurd hr hres⟩

/-- The four ways that a reason is removed (R44): not at all, or by a change of the outlet alone, or with a queue entry and a target. -/
theorem removeReason_cases (c : Controller) (b : Bay) (r : PauseReason) : c.removeReason b r = c
    ∨ ∃ f : Outlet → Outlet, (∀ o, (f o).session = o.session) ∧ (c.removeReason b r = c.updOutlet b f
      ∨ c.removeReason b r = (((c.updOutlet b f).enqueue b).markTarget b 0).judgeRelease) := by
  cases h : (c.outlet b).reasons.has r with
  | false => exact .inl (removeReason_of_absent h)
  | true =>
    by_cases hres : (c.outlet b).reasons.put r false = .empty ∧ (c.outlet b).acting = .PAUSED
    · obtain ⟨hleft, ha⟩ := hres
      have hrequeued : ∀ o : Outlet, o.requeued.session = o.session := fun o => by
        obtain ⟨x, y, hput⟩ := put_eq o .QUEUED
        unfold Outlet.requeued
        rw [hput]
      by_cases hadm : (c.outlet b).session.map (·.admitted) = some true
      · refine .inr ⟨_, ?_, .inl (removeReason_waits h hleft ha hadm)⟩
        exact fun _ => rfl
      · by_cases hoff : (c.outlet b).state = .OFFLINE
        · exact .inr ⟨_, hrequeued, .inl (removeReason_requeues_offline h hleft ha hadm hoff)⟩
        · exact .inr ⟨_, hrequeued, .inr (removeReason_requeues_online h hleft ha hadm hoff)⟩
    · refine .inr ⟨_, ?_, .inl (removeReason_stays h hres)⟩
      exact fun _ => rfl

theorem removeReason_outletsBut (c : Controller) (b : Bay) (r : PauseReason) : c.outletsBut b (c.removeReason b r) := by
  rcases removeReason_cases c b r with h | ⟨f, -, h | h⟩
  · rw [h]; exact outletsBut_refl c b
  · rw [h]; exact updOutlet_outletsBut c b f
  · rw [h]; exact (change_then_target (enqueue_leaves _ b).2.1 0).1

theorem removeReason_session (c : Controller) (b : Bay) (r : PauseReason) :
    ((c.removeReason b r).outlet b).session = (c.outlet b).session := by
  rcases removeReason_cases c b r with h | ⟨f, hf, h | h⟩
  · rw [h]
  · rw [h, updOutlet_outlet_self]; exact hf _
  · obtain ⟨-, p, v, ch, ho⟩ := change_then_target (enqueue_leaves (c.updOutlet b f) b).2.1 0
    rw [h, ho]; exact hf _

/-! ### An outlet that is heard again (R51) -/

/-- The queue entry of an outlet that comes back into QUEUED (R51, R75). -/
def Controller.queueBack (st : OutletState) (b : Bay) (c : Controller) : Controller := if st = .QUEUED then c.enqueue b else c

/-- The target of 0 W at the entry of a state that takes one (R33; log 10). -/
def Controller.zeroAt (st : OutletState) (b : Bay) (c : Controller) : Controller :=
  if st.takesNoZero then c else (c.markTarget b 0).judgeRelease

section
variable {c : Controller} {b : Bay}

theorem heard_of_online (h : (c.outlet b).state ≠ .OFFLINE ∨ (c.outlet b).offlineCause = some .MAP_MISMATCH) (plugged : Bool) :
    c.heard b plugged = c := by
  unfold Controller.heard
  exact if_neg fun e => h.elim (absurd e.1) e.2

theorem heard_of_offline (h : (c.outlet b).state = .OFFLINE) (hm : (c.outlet b).offlineCause ≠ some .MAP_MISMATCH) (plugged : Bool) :
    let st := (c.outlet b).beforeSilence.getD (c.heardState b plugged)
    c.heard b plugged = ((c.updOutlet b (Outlet.restore st)).queueBack st b).zeroAt st b := by
  unfold Controller.heard
  exact if_pos ⟨h, hm⟩

end

theorem queueBack_leaves (st : OutletState) (b : Bay) (c : Controller) : (c.queueBack st b).outlets = c.outlets
    ∧ (c.queueBack st b).credit = c.credit ∧ (c.queueBack st b).port = c.port ∧ (c.queueBack st b).link = c.link
    ∧ c.quietBlocks (c.queueBack st b) := by
  unfold Controller.queueBack
  split
  · obtain ⟨hcr, ho, hst, hli, hse, hpo, hln, hru⟩ := enqueue_leaves c b
    exact ⟨ho, hcr, hpo, hli, hst, hse, hln, hru⟩
  · exact ⟨rfl, rfl, rfl, rfl, rfl, rfl, rfl, rfl⟩

theorem zeroAt_leaves (st : OutletState) (b : Bay) (c : Controller) : (c.zeroAt st b).pool = c.pool ∧ (c.zeroAt st b).credit = c.credit
    ∧ (c.zeroAt st b).port = c.port ∧ (c.zeroAt st b).link = c.link ∧ c.quietBlocks (c.zeroAt st b) := by
  unfold Controller.zeroAt
  split
  · exact ⟨rfl, rfl, rfl, rfl, rfl, rfl, rfl, rfl⟩
  · simp [Controller.quietBlocks]

theorem queueBack_pool (st : OutletState) (b : Bay) (c : Controller) :
    (st = .QUEUED → (c.queueBack st b).queuedActive b) ∧ (st ≠ .QUEUED → (c.queueBack st b).pool = c.pool) := by
  unfold Controller.queueBack
  exact ⟨fun h => by rw [if_pos h]; exact enqueue_active c b, fun h => by rw [if_neg h]⟩

/-- A change of one outlet, then of other blocks, then the target of 0 W where the state takes one. -/
theorem change_then_zeroAt {c d : Controller} {b : Bay} {f : Outlet → Outlet} (h : d.outlets = (c.updOutlet b f).outlets)
    (st : OutletState) : c.outletsBut b (d.zeroAt st b) ∧ ∃ p v ch, (d.zeroAt st b).outlet b =
      { f (c.outlet b) with pending := p, raiseReleased := v, changed := ch }
        ∧ (st.takesNoZero = false → p = (f (c.outlet b)).pendingAfter 0) := by
  unfold Controller.zeroAt
  cases st.takesNoZero with
  | true =>
    refine ⟨outletsBut_of_eq fun x hx => ?_, _, _, _, (outlet_eq_of_outlets h b).trans (updOutlet_outlet_self c b f), (nomatch ·)⟩
    exact (outlet_eq_of_outlets h x).trans ((updOutlet_outlet _ _ _ _).trans (if_neg (Ne.symm hx)))
  | false =>
    obtain ⟨v, ch, ho⟩ := change_then_target_outlet h 0
    exact ⟨(change_then_target h 0).1, _, v, ch, ho, fun _ => rfl⟩

/-- The states that take a target of 0 W at their entry (R33). -/
theorem takesNoZero_eq_false {st : OutletState} (hs : st ≠ .STARTING) (hc : st ≠ .CHARGING) (ho : st ≠ .OFFLINE) (hu : st ≠ .UNMAPPED)
    (hm : st ≠ .METER_ONLY) : st.takesNoZero = false := by
  cases st <;> simp_all [OutletState.takesNoZero]

section
variable {c : Controller} {b : Bay} (h : (c.outlet b).state = .OFFLINE) (hm : (c.outlet b).offlineCause ≠ some .MAP_MISMATCH) (plugged : Bool)
include h hm

/-- The outlet that comes back: its state before silence, its frozen timers running, and the target of 0 W where its state takes one. -/
theorem heard_outlet : ∃ p v ch, (c.heard b plugged).outlet b =
    { (c.outlet b).restore ((c.outlet b).beforeSilence.getD (c.heardState b plugged)) with pending := p, raiseReleased := v, changed := ch }
      ∧ (((c.outlet b).beforeSilence.getD (c.heardState b plugged)).takesNoZero = false → p = pendingFor (c.outlet b).inForce 0) := by
  rw [heard_of_offline h hm]
  generalize (c.outlet b).beforeSilence.getD (c.heardState b plugged) = st
  obtain ⟨-, p, v, ch, ho, hp⟩ := change_then_zeroAt (c := c) (b := b) (queueBack_leaves st b (c.updOutlet b (Outlet.restore st))).1 st
  refine ⟨p, v, ch, ho, fun hz => (hp hz).trans (if_neg ?_)⟩
  rintro (e | e)
  · have e' : st = .OFFLINE := e
    rw [e'] at hz
    exact Bool.noConfusion hz
  · have e' : st = .UNMAPPED := e
    rw [e'] at hz
    exact Bool.noConfusion hz

theorem heard_pool :
    ((c.outlet b).beforeSilence.getD (c.heardState b plugged) = .QUEUED → (c.heard b plugged).queuedActive b)
      ∧ ((c.outlet b).beforeSilence.getD (c.heardState b plugged) ≠ .QUEUED → (c.heard b plugged).pool = c.pool) := by
  rw [heard_of_offline h hm]
  generalize (c.outlet b).beforeSilence.getD (c.heardState b plugged) = st
  unfold Controller.queuedActive
  rw [(zeroAt_leaves st b _).1]
  exact queueBack_pool st b _

end

/-- What the return of an outlet leaves alone. -/
theorem heard_leaves (c : Controller) (b : Bay) (plugged : Bool) : (c.heard b plugged).credit = c.credit
    ∧ (c.heard b plugged).port = c.port ∧ (c.heard b plugged).link = c.link ∧ c.outletsBut b (c.heard b plugged)
    ∧ c.quietBlocks (c.heard b plugged) := by
  by_cases h : (c.outlet b).state ≠ .OFFLINE ∨ (c.outlet b).offlineCause = some .MAP_MISMATCH
  · rw [heard_of_online h]
    exact ⟨rfl, rfl, rfl, outletsBut_refl c b, rfl, rfl, rfl, rfl⟩
  · rw [heard_of_offline (by simpa using fun e => h (.inl e)) fun e => h (.inr e)]
    generalize (c.outlet b).beforeSilence.getD (c.heardState b plugged) = st
    obtain ⟨hout, hcr, hpo, hli, hq⟩ := queueBack_leaves st b (c.updOutlet b (Outlet.restore st))
    obtain ⟨-, hcr', hpo', hli', hq'⟩ := zeroAt_leaves st b ((c.updOutlet b (Outlet.restore st)).queueBack st b)
    exact ⟨hcr'.trans hcr, hpo'.trans hpo, hli'.trans hli, (change_then_zeroAt hout st).1, quietBlocks_trans (d := c.updOutlet b _)
      ⟨rfl, rfl, rfl, rfl⟩ (quietBlocks_trans hq hq')⟩

/-! ### The steps of a STATUS entry (R34) -/

section
variable {c : Controller} {b : Bay}

/-- A customer-pause flag that the outlet's set agrees with changes nothing. -/
theorem customerPause_steady {pause : Bool} (h : pause = (c.outlet b).reasons.customer) : c.customerPause b pause = c := by
  unfold Controller.customerPause
  cases pause with
  | true => exact addReason_of_has (r := .CUSTOMER) h.symm
  | false => exact removeReason_of_absent (r := .CUSTOMER) h.symm

theorem vehicleDone_of_queued (h : (c.outlet b).state = .QUEUED) (done : Bool) : c.vehicleDone b done = c := by
  unfold Controller.vehicleDone
  exact if_neg (by simp [h])

theorem vehicleDone_of_waiting (h : (c.outlet b).state = .PAUSED) (ha : (c.outlet b).session.map (·.admitted) ≠ some true) (done : Bool) :
    c.vehicleDone b done = c := by
  unfold Controller.vehicleDone
  exact if_neg (by simp [h, getD_of_ne_true ha])

theorem vehicleDone_of_admitted (ha : (c.outlet b).session.map (·.admitted) = some true)
    (h : (c.outlet b).state = .STARTING ∨ (c.outlet b).state = .CHARGING ∨ (c.outlet b).state = .PAUSED) :
    c.vehicleDone b true = c.endSession b .VEHICLE_DONE .ENDING := by
  unfold Controller.vehicleDone
  exact if_pos (by rcases h with h | h | h <;> simp [h, ha])

theorem powerStep_of_checked (h : (c.outlet b).state = .CHARGING ∨ (c.outlet b).state = .PAUSED ∨ (c.outlet b).state = .ENDING) (w : Int) :
    c.powerStep b w = c.overdrawCheck b w := by
  unfold Controller.powerStep
  rcases h with h | h | h <;> rw [h]

theorem powerStep_of_starting (h : (c.outlet b).state = .STARTING) (w : Int) : c.powerStep b w = c.startCheck b w := by
  unfold Controller.powerStep
  rw [h]

theorem powerStep_of_queued (h : (c.outlet b).state = .QUEUED) (w : Int) : c.powerStep b w = c := by
  unfold Controller.powerStep
  rw [h]

/-- The overdraw timer after the check of a STATUS (R47). -/
def Controller.overdrawAfter (b : Bay) (measured : Int) (c : Controller) : Option Timer :=
  if (c.outlet b).inForce + c.inForce.margin (c.outlet b).inForce < measured
    then some ((c.outlet b).overdraw.getD (Timer.start (c.inForce.tOvd * 1000))) else none

theorem overdrawCheck_outlet (c : Controller) (b : Bay) (w : Int) :
    (c.overdrawCheck b w).outlet b = { c.outlet b with overdraw := c.overdrawAfter b w } :=
  (updOutlet_outlet_self _ _ _).trans (change_eq rfl rfl rfl rfl)

end

end Sys2Proof.Machine
end

section
/-! SUPPORT. What a STATUS entry leaves of its outlet (R34, R42, R47), state by state. -/

namespace Sys2Proof.Machine

/-! ### The start checks (R42) -/

section
variable {c : Controller} {b : Bay} {w : Int}

theorem startCheck_overload (h : (c.outlet b).inForce + 2 * c.inForce.margin (c.outlet b).inForce < w) :
    c.startCheck b w = c.fault b .START_OVERLOAD := if_pos h

section
variable (h : w ≤ (c.outlet b).inForce + 2 * c.inForce.margin (c.outlet b).inForce)
include h

theorem startCheck_charging (hm : ((c.bay b).pMin / 2 : Nat) ≤ w) :
    c.startCheck b w = c.updOutlet b fun o => { o with state := .CHARGING, startTimer := none } :=
  (if_neg (Int.not_lt.mpr h)).trans (if_pos hm)

theorem startCheck_low (hm : w < ((c.bay b).pMin / 2 : Nat)) : c.startCheck b w = c :=
  (if_neg (Int.not_lt.mpr h)).trans (if_neg (Int.not_le.mpr hm))

end

/-! ### The entry, state by state (R34) -/

variable {e : OutletReading}

theorem outletEntry_of_silent (h : (c.outlet b).state = .OFFLINE ∨ (c.outlet b).state = .UNMAPPED) : c.outletEntry b e = c := by
  unfold Controller.outletEntry
  rcases h with h | h <;> rw [h]

theorem outletEntry_of_heard (h : (c.outlet b).state ≠ .OFFLINE) (h' : (c.outlet b).state ≠ .UNMAPPED) :
    c.outletEntry b e = c.heardEntry b e := by
  unfold Controller.outletEntry
  split
  · next hs => exact absurd hs h
  · next hs => exact absurd hs h'
  · rfl

/-- The outlet's meter has taken its reading: step 2 of R34. -/
def Controller.metered (b : Bay) (e : OutletReading) (c : Controller) : Controller := c.meter b e.meter c.run.ms

theorem metered_outlet (c : Controller) (b : Bay) (e : OutletReading) : ∃ bl life un, (c.metered b e).outlet b =
    { c.outlet b with baseline := bl, lifetime := life, unattributed := un } := by
  obtain ⟨life, un, h⟩ := meter_outlet c b e.meter c.run.ms
  exact ⟨_, life, un, h⟩

theorem metered_state (c : Controller) (b : Bay) (e : OutletReading) : ((c.metered b e).outlet b).state = (c.outlet b).state := by
  obtain ⟨bl, life, un, h⟩ := metered_outlet c b e
  rw [h]

theorem heardEntry_fault (h : (c.outlet b).state.takesModuleFault = true) (hf : e.moduleFault ≠ 0) :
    c.heardEntry b e = (c.metered b e).fault b .MODULE := by
  have hst : ((c.metered b e).outlet b).state.takesModuleFault = true := by rw [metered_state]; exact h
  unfold Controller.heardEntry
  exact if_pos (by rw [Bool.and_eq_true]; exact ⟨hst, by simpa using hf⟩)

/-- Without a module fault, or in a state in which none acts, the outlet's state decides. -/
theorem heardEntry_by_state (hf : (c.outlet b).state.takesModuleFault = false ∨ e.moduleFault = 0) :
    c.heardEntry b e = match (c.outlet b).state with
      | .IDLE => if e.plugged then (c.metered b e).enter b .PLUGGED else c.metered b e
      | .PLUGGED => if e.plugged then c.metered b e else (c.metered b e).enter b .IDLE
      | .QUEUED | .STARTING | .CHARGING | .PAUSED => (c.metered b e).sessionEntry b e
      | .ENDING => if e.plugged then (c.metered b e).powerStep b e.measured else (c.metered b e).enter b .IDLE
      | _ => c.metered b e := by
  have hst := metered_state c b e
  have hnot : ¬ ((((c.metered b e).outlet b).state.takesModuleFault && e.moduleFault != 0) = true) := by
    rw [hst]
    rcases hf with hf | hf <;> simp [hf]
  rw [← hst]
  exact if_neg hnot

end

/-! ### A fault of an outlet, as the entry tells it (R48) -/

theorem fault_faultedAt (c : Controller) (b : Bay) (cause : FaultCause) : c.faultedAt (c.fault b cause) b cause := by
  obtain ⟨v, ch, ho⟩ := fault_outlet c b cause
  refine ⟨by rw [ho]; rfl, ?_, by rw [ho]; exact (endSession_stands c b .FAULT .FAULT).1, fault_flagged c b cause⟩
  rw [ho]
  unfold Outlet.faulted
  dsimp only
  split
  · exact .inr rfl
  · exact .inl rfl

/-- Of the controller before, the telling of a fault reads the site time. -/
theorem faultedAt_base {c d t : Controller} {b : Bay} {cause : FaultCause} (h : d.run = c.run) (hf : d.faultedAt t b cause) :
    c.faultedAt t b cause := by
  unfold Controller.faultedAt at hf ⊢
  rwa [h] at hf

/-! ### A reason removed, as the entry tells it (R44) -/

/-- Of the outlet before, the telling of a removal does not read its meter or its raise released flag. -/
theorem resumedAt_base {c d t : Controller} {b : Bay} {left : Reasons} (h : ∃ bl life un v, d.outlet b =
      { c.outlet b with baseline := bl, lifetime := life, unattributed := un, raiseReleased := v })
    (hr : d.resumedAt t b left) : c.resumedAt t b left := by
  obtain ⟨bl, life, un, v, h⟩ := h
  unfold Controller.resumedAt at hr ⊢
  rw [h] at hr
  exact hr

/-- A later change of the raise released flag, or of the overdraw timer of an outlet that is not queued, does not spoil a removal while an
ACTIVE queue entry stands. -/
theorem resumedAt_later {c d t : Controller} {b : Bay} {left : Reasons} (hr : c.resumedAt d b left)
    (ho : ∃ v ov, t.outlet b = { d.outlet b with raiseReleased := v, overdraw := ov }
      ∧ ((d.outlet b).acting = .QUEUED → ov = (d.outlet b).overdraw))
    (hq : d.queuedActive b → t.queuedActive b) : c.resumedAt t b left := by
  obtain ⟨v, ov, ho, hov⟩ := ho
  obtain ⟨hoff, hstay, hwait, hagain⟩ := hr
  unfold Controller.resumedAt
  rw [ho]
  refine ⟨hoff, hstay, hwait, fun h hn => ?_⟩
  obtain ⟨hre, hac, hovd, hin⟩ := hagain h hn
  refine ⟨hre, hac, (hov hac).trans hovd, fun hon => ?_⟩
  obtain ⟨hqueue, hpend⟩ := hin hon
  exact ⟨hq hqueue, hpend⟩

/-! ### The overdraw check (R47) -/

theorem overdrawAfter_congr {c d : Controller} {b : Bay} (hi : (d.outlet b).inForce = (c.outlet b).inForce)
    (ho : (d.outlet b).overdraw = (c.outlet b).overdraw) (hs : d.settings = c.settings) (w : Int) :
    d.overdrawAfter b w = c.overdrawAfter b w := by
  unfold Controller.overdrawAfter Controller.inForce
  rw [hi, ho, hs]

/-! ### Steps 5 and 6 of an entry (R34) -/

section
variable {c : Controller} {b : Bay}

theorem acting_not_offline {o : Outlet} {st : OutletState} (h : o.state ≠ .OFFLINE) (ha : o.acting = st) : o.state = st :=
  (acting_of_online h).symm.trans ha

/-- The customer pauses: the outlet is PAUSED with CUSTOMER (R43). -/
theorem customerPause_adds (hin : (c.outlet b).state.inSession = true) (hs : (c.outlet b).session.isSome = true)
    (hc : (c.outlet b).reasons.customer = false) : ((c.customerPause b true).outlet b).state = .PAUSED
      ∧ ((c.customerPause b true).outlet b).reasons = { (c.outlet b).reasons with customer := true } := by
  have hon : (c.outlet b).state ≠ .OFFLINE := fun e => by rw [e] at hin; cases hin
  have hacting : (c.outlet b).acting.inSession = true := by rw [acting_of_online hon]; exact hin
  obtain ⟨hpaused, hoff⟩ := addReason_pauses (r := .CUSTOMER) hs hacting hc
  refine ⟨acting_not_offline (mt hoff.mp hon) hpaused, ?_⟩
  rcases addReason_cases c b .CUSTOMER with ⟨-, hhas⟩ | ⟨-, -, hreasons, -⟩
  · exact absurd ((hhas hs hacting).symm.trans hc) (by decide)
  · exact hreasons

/-- The states in which vehicle-done ends an admitted session (R34, step 6). -/
def OutletState.runs (st : OutletState) : Prop := st = .STARTING ∨ st = .CHARGING ∨ st = .PAUSED

/-- Step 5 leaves an admitted session that runs or is paused so. -/
theorem customerPause_runs (h : (c.outlet b).state.runs) (ha : (c.outlet b).session.map (·.admitted) = some true) (pause : Bool) :
    ((c.customerPause b pause).outlet b).state.runs ∧ ((c.customerPause b pause).outlet b).session = (c.outlet b).session
      ∧ (c.customerPause b pause).run = c.run := by
  have hin : (c.outlet b).state.inSession = true := by rcases h with h | h | h <;> rw [h] <;> rfl
  have hs : (c.outlet b).session.isSome = true := by
    cases hx : (c.outlet b).session with
    | none => rw [hx] at ha; cases ha
    | some ss => rfl
  cases pause with
  | true =>
    refine ⟨?_, addReason_session c b _, (addReason_leaves c b _).2.2.2.2.2.2⟩
    cases hc : (c.outlet b).reasons.customer with
    | true => rw [customerPause_steady hc.symm]; exact h
    | false => exact .inr (.inr (customerPause_adds hin hs hc).1)
  | false =>
    refine ⟨?_, removeReason_session c b _, (removeReason_leaves c b _).2.2.2.2.2.2⟩
    cases hc : (c.outlet b).reasons.customer with
    | false => rw [customerPause_steady hc.symm]; exact h
    | true =>
      show ((c.removeReason b .CUSTOMER).outlet b).state.runs
      by_cases hres : (c.outlet b).reasons.put .CUSTOMER false = .empty ∧ (c.outlet b).acting = .PAUSED
      · rw [removeReason_waits (r := .CUSTOMER) hc hres.1 hres.2 ha, updOutlet_outlet_self]
        exact h
      · rw [removeReason_stays (r := .CUSTOMER) hc hres, updOutlet_outlet_self]
        exact h

/-- An admitted session that runs or is paused ends at vehicle-done; the overdraw check goes on in ENDING (R34, R40). -/
theorem sessionEntry_vehicleDone {e : OutletReading} (hp : e.plugged = true) (hd : e.vehicleDone = true) (h : (c.outlet b).state.runs)
    (ha : (c.outlet b).session.map (·.admitted) = some true) : (c.sessionEntry b e).endedWith b .VEHICLE_DONE c.run.siteTime
      ∧ ((c.sessionEntry b e).outlet b).state = .ENDING := by
  obtain ⟨hruns, hsession, hrun⟩ := customerPause_runs h ha e.customerPause
  have hentry : c.sessionEntry b e = ((c.customerPause b e.customerPause).endSession b .VEHICLE_DONE .ENDING).powerStep b e.measured := by
    unfold Controller.sessionEntry
    rw [hp, hd, vehicleDone_of_admitted (hsession.symm ▸ ha) hruns]
    rfl
  have hon : ((c.customerPause b e.customerPause).outlet b).state ≠ .OFFLINE := fun hoff => by
    rw [hoff] at hruns
    rcases hruns with h | h | h <;> cases h
  obtain ⟨ss, hss⟩ : ∃ ss, (c.outlet b).session = some ss := by
    cases hx : (c.outlet b).session with
    | none => rw [hx] at ha; cases ha
    | some ss => exact ⟨ss, rfl⟩
  rw [← hsession] at hss
  obtain ⟨sm, v, ch, ho⟩ := endSession_outlet_over hss .VEHICLE_DONE .ENDING
  have hstate : (((c.customerPause b e.customerPause).endSession b .VEHICLE_DONE .ENDING).outlet b).state = .ENDING := by
    rw [ho]
    exact if_neg hon
  obtain ⟨hnone, hempty, hsum⟩ := endSession_endedWith hss .VEHICLE_DONE .ENDING
  rw [hrun] at hsum
  rw [hentry, powerStep_of_checked (.inr (.inr hstate)), Controller.endedWith, overdrawCheck_outlet]
  exact ⟨⟨hnone, hempty, hsum⟩, hstate⟩

/-- A pause reason that the customer no longer gives is removed (R44). -/
theorem sessionEntry_resumes {e : OutletReading} (hp : e.plugged = true) (hd : e.vehicleDone = false) (hcp : e.customerPause = false)
    (hc : (c.outlet b).reasons.customer = true) (hst : (c.outlet b).state = .PAUSED) :
    c.resumedAt (c.sessionEntry b e) b { (c.outlet b).reasons with customer := false } := by
  have hentry : c.sessionEntry b e = (c.removeReason b .CUSTOMER).powerStep b e.measured := by
    unfold Controller.sessionEntry
    rw [hp, hd, hcp]
    rfl
  have hr : c.resumedAt (c.removeReason b .CUSTOMER) b ((c.outlet b).reasons.put .CUSTOMER false) := removeReason_resumedAt hc
  have hon : ((c.removeReason b .CUSTOMER).outlet b).state ≠ .OFFLINE := fun e => by
    have h := hr.1.mp e
    rw [hst] at h
    cases h
  have hacting : (c.outlet b).acting = .PAUSED := (acting_of_online (by rw [hst]; decide)).trans hst
  have hstate : ((c.removeReason b .CUSTOMER).outlet b).state = .PAUSED ∨ ((c.removeReason b .CUSTOMER).outlet b).state = .QUEUED := by
    obtain ⟨-, hstay, hwait, hagain⟩ := hr
    by_cases hres : (c.outlet b).reasons.put .CUSTOMER false = .empty ∧ (c.outlet b).acting = .PAUSED
    · by_cases hadm : (c.outlet b).session.map (·.admitted) = some true
      · exact .inl (acting_not_offline hon (hwait hres hadm).2.1)
      · exact .inr (acting_not_offline hon (hagain hres hadm).2.1)
    · exact .inl (acting_not_offline hon ((hstay hres).2.1.trans hacting))
  rw [hentry]
  rcases hstate with hpaused | hqueued
  · rw [powerStep_of_checked (.inr (.inl hpaused))]
    refine resumedAt_later hr ⟨_, _, overdrawCheck_outlet _ b _, fun h => ?_⟩ id
    rw [acting_of_online hon, hpaused] at h
    cases h
  · rw [powerStep_of_queued hqueued]
    exact hr

/-- An entry that agrees with the outlet's set, without vehicle-done or where none acts, goes on to the power checks (R34). -/
theorem sessionEntry_steady {e : OutletReading} (hp : e.plugged = true) (hs : e.customerPause = (c.outlet b).reasons.customer)
    (hd : c.vehicleDone b e.vehicleDone = c) : c.sessionEntry b e = c.powerStep b e.measured := by
  unfold Controller.sessionEntry
  rw [hp, customerPause_steady hs, hd]
  rfl

theorem sessionEntry_unplugged {e : OutletReading} (hp : e.plugged = false) : c.sessionEntry b e = c.endSession b .UNPLUGGED .IDLE := by
  unfold Controller.sessionEntry
  rw [hp]
  rfl

/-- The customer pauses, and the overdraw check follows (R34, R43). -/
theorem sessionEntry_pauses {e : OutletReading} (hp : e.plugged = true) (hd : e.vehicleDone = false) (hcp : e.customerPause = true)
    (hin : (c.outlet b).state.inSession = true) (hs : (c.outlet b).session.isSome = true) (hc : (c.outlet b).reasons.customer = false) :
    ((c.sessionEntry b e).outlet b).state = .PAUSED
      ∧ ((c.sessionEntry b e).outlet b).reasons = { (c.outlet b).reasons with customer := true } := by
  have hadds := customerPause_adds hin hs hc
  have hentry : c.sessionEntry b e = (c.customerPause b true).powerStep b e.measured := by
    unfold Controller.sessionEntry
    rw [hp, hd, hcp]
    rfl
  rw [hentry, powerStep_of_checked (.inr (.inl hadds.1)), overdrawCheck_outlet]
  exact hadds

end

/-! ### An entry, state by state -/

section
variable {c : Controller} {b : Bay} {e : OutletReading}

theorem outletEntry_of_quiet (h : (c.outlet b).state = .METER_ONLY ∨ (c.outlet b).state = .DISABLED ∨ (c.outlet b).state = .HOLDOFF
    ∨ (c.outlet b).state = .LOCKED) : c.outletEntry b e = c.metered b e := by
  rw [outletEntry_of_heard, heardEntry_by_state]
  all_goals rcases h with h | h | h | h <;> simp [h, OutletState.takesModuleFault]

theorem outletEntry_fault (h : (c.outlet b).state.inSession = true ∨ (c.outlet b).state = .IDLE ∨ (c.outlet b).state = .PLUGGED
    ∨ (c.outlet b).state = .ENDING) (hf : e.moduleFault ≠ 0) : c.faultedAt (c.outletEntry b e) b .MODULE := by
  have hst : (c.outlet b).state.takesModuleFault = true := by
    rcases h with h | h | h | h
    · cases hx : (c.outlet b).state <;> rw [hx] at h <;> simp_all [OutletState.inSession, OutletState.takesModuleFault]
    all_goals rw [h]; rfl
  have hne : ∀ st : OutletState, st.takesModuleFault = false → (c.outlet b).state ≠ st := fun st hx hy => by
    rw [← hy, hst] at hx
    cases hx
  rw [outletEntry_of_heard (hne _ rfl) (hne _ rfl), heardEntry_fault hst hf]
  exact faultedAt_base (meter_leaves c b _ _).2.2.2.2.2.2 (fault_faultedAt _ b .MODULE)

section
variable (hf : e.moduleFault = 0)
include hf

theorem outletEntry_idle (h : (c.outlet b).state = .IDLE) :
    c.outletEntry b e = if e.plugged then (c.metered b e).enter b .PLUGGED else c.metered b e := by
  rw [outletEntry_of_heard (by rw [h]; decide) (by rw [h]; decide), heardEntry_by_state (.inr hf), h]

theorem outletEntry_plugged (h : (c.outlet b).state = .PLUGGED) :
    c.outletEntry b e = if e.plugged then c.metered b e else (c.metered b e).enter b .IDLE := by
  rw [outletEntry_of_heard (by rw [h]; decide) (by rw [h]; decide), heardEntry_by_state (.inr hf), h]

theorem outletEntry_ending (h : (c.outlet b).state = .ENDING) :
    c.outletEntry b e = if e.plugged then (c.metered b e).powerStep b e.measured else (c.metered b e).enter b .IDLE := by
  rw [outletEntry_of_heard (by rw [h]; decide) (by rw [h]; decide), heardEntry_by_state (.inr hf), h]

theorem outletEntry_session (h : (c.outlet b).state.inSession = true) : c.outletEntry b e = (c.metered b e).sessionEntry b e := by
  have hcases : (c.outlet b).state = .QUEUED ∨ (c.outlet b).state = .STARTING ∨ (c.outlet b).state = .CHARGING
      ∨ (c.outlet b).state = .PAUSED := by
    cases hx : (c.outlet b).state <;> rw [hx] at h <;> simp_all [OutletState.inSession]
  rcases hcases with h | h | h | h <;>
    rw [outletEntry_of_heard (by rw [h]; decide) (by rw [h]; decide), heardEntry_by_state (.inr hf), h]

end
end

/-- The outlet entered into a state without a session, as the entry tells it. -/
theorem enter_state {st : OutletState} (h : st.takesNoZero = false) (c : Controller) (b : Bay) :
    ((c.enter b st).outlet b).state = st ∧ (st.keepsOverdraw = false → ((c.enter b st).outlet b).overdraw = none) := by
  obtain ⟨p, v, ch, ho⟩ := enter_outlet h c b
  rw [ho]
  exact ⟨rfl, fun hk => if_neg (by rw [hk]; decide)⟩

/-- What the meter leaves of the outlet and of what the checks read. -/
theorem metered_keeps (c : Controller) (b : Bay) (e : OutletReading) : ((c.metered b e).outlet b).inForce = (c.outlet b).inForce
    ∧ ((c.metered b e).outlet b).session = (c.outlet b).session ∧ ((c.metered b e).outlet b).reasons = (c.outlet b).reasons
    ∧ ((c.metered b e).outlet b).overdraw = (c.outlet b).overdraw ∧ (c.metered b e).settings = c.settings
    ∧ (c.metered b e).run = c.run := by
  obtain ⟨bl, life, un, ho⟩ := metered_outlet c b e
  obtain ⟨-, -, -, -, hse, -, hru⟩ := meter_leaves c b e.meter c.run.ms
  rw [ho]
  exact ⟨rfl, rfl, rfl, rfl, hse, hru⟩

section
variable {c : Controller} {b : Bay} {e : OutletReading}

/-- The overdraw check of an entry, after the meter (R47). -/
theorem metered_powerStep_checked {st : OutletState} (h : (c.outlet b).state = st) (hst : st = .CHARGING ∨ st = .PAUSED ∨ st = .ENDING) :
    (((c.metered b e).powerStep b e.measured).outlet b).state = st
      ∧ (((c.metered b e).powerStep b e.measured).outlet b).reasons = (c.outlet b).reasons
      ∧ (((c.metered b e).powerStep b e.measured).outlet b).overdraw = c.overdrawAfter b e.measured := by
  obtain ⟨hinForce, -, hreasons, hoverdraw, hsettings, -⟩ := metered_keeps c b e
  have hst1 : ((c.metered b e).outlet b).state = st := (metered_state c b e).trans h
  rw [powerStep_of_checked (by rw [hst1]; exact hst), overdrawCheck_outlet]
  exact ⟨hst1, hreasons, overdrawAfter_congr hinForce hoverdraw hsettings _⟩

/-- The start checks of an entry, after the meter (R42). -/
theorem metered_startCheck : let bound := (c.outlet b).inForce + 2 * c.inForce.margin (c.outlet b).inForce
    (bound < e.measured → c.faultedAt ((c.metered b e).startCheck b e.measured) b .START_OVERLOAD)
    ∧ (e.measured ≤ bound → ((c.bay b).pMin / 2 : Nat) ≤ e.measured →
      (((c.metered b e).startCheck b e.measured).outlet b).state = .CHARGING
        ∧ (((c.metered b e).startCheck b e.measured).outlet b).startTimer = none)
    ∧ (e.measured ≤ bound → e.measured < ((c.bay b).pMin / 2 : Nat) → (c.metered b e).startCheck b e.measured = c.metered b e) := by
  intro bound
  obtain ⟨hinForce, -, -, -, hsettings, hrun⟩ := metered_keeps c b e
  have hbound : ((c.metered b e).outlet b).inForce + 2 * (c.metered b e).inForce.margin ((c.metered b e).outlet b).inForce = bound := by
    unfold Controller.inForce
    rw [hinForce, hsettings]
    rfl
  have hbay : (c.metered b e).bay b = c.bay b := bay_eq_of_settings hsettings b
  refine ⟨fun hw => ?_, fun hw hm => ?_, fun hw hm => ?_⟩
  · rw [startCheck_overload (hbound.symm ▸ hw)]
    exact faultedAt_base hrun (fault_faultedAt _ b _)
  · rw [startCheck_charging (hbound.symm ▸ hw) (hbay.symm ▸ hm), updOutlet_outlet_self]
    exact ⟨rfl, rfl⟩
  · exact startCheck_low (hbound.symm ▸ hw) (hbay.symm ▸ hm)

/-- What an entry of a plugged vehicle does in a session state (R34, R42, R44, R47). -/
theorem sessionEntry_judged (hin : (c.outlet b).state.inSession = true) (hp : e.plugged = true) :
    let o := c.outlet b
    let c' := (c.metered b e).sessionEntry b e
    let o' := c'.outlet b
    let admitted := (o.session.map (·.admitted)) = some true
    let steady := e.customerPause = o.reasons.customer
    let bound := o.inForce + 2 * c.inForce.margin o.inForce
    (e.vehicleDone = false → e.customerPause = true → o.reasons.customer = false → o.session.isSome = true →
      o'.state = .PAUSED ∧ o'.reasons = { o.reasons with customer := true })
    ∧ (e.vehicleDone = false → e.customerPause = false → o.reasons.customer = true → o.state = .PAUSED →
      c.resumedAt c' b { o.reasons with customer := false })
    ∧ (e.vehicleDone = true → o.state ≠ .QUEUED → admitted → c'.endedWith b .VEHICLE_DONE c.run.siteTime ∧ o'.state = .ENDING)
    ∧ (steady → o.state = .QUEUED → c' = c.metered b e)
    ∧ (steady → o.state = .PAUSED → e.vehicleDone = false ∨ ¬ admitted →
      o'.state = .PAUSED ∧ o'.reasons = o.reasons ∧ o'.overdraw = c.overdrawAfter b e.measured)
    ∧ (steady → o.state = .CHARGING → e.vehicleDone = false → o'.state = .CHARGING ∧ o'.overdraw = c.overdrawAfter b e.measured)
    ∧ (steady → o.state = .STARTING → e.vehicleDone = false →
      (bound < e.measured → c.faultedAt c' b .START_OVERLOAD)
      ∧ (e.measured ≤ bound → ((c.bay b).pMin / 2 : Nat) ≤ e.measured → o'.state = .CHARGING ∧ o'.startTimer = none)
      ∧ (e.measured ≤ bound → e.measured < ((c.bay b).pMin / 2 : Nat) → c' = c.metered b e)) := by
  obtain ⟨bl, life, un, ho1⟩ := metered_outlet c b e
  obtain ⟨-, hsession, hreasons, -, -, hrun⟩ := metered_keeps c b e
  have hst1 := metered_state c b e
  have hin1 : ((c.metered b e).outlet b).state.inSession = true := by rw [hst1]; exact hin
  have hsteady : e.customerPause = (c.outlet b).reasons.customer → (c.metered b e).vehicleDone b e.vehicleDone = c.metered b e →
      (c.metered b e).sessionEntry b e = (c.metered b e).powerStep b e.measured := fun hs hd =>
    sessionEntry_steady hp (by rw [hreasons]; exact hs) hd
  intro o c' o' admitted steady bound
  refine ⟨fun hd hcp hc hs => ?_, fun hd hcp hc hst => ?_, fun hd hst ha => ?_, fun hs hst => ?_, fun hs hst hd => ?_, fun hs hst hd => ?_,
    fun hs hst hd => ?_⟩
  · have h := sessionEntry_pauses hp hd hcp hin1 (by rw [hsession]; exact hs) (by rw [hreasons]; exact hc)
    rwa [hreasons] at h
  · have h := sessionEntry_resumes hp hd hcp (by rw [hreasons]; exact hc) (hst1.trans hst)
    rw [hreasons] at h
    exact resumedAt_base ⟨bl, life, un, _, ho1⟩ h
  · have hruns : ((c.metered b e).outlet b).state.runs := by
      rw [hst1]
      cases hx : (c.outlet b).state <;> rw [hx] at hin <;> simp_all [OutletState.inSession, OutletState.runs, o]
    have h := sessionEntry_vehicleDone hp hd hruns (by rw [hsession]; exact ha)
    rwa [hrun] at h
  · have hq := hst1.trans hst
    exact (hsteady hs (vehicleDone_of_queued hq _)).trans (powerStep_of_queued hq _)
  · have hd' : (c.metered b e).vehicleDone b e.vehicleDone = c.metered b e := by
      rcases hd with hd | hd
      · rw [hd]; rfl
      · exact vehicleDone_of_waiting (hst1.trans hst) (by rw [hsession]; exact hd) _
    have h := metered_powerStep_checked (e := e) hst (.inr (.inl rfl))
    rwa [← hsteady hs hd'] at h
  · obtain ⟨hst', -, hov⟩ := metered_powerStep_checked (e := e) hst (.inl rfl)
    rw [← hsteady hs (by rw [hd]; rfl)] at hst' hov
    exact ⟨hst', hov⟩
  · have h := metered_startCheck (c := c) (b := b) (e := e)
    rwa [← powerStep_of_starting (hst1.trans hst), ← hsteady hs (by rw [hd]; rfl)] at h

end

end Sys2Proof.Machine
end

section
/-! SUPPORT. What the work of the outlet supervisor at a STATUS, an echo or a link loss leaves alone: of the link everything but the notice
lists (R132), of the site port the response buffer and the NODE notice, and the quiet blocks. -/

namespace Sys2Proof.Machine

/-- What the outlet supervisor's work leaves alone. -/
structure Controller.OutletWork (c d : Controller) : Prop where
  link : d.link = { c.link with nodes := d.link.nodes }
  node : ∀ x, ∃ g, d.node x = { c.node x with notices := g }
  buffer : d.port.buffer = c.port.buffer
  nodeNotice : d.port.notices.get Source.NODE.ix = c.port.notices.get Source.NODE.ix
  quiet : c.quietBlocks d

theorem outletWork_refl (c : Controller) : c.OutletWork c := ⟨rfl, fun _ => ⟨_, rfl⟩, rfl, rfl, rfl, rfl, rfl, rfl⟩

theorem outletWork_trans {c d e : Controller} (h : c.OutletWork d) (h' : d.OutletWork e) : c.OutletWork e where
  link := nodesAlone_trans h.link h'.link
  node x := by
    obtain ⟨g, hg⟩ := h.node x
    obtain ⟨g', hg'⟩ := h'.node x
    exact ⟨g', by rw [hg', hg]⟩
  buffer := h'.buffer.trans h.buffer
  nodeNotice := h'.nodeNotice.trans h.nodeNotice
  quiet := quietBlocks_trans h.quiet h'.quiet

/-- An operation that leaves link and site port alone. -/
theorem outletWork_of_leaves {c d : Controller} (hl : d.link = c.link) (hp : d.port = c.port) (hq : c.quietBlocks d) : c.OutletWork d where
  link := by rw [hl]
  node x := ⟨(c.node x).notices, node_eq_of_link hl x⟩
  buffer := by rw [hp]
  nodeNotice := by rw [hp]
  quiet := hq

section
variable (c : Controller) (b : Bay)

theorem updOutlet_work (f : Outlet → Outlet) : c.OutletWork (c.updOutlet b f) := outletWork_of_leaves rfl rfl ⟨rfl, rfl, rfl, rfl⟩
theorem depart_work : c.OutletWork (c.depart b) := outletWork_of_leaves rfl rfl ⟨rfl, rfl, rfl, rfl⟩
theorem dequeue_work : c.OutletWork (c.dequeue b) := outletWork_of_leaves rfl rfl ⟨rfl, rfl, rfl, rfl⟩

theorem markTarget_work (w : Nat) : c.OutletWork (c.markTarget b w) := by
  obtain ⟨-, -, hst, hli, hse, hpo, hln, hru⟩ := markTarget_leaves c b w
  exact outletWork_of_leaves hli hpo ⟨hst, hse, hln, hru⟩

theorem judgeRelease_work : c.OutletWork c.judgeRelease := by
  obtain ⟨-, -, hst, hli, hse, hpo, hln, hru⟩ := judgeRelease_leaves c
  exact outletWork_of_leaves hli hpo ⟨hst, hse, hln, hru⟩

theorem addReason_work (r : PauseReason) : c.OutletWork (c.addReason b r) := by
  obtain ⟨-, hst, hli, hse, hpo, hln, hru⟩ := addReason_leaves c b r
  exact outletWork_of_leaves hli hpo ⟨hst, hse, hln, hru⟩

theorem removeReason_work (r : PauseReason) : c.OutletWork (c.removeReason b r) := by
  obtain ⟨-, hst, hli, hse, hpo, hln, hru⟩ := removeReason_leaves c b r
  exact outletWork_of_leaves hli hpo ⟨hst, hse, hln, hru⟩

theorem enter_work (st : OutletState) : c.OutletWork (c.enter b st) := by
  obtain ⟨-, -, hst, hli, hse, hpo, hln, hru⟩ := enter_leaves c b st
  exact outletWork_of_leaves hli hpo ⟨hst, hse, hln, hru⟩

theorem heard_work (plugged : Bool) : c.OutletWork (c.heard b plugged) := by
  obtain ⟨-, hpo, hli, -, hq⟩ := heard_leaves c b plugged
  exact outletWork_of_leaves hli hpo hq

theorem setFault_work (flag : FaultFlag) : c.OutletWork (c.setFault flag) := ⟨rfl, fun _ => ⟨_, rfl⟩, rfl, rfl, rfl, rfl, rfl, rfl⟩

/-- A notice of another source leaves the NODE notice. -/
theorem raise_work {x : Cause} (hx : x.source.ix ≠ Source.NODE.ix) : c.OutletWork (c.raise x) :=
  ⟨rfl, fun _ => ⟨_, rfl⟩, rfl, Table.get_set_of_ne _ _ hx, rfl, rfl, rfl, rfl⟩

theorem tellNode_work (kind : NodeNoticeKind) : c.OutletWork (c.tellNode b kind) where
  link := tellNode_link c b kind
  node x := by
    by_cases h : c.listens b
    · by_cases hx : x = (c.bay b).map.node
      · exact ⟨_, by rw [tellNode_node h, if_pos hx, hx]⟩
      · exact ⟨_, by rw [tellNode_node h, if_neg hx]⟩
    · exact ⟨_, by rw [tellNode_of_not_listens h]⟩
  buffer := by rw [(tellNode_leaves c b kind).2.2.2.2.2.1]
  nodeNotice := by rw [(tellNode_leaves c b kind).2.2.2.2.2.1]
  quiet := by
    obtain ⟨-, -, -, hst, hse, -, hln, hru⟩ := tellNode_leaves c b kind
    exact ⟨hst, hse, hln, hru⟩

theorem unbind_work (k : SlotNo) (atReset : Bool) {x : Cause} (hx : x.source.ix ≠ Source.NODE.ix) : c.OutletWork (c.unbind k atReset x) := by
  unfold Controller.unbind
  split
  · cases (c.record k).boundBay with
    | none => exact outletWork_trans (outletWork_of_leaves (d := c.updRecord k _) rfl rfl ⟨rfl, rfl, rfl, rfl⟩) (raise_work _ hx)
    | some y =>
      exact outletWork_trans (outletWork_of_leaves (d := (c.updOutlet y _).updRecord k _) rfl rfl ⟨rfl, rfl, rfl, rfl⟩) (raise_work _ hx)
  · exact outletWork_refl c

theorem releaseSlot_work (slot : Option SlotNo) (r : EndReason) : c.OutletWork (c.releaseSlot slot r) := by
  cases slot with
  | none => exact outletWork_refl c
  | some k => exact unbind_work c k _ (by decide)

theorem endSession_work (r : EndReason) (st : OutletState) : c.OutletWork (c.endSession b r st) := by
  cases hs : (c.outlet b).session with
  | none => rw [endSession_none hs]; exact outletWork_refl c
  | some ss =>
    have htell : ∀ d : Controller, d.OutletWork ((if r.untold then d else d.tellNode b .SESSION_ENDED).raise .outletSessionEnd) := fun d => by
      split
      · exact raise_work d (by decide)
      · exact outletWork_trans (tellNode_work d b _) (raise_work _ (by decide))
    rw [endSession_eq hs]
    exact outletWork_trans (updOutlet_work c b _) (outletWork_trans (releaseSlot_work _ _ r) (outletWork_trans (updOutlet_work _ b _)
      (outletWork_trans (dequeue_work _ b) (outletWork_trans (depart_work _ b) (outletWork_trans (markTarget_work _ b 0)
        (outletWork_trans (htell _) (judgeRelease_work _)))))))

theorem fault_work (cause : FaultCause) : c.OutletWork (c.fault b cause) := by
  have hraise : ∀ d : Controller, d.OutletWork (d.raiseFault b) := fun d => by
    unfold Controller.raiseFault
    split
    · exact outletWork_trans (raise_work d (by decide)) (raise_work _ (by decide))
    · exact raise_work d (by decide)
  rw [fault_eq]
  exact outletWork_trans (endSession_work c b _ _) (outletWork_trans (updOutlet_work _ b _) (outletWork_trans (depart_work _ b)
    (outletWork_trans (markTarget_work _ b 0) (outletWork_trans (judgeRelease_work _) (outletWork_trans (setFault_work _ _) (hraise _))))))

theorem meter_work (reading stamp : Nat) : c.OutletWork (c.meter b reading stamp) := by
  obtain ⟨f, -, h⟩ := meter_cases c b reading stamp
  rcases h with h | h <;> rw [h]
  · exact updOutlet_work c b f
  · exact outletWork_trans (updOutlet_work c b f) (outletWork_trans (setFault_work _ _) (raise_work _ (by decide)))

/-! ### A STATUS entry (R34) -/

theorem customerPause_work (pause : Bool) : c.OutletWork (c.customerPause b pause) := by
  cases pause with
  | true => exact addReason_work c b .CUSTOMER
  | false => exact removeReason_work c b .CUSTOMER

theorem vehicleDone_work (done : Bool) : c.OutletWork (c.vehicleDone b done) := by
  unfold Controller.vehicleDone
  dsimp only
  split
  · exact endSession_work c b _ _
  · exact outletWork_refl c

theorem powerStep_work (w : Int) : c.OutletWork (c.powerStep b w) := by
  unfold Controller.powerStep Controller.startCheck
  dsimp only
  split
  · split
    · exact fault_work c b _
    · split
      · exact updOutlet_work c b _
      · exact outletWork_refl c
  · exact updOutlet_work c b _
  · exact updOutlet_work c b _
  · exact updOutlet_work c b _
  · exact outletWork_refl c

theorem sessionEntry_work (e : OutletReading) : c.OutletWork (c.sessionEntry b e) := by
  unfold Controller.sessionEntry
  split
  · exact endSession_work c b _ _
  · exact outletWork_trans (customerPause_work c b _) (outletWork_trans (vehicleDone_work _ b _) (powerStep_work _ b _))

theorem heardEntry_work (e : OutletReading) : c.OutletWork (c.heardEntry b e) := by
  unfold Controller.heardEntry
  refine outletWork_trans (meter_work c b e.meter c.run.ms) ?_
  dsimp only
  generalize c.meter b e.meter c.run.ms = d
  split
  · exact fault_work d b _
  · split
    · split
      · exact enter_work d b _
      · exact outletWork_refl d
    · split
      · exact outletWork_refl d
      · exact enter_work d b _
    any_goals exact sessionEntry_work d b e
    · split
      · exact powerStep_work d b _
      · exact enter_work d b _
    · exact outletWork_refl d

theorem outletEntry_work (e : OutletReading) : c.OutletWork (c.outletEntry b e) := by
  unfold Controller.outletEntry
  split
  · exact outletWork_refl c
  · exact outletWork_refl c
  · exact heardEntry_work c b e

end

theorem eachEntry_work {f : Bay → OutletReading → Controller → Controller} (h : ∀ b e (c : Controller), c.OutletWork (f b e c)) (a : Addr)
    (es : List OutletReading) (c : Controller) : c.OutletWork (c.eachEntry a es f) := by
  unfold Controller.eachEntry
  generalize List.finRange 4 = l
  induction l generalizing c with
  | nil => exact outletWork_refl c
  | cons ix l ih =>
    refine outletWork_trans ?_ (ih _)
    dsimp only
    split
    · exact h _ _ c
    · exact outletWork_refl c

theorem forBays_work {f : Bay → Controller → Controller} (h : ∀ b (c : Controller), c.OutletWork (f b c)) (c : Controller) :
    c.OutletWork (forBays f c) :=
  forBays_keeps (fun d => c.OutletWork d) (fun b d hd => outletWork_trans hd (h b d)) (outletWork_refl c)

theorem pedestalStatus_work (a : Addr) (es : List OutletReading) (returned : Bool) (c : Controller) :
    c.OutletWork (c.pedestalStatus a es returned) := by
  unfold Controller.pedestalStatus
  refine outletWork_trans ?_ (eachEntry_work (fun b e d => outletWork_trans (heard_work d b _) (outletEntry_work _ b e)) a es _)
  split
  · exact eachEntry_work (fun b e d => heard_work d b e.plugged) a es c
  · exact outletWork_refl c

theorem side_source (side : Side) : side.cause.source.ix ≠ Source.NODE.ix := by cases side <;> decide

theorem supplyStep_work (v : Nat) (c : Controller) : c.OutletWork (c.supplyStep v) := by
  have hput : c.OutletWork { c with outlets := { c.outlets with window := windowAfter c.inForce v c.outlets.window, lastVoltage := some v } } :=
    outletWork_of_leaves rfl rfl ⟨rfl, rfl, rfl, rfl⟩
  unfold Controller.supplyStep
  refine outletWork_trans hput ?_
  dsimp only
  split
  · exact outletWork_trans (forBays_work (fun b d => addReason_work d b .SUPPLY) _) (outletWork_trans (setFault_work _ _)
      (raise_work _ (side_source _)))
  · exact outletWork_trans (forBays_work (fun b d => removeReason_work d b .SUPPLY) _) (raise_work _ (by decide))
  · split
    · exact outletWork_refl _
    · exact raise_work _ (side_source _)
  · exact outletWork_refl _

end Sys2Proof.Machine
end

section
/-! SUPPORT. The final cycle of a STOP is a mark of the link that the outlet supervisor's work overlooks, so that a STATUS or an echo does in
the final cycle what it does in any (R142). -/

namespace Sys2Proof.Machine

/-! ### Operations on outlets under a mark -/

section
variable (m : Link → Link) (q : List Draw → List Draw) (c : Controller) (b : Bay)

@[simp] theorem setFault_mark (flag : FaultFlag) : (c.mark m q).setFault flag = (c.setFault flag).mark m q := rfl

@[simp] theorem enter_mark (st : OutletState) : (c.mark m q).enter b st = (c.enter b st).mark m q := by
  unfold Controller.enter
  dsimp only
  rw [updOutlet_mark, markTarget_mark, judgeRelease_mark, apply_ite (Controller.mark m q)]

@[simp] theorem removeReason_mark (r : PauseReason) : (c.mark m q).removeReason b r = (c.removeReason b r).mark m q := by
  unfold Controller.removeReason
  simp only [mark_outlet, updOutlet_mark, enqueue_mark, markTarget_mark, judgeRelease_mark, apply_ite (Controller.mark m q)]

@[simp] theorem raiseFault_mark : (c.mark m q).raiseFault b = (c.raiseFault b).mark m q := by
  unfold Controller.raiseFault
  rw [apply_ite (Controller.mark m q)]
  rfl

@[simp] theorem meter_mark (reading stamp : Nat) : (c.mark m q).meter b reading stamp = (c.meter b reading stamp).mark m q := by
  unfold Controller.meter
  rw [mark_outlet]
  cases (c.outlet b).baseline with
  | none => rfl
  | some base =>
    dsimp only
    rw [apply_ite (Controller.mark m q)]
    rfl

@[simp] theorem queueBack_mark (st : OutletState) : (c.mark m q).queueBack st b = (c.queueBack st b).mark m q := by
  unfold Controller.queueBack
  rw [enqueue_mark, apply_ite (Controller.mark m q)]

@[simp] theorem zeroAt_mark (st : OutletState) : (c.mark m q).zeroAt st b = (c.zeroAt st b).mark m q := by
  unfold Controller.zeroAt
  rw [markTarget_mark, judgeRelease_mark, apply_ite (Controller.mark m q)]

@[simp] theorem heard_mark (plugged : Bool) : (c.mark m q).heard b plugged = (c.heard b plugged).mark m q := by
  by_cases h : (c.outlet b).state = .OFFLINE ∧ (c.outlet b).offlineCause ≠ some .MAP_MISMATCH
  · obtain ⟨hst, hcause⟩ := h
    rw [heard_of_offline hst hcause, heard_of_offline (c := c.mark m q) hst hcause, updOutlet_mark]
    exact (congrArg _ (queueBack_mark m q _ b _)).trans (zeroAt_mark m q _ b _)
  · have h : (c.outlet b).state ≠ .OFFLINE ∨ (c.outlet b).offlineCause = some .MAP_MISMATCH := by
      rwa [not_and_or, not_not] at h
    rw [heard_of_online h, heard_of_online (c := c.mark m q) h]

@[simp] theorem customerPause_mark (pause : Bool) : (c.mark m q).customerPause b pause = (c.customerPause b pause).mark m q := by
  cases pause with
  | true => exact addReason_mark m q c b .CUSTOMER
  | false => exact removeReason_mark m q c b .CUSTOMER

end

section
variable {m : Link → Link} (hm : Link.Overlooked m) (q : List Draw → List Draw) (c : Controller) (b : Bay)
include hm

theorem fault_mark (cause : FaultCause) : (c.mark m q).fault b cause = (c.fault b cause).mark m q := by
  rw [fault_eq, fault_eq, endSession_mark hm, mark_inForce, mark_run, updOutlet_mark, depart_mark, markTarget_mark, judgeRelease_mark,
    setFault_mark, raiseFault_mark]

theorem vehicleDone_mark (done : Bool) : (c.mark m q).vehicleDone b done = (c.vehicleDone b done).mark m q := by
  unfold Controller.vehicleDone
  rw [mark_outlet, endSession_mark hm, apply_ite (Controller.mark m q)]

theorem startCheck_mark (w : Int) : (c.mark m q).startCheck b w = (c.startCheck b w).mark m q := by
  unfold Controller.startCheck
  rw [fault_mark hm, updOutlet_mark, apply_ite (Controller.mark m q), apply_ite (Controller.mark m q)]
  rfl

theorem powerStep_mark (w : Int) : (c.mark m q).powerStep b w = (c.powerStep b w).mark m q := by
  unfold Controller.powerStep
  rw [mark_outlet, startCheck_mark hm]
  cases (c.outlet b).state <;> rfl

theorem sessionEntry_mark (e : OutletReading) : (c.mark m q).sessionEntry b e = (c.sessionEntry b e).mark m q := by
  unfold Controller.sessionEntry
  rw [endSession_mark hm, customerPause_mark, vehicleDone_mark hm, powerStep_mark hm, apply_ite (Controller.mark m q)]

theorem heardEntry_mark (e : OutletReading) : (c.mark m q).heardEntry b e = (c.heardEntry b e).mark m q := by
  unfold Controller.heardEntry
  simp only [mark_run, meter_mark]
  generalize c.meter b e.meter c.run.ms = d
  rw [mark_outlet, fault_mark hm, apply_ite (Controller.mark m q)]
  congr 1
  cases (d.outlet b).state <;> simp only [enter_mark, sessionEntry_mark hm, powerStep_mark hm, apply_ite (Controller.mark m q)]

theorem outletEntry_mark (e : OutletReading) : (c.mark m q).outletEntry b e = (c.outletEntry b e).mark m q := by
  unfold Controller.outletEntry
  rw [mark_outlet, heardEntry_mark hm]
  cases (c.outlet b).state <;> rfl

end

theorem eachEntry_mark {m : Link → Link} {q : List Draw → List Draw} {f : Bay → OutletReading → Controller → Controller}
    (h : ∀ b e (c : Controller), f b e (c.mark m q) = (f b e c).mark m q) (a : Addr) (es : List OutletReading) (c : Controller) :
    (c.mark m q).eachEntry a es f = (c.eachEntry a es f).mark m q := by
  unfold Controller.eachEntry
  refine List.foldl_hom (Controller.mark m q) fun d ix => ?_
  show (match es[ix.val]?, d.bayAt a ix with
    | some e, some b => f b e (d.mark m q)
    | _, _ => d.mark m q) = _
  cases es[ix.val]? with
  | none => rfl
  | some e =>
    cases d.bayAt a ix with
    | none => rfl
    | some b => exact h b e d

theorem forBays_mark {m : Link → Link} {q : List Draw → List Draw} {f : Bay → Controller → Controller}
    (h : ∀ b (c : Controller), f b (c.mark m q) = (f b c).mark m q) (c : Controller) : forBays f (c.mark m q) = (forBays f c).mark m q :=
  List.foldl_hom (Controller.mark m q) fun d b => h b d

theorem pedestalStatus_mark {m : Link → Link} (hm : Link.Overlooked m) (q : List Draw → List Draw) (c : Controller) (a : Addr)
    (es : List OutletReading) (returned : Bool) : (c.mark m q).pedestalStatus a es returned = (c.pedestalStatus a es returned).mark m q := by
  unfold Controller.pedestalStatus
  dsimp only
  rw [eachEntry_mark (fun b e d => heard_mark m q d b e.plugged), ← apply_ite (Controller.mark m q),
    eachEntry_mark fun b e d => by rw [heard_mark, outletEntry_mark hm]]

/-! ### The supply window (R162, R163) -/

/-- The voltage of a supply meter is stored with the window that it gives (R162). -/
def Controller.takeVoltage (v : Nat) (c : Controller) : Controller :=
  { c with outlets := { c.outlets with window := windowAfter c.inForce v c.outlets.window, lastVoltage := some v } }

/-- The supply leaves the window (R163). -/
def Controller.supplyOut (side : Side) (c : Controller) : Controller :=
  ((forBays (fun b c => c.addReason b .SUPPLY) c).setFault .SUPPLY_WINDOW).raise side.cause

/-- The supply is back in the window (R163). -/
def Controller.supplyBack (c : Controller) : Controller := (forBays (fun b c => c.removeReason b .SUPPLY) c).raise .supplyBackIn

/-- What a change of the window does (R163). -/
def Controller.supplyChange (c : Controller) : Option Side → Option Side → Controller
  | none, some side => c.supplyOut side
  | some _, none => c.supplyBack
  | some x, some y => if x = y then c else c.raise y.cause
  | none, none => c

theorem supplyStep_eq (c : Controller) (v : Nat) :
    c.supplyStep v = (c.takeVoltage v).supplyChange c.outlets.window (windowAfter c.inForce v c.outlets.window) := by
  unfold Controller.supplyStep
  change (match c.outlets.window, windowAfter c.inForce v c.outlets.window with
    | none, some side => (c.takeVoltage v).supplyOut side
    | some _, none => (c.takeVoltage v).supplyBack
    | some x, some y => if x = y then c.takeVoltage v else (c.takeVoltage v).raise y.cause
    | none, none => c.takeVoltage v) = _
  generalize c.takeVoltage v = d
  cases c.outlets.window with
  | none => cases windowAfter c.inForce v none <;> rfl
  | some x => cases windowAfter c.inForce v (some x) <;> rfl

section
variable (m : Link → Link) (q : List Draw → List Draw) (c : Controller)

theorem supplyOut_mark (side : Side) : (c.mark m q).supplyOut side = (c.supplyOut side).mark m q := by
  unfold Controller.supplyOut
  rw [forBays_mark (fun b d => addReason_mark m q d b .SUPPLY), setFault_mark, raise_mark]

theorem supplyBack_mark : (c.mark m q).supplyBack = c.supplyBack.mark m q := by
  unfold Controller.supplyBack
  rw [forBays_mark (fun b d => removeReason_mark m q d b .SUPPLY), raise_mark]

theorem supplyChange_mark (before after : Option Side) :
    (c.mark m q).supplyChange before after = (c.supplyChange before after).mark m q := by
  cases before with
  | none =>
    cases after with
    | none => rfl
    | some side => exact supplyOut_mark m q c side
  | some x =>
    cases after with
    | none => exact supplyBack_mark m q c
    | some y => exact (apply_ite (Controller.mark m q) (x = y) c (c.raise y.cause)).symm

theorem supplyStep_mark (v : Nat) : (c.mark m q).supplyStep v = (c.supplyStep v).mark m q := by
  rw [supplyStep_eq, supplyStep_eq]
  exact supplyChange_mark m q (c.takeVoltage v) _ _

end

/-! ### The mark of the final cycle -/

/-- The link in the final cycle of a STOP. -/
def Link.inFinal (l : Link) : Link := { l with finalCycle := true }

/-- A controller in the final cycle of a STOP. -/
def Controller.final (c : Controller) : Controller := c.mark Link.inFinal id

theorem overlooked_inFinal : Link.Overlooked Link.inFinal := ⟨fun _ _ => ⟨_, rfl⟩, fun _ _ _ => rfl⟩

/-- A state in its final cycle is the mark of the same in an ordinary one. -/
theorem ctl_eq_final {s : State} (h : s.ctl.link.finalCycle = true) : s.ctl = (s.inFinal false).ctl.final := by
  show s.ctl = { s.ctl with link := { s.ctl.link with finalCycle := true } }
  rw [← h]

section
variable (c : Controller)

theorem updNode_final (a : Addr) (f : Node → Node) : c.final.updNode a f = (c.updNode a f).final := rfl

theorem nodeReturns_final (k : Option NodeKind) : c.final.nodeReturns k = (c.nodeReturns k).final := by
  cases k with
  | none => rfl
  | some k => cases k <;> rfl

/-- The readings of a good STATUS are stored, and its node returns where it was SILENT (R129, R138). -/
def Controller.storeStatus (a : Addr) (body : StatusBody) (c : Controller) : Controller :=
  let c1 := c.updNode a (Node.take body c.run.siteTime c.run.ms)
  if (c.node a).state == .SILENT then c1.nodeReturns (c1.node a).kind else c1

theorem takeStatus_pedestal (a : Addr) (es : List OutletReading) :
    c.takeStatus a (.pedestal es) = (c.storeStatus a (.pedestal es)).pedestalStatus a es ((c.node a).state == .SILENT) := rfl
theorem takeStatus_canopy (a : Addr) (p : Int) (cap : Cap) : c.takeStatus a (.canopy p cap) =
    (c.storeStatus a (.canopy p cap)).updStorage fun st => { st with canopy := st.canopy.report cap } := rfl
theorem takeStatus_battery (a : Addr) (r : BatteryReading) : c.takeStatus a (.battery r) = c.storeStatus a (.battery r) := rfl
theorem takeStatus_supplyMeter (a : Addr) (p : Int) (v : Nat) :
    c.takeStatus a (.supplyMeter p v) = (c.storeStatus a (.supplyMeter p v)).supplyStep v := rfl

theorem storeStatus_final (a : Addr) (body : StatusBody) : c.final.storeStatus a body = (c.storeStatus a body).final := by
  unfold Controller.storeStatus
  dsimp only
  rw [updNode_final, nodeReturns_final, apply_ite Controller.final]
  rfl

/-- A good STATUS is taken in the final cycle as in any (R129, R142). -/
theorem takeStatus_final (a : Addr) (body : StatusBody) : c.final.takeStatus a body = (c.takeStatus a body).final := by
  cases body with
  | pedestal es =>
    rw [takeStatus_pedestal, takeStatus_pedestal, storeStatus_final]
    exact pedestalStatus_mark overlooked_inFinal id _ a es _
  | canopy p cap =>
    rw [takeStatus_canopy, takeStatus_canopy, storeStatus_final]
    rfl
  | battery r => exact storeStatus_final c a _
  | supplyMeter p v =>
    rw [takeStatus_supplyMeter, takeStatus_supplyMeter, storeStatus_final]
    exact supplyStep_mark Link.inFinal id _ v

theorem outletEcho_mark (m : Link → Link) (q : List Draw → List Draw) (b : Bay) (sent echo : Int) :
    (c.mark m q).outletEcho b sent echo = (c.outletEcho b sent echo).mark m q := by
  unfold Controller.outletEcho
  simp only [updOutlet_mark, judgeRelease_mark, raise_mark, apply_ite (Controller.mark m q)]

end

end Sys2Proof.Machine
end

section
/-! SUPPORT. The frame of a visit that follows in an ordinary cycle (R128 to R133): which it is, and what sending it leaves alone. -/

namespace Sys2Proof.Machine

/-! ### What the frames of a visit leave alone -/

/-- What a frame that continues the visits leaves alone: every block but the link, and of each node all but its outstanding setpoints, its
notices and its report-used flag; of the visited node also the setpoints of the outlets already sent. -/
structure Controller.VisitFrame (c t : Controller) (a : Addr) : Prop where
  blocks : t = { c with link := t.link }
  node : ∀ x, ∃ oo ob oc g u, t.node x =
    { c.node x with outOutlet := oo, outBattery := ob, outCanopy := oc, notices := g, reportUsed := u }
  sent : ∀ ix ∈ c.link.sentOutlets, (t.node a).outOutlet.get ix = (c.node a).outOutlet.get ix

/-- What a frame leaves alone that begins another visit, or follows the last: of each node all but its report-used flag. -/
structure Controller.FlagsFrame (c t : Controller) : Prop where
  blocks : t = { c with link := t.link }
  node : ∀ x, ∃ u, t.node x = { c.node x with reportUsed := u }

theorem visitFrame_of_flags {c t : Controller} (h : c.FlagsFrame t) (a : Addr) : c.VisitFrame t a where
  blocks := h.blocks
  node x := by
    obtain ⟨u, hu⟩ := h.node x
    exact ⟨_, _, _, _, u, hu⟩
  sent ix _ := by
    obtain ⟨u, hu⟩ := h.node a
    rw [hu]

theorem flagsFrame_of_send (c : Controller) (f : Link → Link) (hf : (f c.link).nodes = c.link.nodes) (x : Sent) :
    c.FlagsFrame ((c.updLink f).send x) :=
  ⟨rfl, fun y => ⟨(c.node y).reportUsed, congrArg (fun t : Table Node 30 => t.get y) hf⟩⟩

/-- A frame to the visited node, sent with its note in the node. -/
theorem visitFrame_of_updNode {c : Controller} {a : Addr} {f : Node → Node}
    (hf : ∃ oo ob oc g, f (c.node a) = { c.node a with outOutlet := oo, outBattery := ob, outCanopy := oc, notices := g })
    (hsent : ∀ ix ∈ c.link.sentOutlets, (f (c.node a)).outOutlet.get ix = (c.node a).outOutlet.get ix) (st : Stage)
    (sent : List OutIx) (x : Sent) :
    c.VisitFrame (((c.updNode a f).updLink fun l => { l with stage := st, sentOutlets := sent }).send x) a where
  blocks := rfl
  node y := by
    have hnode : (((c.updNode a f).updLink fun l => { l with stage := st, sentOutlets := sent }).send x).node y
        = if a = y then f (c.node a) else c.node y := updNode_node c a y f
    by_cases hy : a = y
    · obtain ⟨oo, ob, oc, g, hf⟩ := hf
      exact ⟨oo, ob, oc, g, _, by rw [hnode, if_pos hy, hf, ← hy]⟩
    · exact ⟨_, _, _, _, _, by rw [hnode, if_neg hy]⟩
  sent ix h := (congrArg (fun n : Node => n.outOutlet.get ix) (updNode_node_self c a f)).trans (hsent ix h)

/-! ### The attach probe (R133) -/

/-- How far an address lies above the probe's pointer, with 30 followed by 1. -/
def Link.upward (l : Link) (x : Addr) : Nat := (x.val + 30 - l.probe.val) % 30

theorem upward_injective {l : Link} {x y : Addr} (h : l.upward x = l.upward y) : x = y := by
  unfold Link.upward at h
  refine Fin.ext ?_
  omega

theorem probeTarget_some {l : Link} {a : Addr} (h : l.probeTarget = some a) : (l.nodes.get a).state = .ABSENT
    ∧ ∀ y, (l.nodes.get y).state = .ABSENT → l.upward a ≤ l.upward y := by
  unfold Link.probeTarget at h
  unfold Link.upward
  split at h
  · next x hx =>
    obtain ⟨hx, hmin⟩ := Table.lowest_some hx
    cases h
    simp only [Bool.and_eq_true, decide_eq_true_eq, beq_iff_eq] at hx
    refine ⟨hx.2, fun y hy => ?_⟩
    have habove : l.probe.val ≤ y.val → a.val ≤ y.val := fun hp => by
      by_contra hlt
      simpa [hp, hy] using hmin y (Fin.lt_def.mpr (Nat.lt_of_not_le hlt))
    omega
  · next hnone =>
    obtain ⟨ha, hmin⟩ := Table.lowest_some h
    refine ⟨eq_of_beq ha, fun y hy => ?_⟩
    have hbelow : ∀ z : Addr, (l.nodes.get z).state = .ABSENT → z.val < l.probe.val := fun z hz => by
      by_contra hge
      simpa [Nat.le_of_not_lt hge, hz] using Table.lowest_none hnone z
    have hle : a.val ≤ y.val := by
      by_contra hlt
      simpa [hy] using hmin y (Fin.lt_def.mpr (Nat.lt_of_not_le hlt))
    have ha := hbelow a (eq_of_beq ha)
    have hy := hbelow y hy
    omega

theorem probeTarget_none {l : Link} (h : l.probeTarget = none) (y : Addr) : (l.nodes.get y).state ≠ .ABSENT := by
  unfold Link.probeTarget at h
  split at h
  · exact absurd h (by simp)
  · intro hy
    simpa [hy] using Table.lowest_none h y

theorem probeNext_val (a : Addr) : (probeNext a).val = (a.val + 1) % 30 := by
  unfold probeNext
  split
  · next h => exact (Nat.mod_eq_of_lt h).symm
  · next h =>
    have : a.val + 1 = 30 := by omega
    rw [this]
    rfl

theorem probeStep_probesNext (c : Controller) : c.probesNext c.probeStep := by
  unfold Controller.probeStep
  split
  · next a ha =>
    obtain ⟨habsent, hmin⟩ := probeTarget_some ha
    refine ⟨fun x hx hxmin => ?_, fun hnone => absurd habsent (hnone a)⟩
    obtain rfl : x = a := upward_injective (Nat.le_antisymm (hxmin a habsent) (hmin x hx))
    exact ⟨rfl, probeNext_val x⟩
  · next hnone =>
    refine ⟨fun x hx => absurd ((congrArg Node.state (startWindows_node c x)).symm.trans hx) (probeTarget_none hnone x), fun _ => ?_⟩
    exact ⟨rfl, rfl, rfl, rfl, fun x => congrArg Node.reportUsed (startWindows_node c x)⟩

theorem probeStep_frame (c : Controller) : c.FlagsFrame c.probeStep := by
  unfold Controller.probeStep
  split
  · exact flagsFrame_of_send c _ rfl _
  · exact ⟨rfl, fun x => ⟨false, startWindows_node c x⟩⟩

/-! ### The visits that follow (R128, R139) -/

/-- The visits of an ordinary cycle cannot end in a collapse: it is no final cycle, and a node is PRESENT. -/
def Controller.cycleAlive (c : Controller) : Prop := c.link.finalCycle = false ∧ ∃ x, (c.node x).state = .PRESENT

section
variable {c : Controller}

theorem afterVisits_of_alive (h : c.cycleAlive) : c.afterVisits = (c.updLink fun l => { l with allSilent := 0 }).probeStep := by
  obtain ⟨hfinal, x, hx⟩ := h
  have hpresent : (c.link.nodes.data.any fun n => n.state == .PRESENT) = true := (Table.any_data _ _).mpr ⟨x, beq_iff_eq.mpr hx⟩
  have hsilent : c.link.allSilentAfter = 0 := by simp [Link.allSilentAfter, hpresent]
  simp [Controller.afterVisits, hfinal, Controller.collapseStep, Controller.updLink, hsilent, Config.missLimit]

theorem probeStep_allSilent (c : Controller) : c.probeStep.link.allSilent = c.link.allSilent := by
  unfold Controller.probeStep
  split <;> rfl

theorem probesNext_of_probe {c d t : Controller} (h : c.probesNext t) (hd : d.link.probe = c.link.probe) : d.probesNext t := by
  unfold Controller.probesNext at h ⊢
  rwa [hd]

theorem visitFrom_poll {start : Nat} {x : Addr} (h : (c.link.nodes.lowest fun i n => decide (start ≤ i) && n.known) = some x) :
    c.visitFrom start = (c.updLink fun l => { l with stage := .polled, sentOutlets := [] }).send (.poll x) := by
  unfold Controller.visitFrom
  rw [h]

theorem visitFrom_over {start : Nat} (h : (c.link.nodes.lowest fun i n => decide (start ≤ i) && n.known) = none) :
    c.visitFrom start = c.afterVisits := by
  unfold Controller.visitFrom
  rw [h]

theorem visitFrom_goesOn (h : c.cycleAlive) {d : Controller} (hd : d.link.probe = c.link.probe) (start : Nat) :
    d.visitsGoOn (c.visitFrom start) start ∧ c.FlagsFrame (c.visitFrom start) := by
  cases hx : c.link.nodes.lowest fun i n => decide (start ≤ i) && n.known with
  | some x =>
    rw [visitFrom_poll hx]
    obtain ⟨hx, hmin⟩ := Table.lowest_some hx
    simp only [Bool.and_eq_true, decide_eq_true_eq] at hx
    refine ⟨⟨fun y hy hknown hymin => ?_, fun hnone => absurd (hx.2.symm.trans (hnone x hx.1)) (by decide)⟩,
      flagsFrame_of_send c _ rfl _⟩
    have hyx : y = x := by
      rcases lt_trichotomy x y with hlt | heq | hlt
      · exact absurd (hx.2.symm.trans (hymin x hx.1 hlt)) (by decide)
      · exact heq.symm
      · have := hmin y hlt
        rw [decide_eq_true hy, Bool.true_and] at this
        exact absurd (hknown.symm.trans this) (by decide)
    rw [hyx]
    exact ⟨rfl, rfl, rfl⟩
  | none =>
    rw [visitFrom_over hx]
    have hprobe := probeStep_probesNext (c.updLink fun l => { l with allSilent := 0 })
    have hsilent := probeStep_allSilent (c.updLink fun l => { l with allSilent := 0 })
    have hframe := probeStep_frame (c.updLink fun l => { l with allSilent := 0 })
    rw [← afterVisits_of_alive h] at hprobe hsilent hframe
    refine ⟨⟨fun y hy hknown _ => ?_, fun _ _ => ⟨hsilent, probesNext_of_probe hprobe hd⟩⟩, ⟨hframe.blocks, hframe.node⟩⟩
    obtain ⟨_, hy'⟩ := hframe.node y
    rw [hy'] at hknown
    have := Table.lowest_none hx y
    rw [decide_eq_true hy, Bool.true_and] at this
    exact absurd (hknown.symm.trans this) (by decide)

end

end Sys2Proof.Machine
end

section
/-! SUPPORT. The visit to a node goes on with the frame that R130 gives. -/

namespace Sys2Proof.Machine

/-! ### The steps of a visit, of what is sent -/

/-- Step 4 of a visit (R132), from `c` to `t`. -/
def Controller.noticeGoes (c t : Controller) (a : Addr) : List NodeNotice → Prop
  | e :: rest => t.sends (.notice a e) ∧ (t.node a).notices = rest ∧ t.link.stage = .notices
  | [] => (t.node a).notices = [] ∧ c.visitsGoOn t (a.val + 1)

/-- Step 3 of a visit (R130), from `c` to `t`. -/
def Controller.singleGoes (c t : Controller) (a : Addr) (notices : List NodeNotice) : Prop :=
  match (t.node a).kind, t.storage.battery.pending, t.storage.canopy.pending with
  | some .BATTERY, some w, _ => t.sends (.setBattery a w) ∧ (t.node a).outBattery = some w ∧ t.link.stage = .notices
    ∧ (t.node a).notices = notices
  | some .CANOPY, _, some w => t.sends (.setCanopy a w) ∧ (t.node a).outCanopy = some w ∧ t.link.stage = .notices
    ∧ (t.node a).notices = notices
  | _, _, _ => c.noticeGoes t a notices

/-- The pending target of an outlet of a node. -/
def Controller.targetAt (t : Controller) (a : Addr) (ix : OutIx) : Option PendingTarget := (t.bayAt a ix).bind fun b => (t.outlet b).pending

/-- A SETPOINT to an outlet of the visited node, from `c` to `t`. -/
def Controller.setpointGoes (c t : Controller) (a : Addr) (notices : List NodeNotice) (ix : OutIx) (st : Stage) : Prop :=
  ∃ b, t.bayAt a ix = some b ∧ ∃ p, (t.outlet b).pending = some p
    ∧ t.sends (.setOutlet a ix (min p.target (t.bay b).pMax : Nat))
    ∧ (t.node a).outOutlet.get ix = some (min p.target (t.bay b).pMax : Nat)
    ∧ t.link.stage = st ∧ t.link.sentOutlets = ix :: c.link.sentOutlets ∧ (t.node a).notices = notices

/-- The outlets that a step passes by. -/
def Controller.passes (c t : Controller) (a : Addr) (ix : OutIx) : Bool := (t.targetAt a ix).isNone || c.link.sentOutlets.contains ix

/-- Step 2 of a visit with the outlets it has still to send (R130), from `c` to `t`. -/
def Controller.raisesGo (c t : Controller) (a : Addr) (notices : List NodeNotice) (todo : List OutIx) : Prop :=
  match todo.dropWhile (c.passes t a) with
  | ix :: rest => c.setpointGoes t a notices ix (.raises rest)
  | [] => c.singleGoes t a notices

/-- The outlets of step 2, when it is reached. -/
def Controller.raisesOf (t : Controller) (a : Addr) : List OutIx := (List.finRange 4).filter fun ix =>
  decide (ix.val < (t.node a).outlets) && ((t.targetAt a ix).map (·.kind)) == some .RAISE
    && ((t.bayAt a ix).map fun b => (t.outlet b).raiseReleased) == some true

/-- The outlets of step 1, when it is reached. -/
def Controller.decreasesOf (t : Controller) (a : Addr) : List OutIx := (List.finRange 4).filter fun ix =>
  decide (ix.val < (t.node a).outlets) && ((t.targetAt a ix).map (·.kind)) == some .DECREASE

/-- Step 1 of a visit with the outlets it has still to send (R130), from `c` to `t`. -/
def Controller.decreasesGo (c t : Controller) (a : Addr) (notices : List NodeNotice) (todo : List OutIx) : Prop :=
  match todo.dropWhile (c.passes t a) with
  | ix :: rest => c.setpointGoes t a notices ix (.decreases rest)
  | [] => c.raisesGo t a notices (t.raisesOf a)

theorem visitGoesOn_polled {c t : Controller} {a : Addr} {notices : List NodeNotice} (h : c.link.stage = .polled) :
    c.visitGoesOn t a notices ↔ c.decreasesGo t a notices (t.decreasesOf a) := by
  unfold Controller.visitGoesOn
  rw [h]
  exact Iff.rfl

theorem visitGoesOn_decreases {c t : Controller} {a : Addr} {notices : List NodeNotice} {todo : List OutIx}
    (h : c.link.stage = .decreases todo) : c.visitGoesOn t a notices ↔ c.decreasesGo t a notices todo := by
  unfold Controller.visitGoesOn
  rw [h]
  exact Iff.rfl

theorem visitGoesOn_raises {c t : Controller} {a : Addr} {notices : List NodeNotice} {todo : List OutIx}
    (h : c.link.stage = .raises todo) : c.visitGoesOn t a notices ↔ c.raisesGo t a notices todo := by
  unfold Controller.visitGoesOn
  rw [h]
  exact Iff.rfl

theorem visitGoesOn_notices {c t : Controller} {a : Addr} {notices : List NodeNotice} (h : c.link.stage = .notices) :
    c.visitGoesOn t a notices ↔ c.noticeGoes t a notices := by
  unfold Controller.visitGoesOn
  rw [h]
  exact Iff.rfl

/-! ### The steps of a visit, as they are taken -/

section
variable {d t : Controller} {a : Addr} (h : d.VisitFrame t a)
include h

theorem frame_bayAt (ix : OutIx) : t.bayAt a ix = d.bayAt a ix := by
  rw [h.blocks]
  rfl

theorem frame_outlet (b : Bay) : t.outlet b = d.outlet b := by
  rw [h.blocks]
  rfl

theorem frame_storage : t.storage = d.storage := by rw [h.blocks]

theorem frame_targetAt (ix : OutIx) : t.targetAt a ix = d.targetAt a ix := by
  rw [h.blocks]
  rfl

theorem frame_kind : (t.node a).kind = (d.node a).kind ∧ (t.node a).outlets = (d.node a).outlets := by
  obtain ⟨_, _, _, _, _, hn⟩ := h.node a
  rw [hn]
  exact ⟨rfl, rfl⟩

theorem frame_decreasesOf : t.decreasesOf a = d.stepOutlets a .DECREASE := by
  refine List.filter_congr fun ix _ => ?_
  unfold Controller.hasTarget Controller.targetAt
  rw [frame_bayAt h, (frame_kind h).2]
  cases d.bayAt a ix with
  | none => simp
  | some b => simp [frame_outlet h, Bool.and_comm]

theorem frame_raisesOf : t.raisesOf a = d.stepOutlets a .RAISE := by
  refine List.filter_congr fun ix _ => ?_
  unfold Controller.hasTarget Controller.targetAt
  rw [frame_bayAt h, (frame_kind h).2]
  cases d.bayAt a ix with
  | none => simp
  | some b =>
    have hkind : (TargetKind.RAISE == TargetKind.DECREASE) = false := rfl
    simp [frame_outlet h, Bool.and_comm, Bool.and_left_comm, hkind]

theorem frame_passes {c : Controller} (hs : d.link.sentOutlets = c.link.sentOutlets) : c.passes t a = fun ix => !d.owed a ix := by
  funext ix
  unfold Controller.passes
  rw [frame_targetAt h, ← hs]
  change _ = !((d.targetAt a ix).isSome && !(d.link.sentOutlets.contains ix))
  cases d.targetAt a ix <;> simp

end

section
variable {d : Controller} {a : Addr}

theorem singleStep_battery {w : Int} (hk : (d.node a).kind = some .BATTERY) (hw : d.storage.battery.pending = some w) : d.singleStep a =
    ((d.updNode a fun n => { n with outBattery := some w }).updLink fun l => { l with stage := .notices }).send (.setBattery a w) := by
  unfold Controller.singleStep
  rw [hk]
  dsimp only
  rw [hw]

theorem singleStep_canopy {cap : Cap} (hk : (d.node a).kind = some .CANOPY) (hcap : d.storage.canopy.pending = some cap) : d.singleStep a =
    ((d.updNode a fun n => { n with outCanopy := some cap }).updLink fun l => { l with stage := .notices }).send (.setCanopy a cap) := by
  unfold Controller.singleStep
  rw [hk]
  dsimp only
  rw [hcap]

theorem singleStep_notice (hb : ∀ w, ¬ ((d.node a).kind = some .BATTERY ∧ d.storage.battery.pending = some w))
    (hc : ∀ cap, ¬ ((d.node a).kind = some .CANOPY ∧ d.storage.canopy.pending = some cap)) : d.singleStep a = d.noticeStep a := by
  unfold Controller.singleStep
  split
  · next hk =>
    split
    · next w hw => exact absurd ⟨hk, hw⟩ (hb w)
    · rfl
  · next hk =>
    split
    · next cap hcap => exact absurd ⟨hk, hcap⟩ (hc cap)
    · rfl
  · rfl

/-- Step 3 of a visit sends the battery's or the canopy's pending value, or it is passed (R130). -/
theorem singleStep_cases (d : Controller) (a : Addr) : (∃ w, (d.node a).kind = some .BATTERY ∧ d.storage.battery.pending = some w)
    ∨ (∃ cap, (d.node a).kind = some .CANOPY ∧ d.storage.canopy.pending = some cap)
    ∨ ((∀ w, ¬ ((d.node a).kind = some .BATTERY ∧ d.storage.battery.pending = some w))
      ∧ ∀ cap, ¬ ((d.node a).kind = some .CANOPY ∧ d.storage.canopy.pending = some cap)) := by
  rw [← not_exists, ← not_exists, ← not_or, ← or_assoc]
  exact em _

end

section
variable {c t : Controller} {a : Addr} {notices : List NodeNotice}

theorem singleGoes_battery {w : Int} (hk : (t.node a).kind = some .BATTERY) (hw : t.storage.battery.pending = some w) :
    c.singleGoes t a notices = (t.sends (.setBattery a w) ∧ (t.node a).outBattery = some w ∧ t.link.stage = .notices
      ∧ (t.node a).notices = notices) := by
  unfold Controller.singleGoes
  rw [hk, hw]

theorem singleGoes_canopy {cap : Cap} (hk : (t.node a).kind = some .CANOPY) (hcap : t.storage.canopy.pending = some cap) :
    c.singleGoes t a notices = (t.sends (.setCanopy a cap) ∧ (t.node a).outCanopy = some cap ∧ t.link.stage = .notices
      ∧ (t.node a).notices = notices) := by
  unfold Controller.singleGoes
  rw [hk, hcap]

theorem singleGoes_notice (hb : ∀ w, ¬ ((t.node a).kind = some .BATTERY ∧ t.storage.battery.pending = some w))
    (hc : ∀ cap, ¬ ((t.node a).kind = some .CANOPY ∧ t.storage.canopy.pending = some cap)) :
    c.singleGoes t a notices = c.noticeGoes t a notices := by
  unfold Controller.singleGoes
  split
  · next hk hw => exact absurd ⟨hk, hw⟩ (hb _)
  · next hk hcap => exact absurd ⟨hk, hcap⟩ (hc _)
  · rfl

end

section
variable {d : Controller} {a : Addr}

theorem noticeStep_nil (h : (d.node a).notices = []) : d.noticeStep a = d.visitFrom (a.val + 1) := by
  unfold Controller.noticeStep
  rw [h]

theorem noticeStep_cons {e : NodeNotice} {rest : List NodeNotice} (h : (d.node a).notices = e :: rest) : d.noticeStep a =
    ((d.updNode a fun m => { m with notices := rest }).updLink fun l => { l with stage := .notices }).send (.notice a e) := by
  unfold Controller.noticeStep
  rw [h]

end

/-- The visit to a node, of a controller whose link stands in the visit as another's does. -/
structure Controller.InVisit (c d : Controller) : Prop where
  stage : d.link.stage = c.link.stage
  sent : d.link.sentOutlets = c.link.sentOutlets
  probe : d.link.probe = c.link.probe
  alive : d.cycleAlive

section
variable {c d : Controller} (h : c.InVisit d) (a : Addr)
include h

theorem noticeStep_goes : c.noticeGoes (d.noticeStep a) a (d.node a).notices ∧ d.VisitFrame (d.noticeStep a) a := by
  cases hn : (d.node a).notices with
  | nil =>
    rw [noticeStep_nil hn]
    obtain ⟨hgoes, hflags⟩ := visitFrom_goesOn h.alive h.probe.symm (a.val + 1)
    obtain ⟨u, hu⟩ := hflags.node a
    exact ⟨⟨by rw [hu]; exact hn, hgoes⟩, visitFrame_of_flags hflags a⟩
  | cons e rest =>
    rw [noticeStep_cons hn]
    exact ⟨⟨rfl, congrArg Node.notices (updNode_node_self d a fun n => { n with notices := rest }), rfl⟩,
      visitFrame_of_updNode ⟨_, _, _, rest, rfl⟩ (fun _ _ => rfl) .notices d.link.sentOutlets _⟩

theorem singleStep_goes : c.singleGoes (d.singleStep a) a (d.node a).notices ∧ d.VisitFrame (d.singleStep a) a := by
  rcases singleStep_cases d a with ⟨w, hk, hw⟩ | ⟨cap, hk, hcap⟩ | ⟨hb, hc⟩
  · have hstep := singleStep_battery hk hw
    have hnode := updNode_node_self d a fun n => { n with outBattery := some w }
    have hframe : d.VisitFrame (d.singleStep a) a := by
      rw [hstep]
      exact visitFrame_of_updNode ⟨_, some w, _, _, rfl⟩ (fun _ _ => rfl) .notices d.link.sentOutlets _
    refine ⟨?_, hframe⟩
    rw [singleGoes_battery ((frame_kind hframe).1.trans hk) ((congrArg (·.battery.pending) (frame_storage hframe)).trans hw), hstep]
    exact ⟨rfl, congrArg Node.outBattery hnode, rfl, (congrArg Node.notices hnode :)⟩
  · have hstep := singleStep_canopy hk hcap
    have hnode := updNode_node_self d a fun n => { n with outCanopy := some cap }
    have hframe : d.VisitFrame (d.singleStep a) a := by
      rw [hstep]
      exact visitFrame_of_updNode ⟨_, _, some cap, _, rfl⟩ (fun _ _ => rfl) .notices d.link.sentOutlets _
    refine ⟨?_, hframe⟩
    rw [singleGoes_canopy ((frame_kind hframe).1.trans hk) ((congrArg (·.canopy.pending) (frame_storage hframe)).trans hcap), hstep]
    exact ⟨rfl, congrArg Node.outCanopy hnode, rfl, (congrArg Node.notices hnode :)⟩
  · rw [singleStep_notice hb hc]
    obtain ⟨hnotice, hframe⟩ := noticeStep_goes h a
    refine ⟨?_, hframe⟩
    rw [singleGoes_notice]
    · exact hnotice
    · rwa [(frame_kind hframe).1, frame_storage hframe]
    · rwa [(frame_kind hframe).1, frame_storage hframe]

theorem sendOutlet_goes {ix : OutIx} (ho : d.owed a ix = true) (st : Stage) :
    c.setpointGoes (d.sendOutlet a ix st) a (d.node a).notices ix st ∧ d.VisitFrame (d.sendOutlet a ix st) a := by
  unfold Controller.owed at ho
  rw [Bool.and_eq_true, Bool.not_eq_true', Option.isSome_iff_exists] at ho
  obtain ⟨⟨p, hp⟩, hsent⟩ := ho
  obtain ⟨b, hb, hp⟩ := Option.bind_eq_some_iff.mp hp
  have hvalue : d.targetValue a ix = (min p.target (d.bay b).pMax : Nat) := by
    unfold Controller.targetValue
    rw [hb]
    dsimp only
    rw [hp]
    rfl
  have hnode := updNode_node_self d a fun n => { n with outOutlet := n.outOutlet.set ix (some (d.targetValue a ix)) }
  refine ⟨⟨b, hb, p, hp, ?_, ?_, rfl, congrArg (ix :: ·) h.sent, (congrArg Node.notices hnode :)⟩,
    visitFrame_of_updNode ⟨_, _, _, _, rfl⟩ (fun iy hy => Table.get_set_of_ne _ _ fun e => ?_) st (ix :: d.link.sentOutlets) _⟩
  · unfold Controller.sends Controller.sendOutlet
    rw [hvalue]
    rfl
  · refine (congrArg (fun n : Node => n.outOutlet.get ix) hnode).trans ?_
    exact (Table.get_set_self _ _ _).trans (congrArg some hvalue)
  · rw [← e] at hy
    simp [hy] at hsent

theorem raiseStep_goes (todo : List OutIx) :
    c.raisesGo (d.raiseStep a todo) a (d.node a).notices todo ∧ d.VisitFrame (d.raiseStep a todo) a := by
  induction todo with
  | nil => exact singleStep_goes h a
  | cons ix todo ih =>
    unfold Controller.raiseStep
    split
    · next ho =>
      obtain ⟨hgoes, hframe⟩ := sendOutlet_goes h a ho (.raises todo)
      refine ⟨?_, hframe⟩
      unfold Controller.raisesGo
      rw [frame_passes hframe h.sent, List.dropWhile_cons, if_neg (by simp [ho])]
      exact hgoes
    · next ho =>
      obtain ⟨hgoes, hframe⟩ := ih
      refine ⟨?_, hframe⟩
      unfold Controller.raisesGo at hgoes ⊢
      rwa [List.dropWhile_cons, if_pos (by rw [frame_passes hframe h.sent]; simp [ho])]

theorem decreaseStep_goes (todo : List OutIx) :
    c.decreasesGo (d.decreaseStep a todo) a (d.node a).notices todo ∧ d.VisitFrame (d.decreaseStep a todo) a := by
  induction todo with
  | nil =>
    obtain ⟨hgoes, hframe⟩ := raiseStep_goes h a (d.stepOutlets a .RAISE)
    refine ⟨?_, hframe⟩
    change c.raisesGo _ a _ ((d.raiseStep a (d.stepOutlets a .RAISE)).raisesOf a)
    rwa [frame_raisesOf hframe]
  | cons ix todo ih =>
    unfold Controller.decreaseStep
    split
    · next ho =>
      obtain ⟨hgoes, hframe⟩ := sendOutlet_goes h a ho (.decreases todo)
      refine ⟨?_, hframe⟩
      unfold Controller.decreasesGo
      rw [frame_passes hframe h.sent, List.dropWhile_cons, if_neg (by simp [ho])]
      exact hgoes
    · next ho =>
      obtain ⟨hgoes, hframe⟩ := ih
      refine ⟨?_, hframe⟩
      unfold Controller.decreasesGo at hgoes ⊢
      rwa [List.dropWhile_cons, if_pos (by rw [frame_passes hframe h.sent]; simp [ho])]

/-- The visit goes on, with the frame of R130 and leaving alone what no frame touches. -/
theorem visitNext_goes : c.visitGoesOn (d.visitNext a) a (d.node a).notices ∧ d.VisitFrame (d.visitNext a) a := by
  unfold Controller.visitNext
  rw [h.stage]
  cases hst : c.link.stage with
  | polled =>
    obtain ⟨hgoes, hframe⟩ := decreaseStep_goes h a (d.stepOutlets a .DECREASE)
    refine ⟨(visitGoesOn_polled hst).mpr ?_, hframe⟩
    change c.decreasesGo _ a _ ((d.decreaseStep a (d.stepOutlets a .DECREASE)).decreasesOf a)
    rwa [frame_decreasesOf hframe]
  | decreases todo =>
    obtain ⟨hgoes, hframe⟩ := decreaseStep_goes h a todo
    exact ⟨(visitGoesOn_decreases hst).mpr hgoes, hframe⟩
  | raises todo =>
    obtain ⟨hgoes, hframe⟩ := raiseStep_goes h a todo
    exact ⟨(visitGoesOn_raises hst).mpr hgoes, hframe⟩
  | notices =>
    obtain ⟨hgoes, hframe⟩ := noticeStep_goes h a
    exact ⟨(visitGoesOn_notices hst).mpr hgoes, hframe⟩

end

end Sys2Proof.Machine
end

section
/-! SUPPORT. The visits of STOP's final cycle: a frame of a visit follows as in any cycle, or the last visit is over and the link enters IDLE
(R142, R197). -/

namespace Sys2Proof.Machine

/-! ### A change made to every bay, at one of them -/

theorem foldl_at {f : Bay → Controller → Controller} {A B : Controller → Prop} {x : Bay} (before : ∀ y c, y ≠ x → A c → A (f y c))
    (here : ∀ c, A c → B (f x c)) (after : ∀ y c, y ≠ x → B c → B (f y c)) :
    ∀ (l : List Bay) (c : Controller), l.Nodup → x ∈ l → A c → B (l.foldl (fun c b => f b c) c)
  | [], _, _, hx, _ => absurd hx List.not_mem_nil
  | y :: l, c, hl, hx, hc => by
    obtain ⟨hy, hl⟩ := List.nodup_cons.mp hl
    by_cases hxy : y = x
    · rw [hxy] at hy ⊢
      refine List.foldlRecOn (motive := B) l _ (here c hc) fun d hd z hz => after z d (fun e => hy (e ▸ hz)) hd
    · exact foldl_at before here after l _ hl (List.mem_of_ne_of_mem (Ne.symm hxy) hx) (before y c hxy hc)

/-- A change made to every bay comes once to each: what stands of a bay before it, what it makes of that, and what the changes of the other
bays keep. -/
theorem forBays_at {f : Bay → Controller → Controller} {A B : Controller → Prop} {x : Bay} (before : ∀ y c, y ≠ x → A c → A (f y c))
    (here : ∀ c, A c → B (f x c)) (after : ∀ y c, y ≠ x → B c → B (f y c)) {c : Controller} (hc : A c) : B (forBays f c) :=
  foldl_at before here after _ c (List.nodup_finRange 24) (List.mem_finRange x) hc

/-! ### A link loss (R52) -/

/-- An outlet as a link loss leaves it (R52). -/
def Outlet.dark (o : Outlet) : Prop := o.state = .OFFLINE ∧ o.inForce = 0 ∧ o.pending = none ∧ o.session = none

theorem dark_of_alike {o o' : Outlet} (h : o.alike o') (hd : o.dark) : o'.dark := by
  obtain ⟨v, rfl⟩ := (alike_iff _ _).mp h
  exact hd

/-- The end of another bay's session leaves a dark outlet dark. -/
theorem endSession_keeps_dark {c : Controller} {x y : Bay} (hy : x ≠ y) (h : (c.outlet x).dark) (r : EndReason) (st : OutletState) :
    ((c.endSession y r st).outlet x).dark := by
  cases hs : (c.outlet y).session with
  | none => rwa [endSession_none hs]
  | some ss =>
    refine dark_of_alike (endSession_after_release hs r st x hy) ?_
    have hclose : (c.updOutlet y Outlet.closeTail).outlet x = c.outlet x := (updOutlet_outlet c y x _).trans (if_neg (Ne.symm hy))
    cases ss.boundSlot with
    | none => rwa [← hclose] at h
    | some k =>
      obtain ⟨hst, hforce, hp, hsession⟩ := h
      rcases unbind_outlet (c.updOutlet y Outlet.closeTail) k (r == .RESET) .receiptUnbind x with hu | hu
      · exact (congrArg Outlet.dark (hu.trans hclose)).mpr ⟨hst, hforce, hp, hsession⟩
      · rw [hclose] at hu
        refine (congrArg Outlet.dark hu).mpr ⟨hst, hforce, hp, ?_⟩
        show (c.outlet x).session.map _ = none
        rw [hsession]
        rfl

theorem bayLosesLink_keeps_dark {c : Controller} {x y : Bay} (hy : y ≠ x) (h : (c.outlet x).dark) :
    ((c.bayLosesLink y).outlet x).dark := by
  unfold Controller.bayLosesLink
  split
  · refine (congrArg Outlet.dark ((updOutlet_outlet _ y x _).trans (if_neg hy))).mpr ?_
    split
    · exact endSession_keeps_dark (Ne.symm hy) h _ _
    · exact h
  · exact h

theorem bayLosesLink_dark {c : Controller} {x : Bay} (h : (c.bay x).map.valid = true) : ((c.bayLosesLink x).outlet x).dark := by
  unfold Controller.bayLosesLink
  rw [if_pos h]
  have hdark : ∀ d : Controller, (d.outlet x).session = none → (((d.updOutlet x Outlet.loseLink).depart x).outlet x).dark := fun d hd =>
    (congrArg Outlet.dark (updOutlet_outlet_self d x _)).mpr ⟨rfl, rfl, rfl, hd⟩
  split
  · next hs =>
    obtain ⟨ss, hs⟩ := Option.isSome_iff_exists.mp hs
    obtain ⟨sm, v, ch, ho⟩ := endSession_outlet_over hs .LINK_DOWN .OFFLINE
    exact hdark _ (by rw [ho]; rfl)
  · next hs => exact hdark _ (Option.not_isSome_iff_eq_none.mp hs)

theorem bayLosesLink_work (c : Controller) (b : Bay) : c.OutletWork (c.bayLosesLink b) := by
  unfold Controller.bayLosesLink
  split
  · refine outletWork_trans ?_ (outletWork_trans (updOutlet_work _ b _) (depart_work _ b))
    split
    · exact endSession_work c b _ _
    · exact outletWork_refl c
  · exact outletWork_refl c

theorem linkLoss_work (c : Controller) : c.OutletWork c.linkLoss :=
  outletWork_trans (forBays_work (fun b d => bayLosesLink_work d b) c) (judgeRelease_work _)

theorem bayLosesLink_link (c : Controller) (b : Bay) : (c.bayLosesLink b).link = c.link := by
  unfold Controller.bayLosesLink
  split
  · split
    · next hs =>
      obtain ⟨ss, hs⟩ := Option.isSome_iff_exists.mp hs
      exact endSession_link hs .LINK_DOWN .OFFLINE
    · rfl
  · rfl

/-- A link loss tells no node of the sessions that end (R39, R52). -/
theorem linkLoss_link (c : Controller) : c.linkLoss.link = c.link :=
  (judgeRelease_leaves _).2.2.2.1.trans
    (forBays_keeps (fun d => d.link = c.link) (fun b d hd => (bayLosesLink_link d b).trans hd) rfl)

theorem linkLoss_dark {c : Controller} {x : Bay} (h : (c.bay x).map.valid = true) : (c.linkLoss.outlet x).dark := by
  unfold Controller.linkLoss
  refine dark_of_alike ((alike_iff _ _).mpr (judgeRelease_outlet_eq _ x)) ?_
  refine forBays_at (A := fun d => (d.bay x).map.valid = true) (B := fun d => (d.outlet x).dark) (fun y d _ hd => ?_)
    (fun d hd => bayLosesLink_dark hd) (fun y d hy hd => bayLosesLink_keeps_dark hy hd) h
  rwa [bay_eq_of_settings (bayLosesLink_work d y).quiet.2.1]

/-! ### The entry to IDLE -/

/-- The entry to IDLE up to the outlets' loss of the link (R124, R52). -/
def Controller.unlinked (c : Controller) : Controller := (c.updLink fun l => (l.quiet .IDLE).emptied).linkLoss

section
variable (c : Controller)

theorem enterIdle_eq : c.enterIdle = (c.unlinked.updStorage Storage.loseLink).answerLate 0x61 .OK .none := rfl

theorem unlinked_work : (c.updLink fun l => (l.quiet .IDLE).emptied).OutletWork c.unlinked := linkLoss_work _

theorem unlinked_link : c.unlinked.link = (c.link.quiet .IDLE).emptied := linkLoss_link _

theorem unlinked_dark {b : Bay} (h : (c.bay b).map.valid = true) : (c.unlinked.outlet b).dark :=
  linkLoss_dark (c := c.updLink fun l => (l.quiet .IDLE).emptied) h

theorem enterIdle_linkIdle : c.enterIdle.linkIdle := by
  have hset := (unlinked_work c).quiet.2.1
  have hlink := unlinked_link c
  have hdark := fun b => unlinked_dark c (b := b)
  rw [enterIdle_eq]
  generalize c.unlinked = d at hset hlink hdark
  refine ⟨congrArg Link.state hlink, fun a => ?_, congrArg Link.exchange hlink, congrArg (·.window.phase) hlink, fun b hb => ?_,
    rfl, rfl, rfl, rfl, rfl, rfl⟩
  · exact (congrArg (fun l : Link => l.nodes.get a) hlink).trans (Table.get_replicate _ _)
  · exact hdark b ((congrArg (·.map.valid) (bay_eq_of_settings hset b)).symm.trans hb)

theorem enterIdle_keeps : c.enterIdle.run = c.run ∧ c.enterIdle.settings = c.settings ∧ c.enterIdle.lines = c.lines := by
  obtain ⟨-, hset, hlines, hrun⟩ := (unlinked_work c).quiet
  rw [enterIdle_eq]
  generalize c.unlinked = d at hset hlines hrun
  exact ⟨hrun, hset, hlines⟩

/-- STOP is answered at the entry to IDLE (R197). -/
theorem enterIdle_answers (h : c.port.buffer = .PENDING 0x61) : c.enterIdle.holds 0x61 .OK .none := by
  have hbuffer := (unlinked_work c).buffer.trans h
  rw [enterIdle_eq]
  generalize c.unlinked = d at hbuffer
  unfold Controller.holds Controller.answerLate Port.answerLate
  rw [if_pos]
  · rfl
  · exact hbuffer

end

/-! ### A frame of a visit, or the end of the visits -/

/-- A continuation of the visits sends a frame of a visit, in the final cycle as in any, or it passes to what follows the last visit. -/
def Controller.visitsOrEnds (go : Controller → Controller) (c : Controller) : Prop :=
  ((go c).visits ∧ go c.final = (go c).final) ∨ (go c = c.afterVisits ∧ go c.final = c.final.afterVisits)

section
variable (c : Controller) (a : Addr)

theorem visits_send_poll (x : Addr) : (c.send (.poll x)).visits := ⟨_, rfl, .inl ⟨x, rfl⟩⟩

theorem visits_send_notice (n : NodeNotice) : (c.send (.notice a n)).visits := ⟨_, rfl, .inr (.inr ⟨a, n, rfl⟩)⟩

theorem visits_send_setpoint {f : Sent} (h : f.setpointTo.isSome = true) : (c.send f).visits := ⟨_, rfl, .inr (.inl h)⟩

theorem visitFrom_visitsOrEnds (start : Nat) : c.visitsOrEnds (Controller.visitFrom start) := by
  cases h : c.link.nodes.lowest fun i n => decide (start ≤ i) && n.known with
  | some x =>
    unfold Controller.visitsOrEnds
    rw [visitFrom_poll h, visitFrom_poll (c := c.final) h]
    exact .inl ⟨visits_send_poll _ x, rfl⟩
  | none => exact .inr ⟨visitFrom_over h, visitFrom_over (c := c.final) h⟩

theorem noticeStep_visitsOrEnds : c.visitsOrEnds (Controller.noticeStep a) := by
  unfold Controller.visitsOrEnds
  cases h : (c.node a).notices with
  | nil =>
    rw [noticeStep_nil h, noticeStep_nil (d := c.final) h]
    exact visitFrom_visitsOrEnds c _
  | cons e rest =>
    rw [noticeStep_cons h, noticeStep_cons (d := c.final) h]
    exact .inl ⟨visits_send_notice _ a e, rfl⟩

theorem singleStep_visitsOrEnds : c.visitsOrEnds (Controller.singleStep a) := by
  unfold Controller.visitsOrEnds
  rcases singleStep_cases c a with ⟨w, hk, hw⟩ | ⟨cap, hk, hcap⟩ | ⟨hb, hc⟩
  · rw [singleStep_battery hk hw, singleStep_battery (d := c.final) hk hw]
    exact .inl ⟨visits_send_setpoint _ rfl, rfl⟩
  · rw [singleStep_canopy hk hcap, singleStep_canopy (d := c.final) hk hcap]
    exact .inl ⟨visits_send_setpoint _ rfl, rfl⟩
  · rw [singleStep_notice hb hc, singleStep_notice (d := c.final) hb hc]
    exact noticeStep_visitsOrEnds c a

theorem raiseStep_visitsOrEnds (todo : List OutIx) : c.visitsOrEnds fun d => d.raiseStep a todo := by
  induction todo with
  | nil => exact singleStep_visitsOrEnds c a
  | cons ix todo ih =>
    unfold Controller.visitsOrEnds Controller.raiseStep
    dsimp only
    rw [show c.final.owed a ix = c.owed a ix from rfl]
    split
    · exact .inl ⟨visits_send_setpoint _ rfl, rfl⟩
    · exact ih

theorem decreaseStep_visitsOrEnds (todo : List OutIx) : c.visitsOrEnds fun d => d.decreaseStep a todo := by
  induction todo with
  | nil => exact raiseStep_visitsOrEnds c a (c.stepOutlets a .RAISE)
  | cons ix todo ih =>
    unfold Controller.visitsOrEnds Controller.decreaseStep
    dsimp only
    rw [show c.final.owed a ix = c.owed a ix from rfl]
    split
    · exact .inl ⟨visits_send_setpoint _ rfl, rfl⟩
    · exact ih

theorem visitNext_visitsOrEnds : c.visitsOrEnds (Controller.visitNext a) := by
  unfold Controller.visitsOrEnds Controller.visitNext
  rw [show c.final.link.stage = c.link.stage from rfl]
  cases c.link.stage with
  | polled => exact decreaseStep_visitsOrEnds c a (c.stepOutlets a .DECREASE)
  | decreases todo => exact decreaseStep_visitsOrEnds c a todo
  | raises todo => exact raiseStep_visitsOrEnds c a todo
  | notices => exact noticeStep_visitsOrEnds c a

end

/-! ### The end of the visits in an ordinary cycle -/

theorem not_visits_of_exchange {c : Controller} (h : c.link.exchange = none) : ¬ c.visits := by
  rintro ⟨ex, hex, -⟩
  exact absurd (h.symm.trans hex) (by simp)

theorem enterDown_not_visits (c : Controller) : ¬ c.enterDown.visits := by
  have hlink := linkLoss_link (((c.updLink (Link.quiet .DOWN)).setFault .LINK_DOWN).raise .linkDown)
  unfold Controller.enterDown
  dsimp only
  generalize Controller.linkLoss _ = d at hlink ⊢
  exact not_visits_of_exchange (congrArg Link.exchange hlink)

theorem probeStep_not_visits (c : Controller) : ¬ c.probeStep.visits := by
  unfold Controller.probeStep
  split
  · rintro ⟨_, ⟨⟩, ⟨_, ⟨⟩⟩ | ⟨⟨⟩⟩ | ⟨_, _, ⟨⟩⟩⟩
  · rintro ⟨_, ⟨⟩, ⟨_, ⟨⟩⟩ | ⟨⟨⟩⟩ | ⟨_, _, ⟨⟩⟩⟩

theorem afterVisits_not_visits {c : Controller} (h : c.link.finalCycle = false) : ¬ c.afterVisits.visits := by
  unfold Controller.afterVisits Controller.collapseStep
  rw [h, if_neg Bool.false_ne_true]
  dsimp only
  split
  · exact enterDown_not_visits _
  · exact probeStep_not_visits _

/-! ### A row of the final cycle -/

/-- A row that ends the exchange in progress, and from which the visits go on or end, does in the final cycle what it does in any. -/
theorem finalAsAny_of {s : State} {i : Instr} {e : Controller} {go : Controller → Controller}
    (hany : exec i (s.inFinal false) = .next (s.put (e.exchangeDone go))) (hfinal : exec i s = .next (s.put (e.final.exchangeDone go)))
    (ho : e.ordinaryCycle) (hset : e.settings = s.ctl.settings) (hlines : e.lines = s.ctl.lines) (hrun : e.run = s.ctl.run)
    (hbuffer : e.port.buffer = s.ctl.port.buffer) (hgo : ∀ c : Controller, c.visitsOrEnds go) : s.finalAsAny i := by
  obtain ⟨-, hstop, hrestart, hphase, hcycle⟩ := ho
  have hpending : e.link.window.phase ≠ .GRANT_PENDING := by rw [hphase]; decide
  rw [exchangeDone_goes_on go hstop hrestart hpending] at hany
  rw [exchangeDone_goes_on go (c := e.final) hstop hrestart hpending] at hfinal
  have hover := afterVisits_final (c := (e.updLink fun l => { l with exchange := none }).final) rfl
  refine ⟨_, _, hany, hfinal, ?_⟩
  rcases hgo (e.updLink fun l => { l with exchange := none }) with ⟨hvisits, hsame⟩ | ⟨hends, hsame⟩
  · exact ⟨fun _ => congrArg s.put hsame, fun h => absurd hvisits h⟩
  · refine ⟨fun h => ?_, fun _ => ?_⟩
    · exact absurd h ((congrArg (fun c : Controller => ¬ c.visits) hends).mpr (afterVisits_not_visits hcycle))
    · have ht : go (e.final.updLink fun l => { l with exchange := none })
          = (e.updLink fun l => { l with exchange := none }).final.enterIdle := hsame.trans hover
      rw [ht]
      obtain ⟨hr, hse, hl⟩ := enterIdle_keeps (e.updLink fun l => { l with exchange := none }).final
      exact ⟨enterIdle_linkIdle _, hr.trans hrun, hse.trans hset, hl.trans hlines, fun hb => enterIdle_answers _ (hbuffer.trans hb)⟩

end Sys2Proof.Machine
end

section
/-! SUPPORT. The visit goes on after a SET_ACK, its timeout or a notice (R131, R132). -/

namespace Sys2Proof.Machine

/-! ### What taking a reply leaves alone -/

/-- What the taking of a reply leaves alone: of the link everything but node table and all-silent count, settings, lines and run control, and
the response buffer. -/
structure Controller.CycleKept (c d : Controller) : Prop where
  link : d.link = { c.link with nodes := d.link.nodes, allSilent := d.link.allSilent }
  settings : d.settings = c.settings
  lines : d.lines = c.lines
  run : d.run = c.run
  buffer : d.port.buffer = c.port.buffer

theorem cycleKept_trans {c d e : Controller} (h : c.CycleKept d) (h' : d.CycleKept e) : c.CycleKept e where
  link := by rw [h'.link, h.link]
  settings := h'.settings.trans h.settings
  lines := h'.lines.trans h.lines
  run := h'.run.trans h.run
  buffer := h'.buffer.trans h.buffer

theorem cycleKept_of_work {c d : Controller} (h : c.OutletWork d) : c.CycleKept d where
  link := by rw [h.link]
  settings := h.quiet.2.1
  lines := h.quiet.2.2.1
  run := h.quiet.2.2.2
  buffer := h.buffer

section
variable (c : Controller)

theorem cycleKept_updNode (a : Addr) (f : Node → Node) : c.CycleKept (c.updNode a f) := ⟨rfl, rfl, rfl, rfl, rfl⟩
theorem cycleKept_updStorage (f : Storage → Storage) : c.CycleKept (c.updStorage f) := ⟨rfl, rfl, rfl, rfl, rfl⟩
theorem cycleKept_raise (x : Cause) : c.CycleKept (c.raise x) := ⟨rfl, rfl, rfl, rfl, rfl⟩

end

theorem cycleKept_ordinary {c d : Controller} (h : c.CycleKept d) (ho : c.ordinaryCycle) : d.ordinaryCycle := by
  unfold Controller.ordinaryCycle
  rw [h.link]
  exact ho

/-! ### After an exchange of an ordinary cycle -/

/-- A reply taken in an ordinary cycle: the visit goes on, and its frame leaves alone what the taking of the reply made. -/
theorem visit_after_exchange {c e : Controller} (ho : c.ordinaryCycle) (hk : c.CycleKept e) (hp : ∃ x, (e.node x).state = .PRESENT) (a : Addr) :
    c.visitGoesOn (e.exchangeDone (Controller.visitNext a)) a (e.node a).notices ∧ e.VisitFrame (e.exchangeDone (Controller.visitNext a)) a := by
  obtain ⟨-, hstop, hrestart, hphase, hcycle⟩ := cycleKept_ordinary hk ho
  rw [exchangeDone_goes_on _ hstop hrestart (by rw [hphase]; decide)]
  have hvisit : c.InVisit (e.updLink fun l => { l with exchange := none }) :=
    ⟨(congrArg Link.stage hk.link :), (congrArg Link.sentOutlets hk.link :), (congrArg Link.probe hk.link :), hcycle, hp⟩
  obtain ⟨hgoes, hframe⟩ := visitNext_goes hvisit a
  exact ⟨hgoes, hframe.blocks, hframe.node, hframe.sent⟩

/-! ### A mismatch of an echo -/

/-- A notice that is raised on a condition. -/
def Controller.raiseIf (p : Prop) [Decidable p] (x : Cause) (c : Controller) : Controller := if p then c.raise x else c

section
variable (p : Prop) [Decidable p] (x : Cause) (c : Controller)

theorem raiseIf_eq : c.raiseIf p x = { c with port := (c.raiseIf p x).port } := by
  unfold Controller.raiseIf
  split <;> rfl

theorem raiseIf_raised (h : p) : (c.raiseIf p x).raised x := by
  unfold Controller.raiseIf
  rw [if_pos h]
  exact raised_raise c x

theorem raiseIf_port (h : ¬ p) : (c.raiseIf p x).port = c.port := by
  unfold Controller.raiseIf
  rw [if_neg h]

theorem cycleKept_raiseIf : c.CycleKept (c.raiseIf p x) := by
  unfold Controller.raiseIf
  split
  · exact cycleKept_raise c x
  · exact ⟨rfl, rfl, rfl, rfl, rfl⟩

end

/-! ### The echoes (R131) -/

section
variable {c : Controller} {a : Addr}

/-- The echo of an outlet's SETPOINT, at the bay of the outlet. -/
def Controller.echoOutlet (a : Addr) (ix : OutIx) (sent echo : Int) (c : Controller) : Controller :=
  let c1 := c.updNode a fun n => { n with outOutlet := n.outOutlet.set ix none }
  match c1.bayAt a ix with
  | some b => c1.outletEcho b sent echo
  | none => c1

/-- The echo of a battery's SETPOINT. -/
def Controller.echoBattery (a : Addr) (sent echo : Int) (c : Controller) : Controller :=
  ((c.updNode a fun n => { n with outBattery := none }).updStorage fun st =>
    { st with battery := st.battery.echo sent echo }).raiseIf (echo ≠ sent) .nodeAckMismatch

/-- The echo of a canopy's SETPOINT. -/
def Controller.echoCanopy (a : Addr) (sent echo : Cap) (c : Controller) : Controller :=
  ((c.updNode a fun n => { n with outCanopy := none }).updStorage fun st =>
    { st with canopy := st.canopy.echo sent echo }).raiseIf (echo ≠ sent) .nodeAckMismatch

theorem takeAck_outlet {ix : OutIx} {w sent : Int} (h : c.link.awaited = some (.setOutlet a ix w))
    (hs : (c.node a).outOutlet.get ix = some sent) (echo : Int) :
    c.takeAck a (.outlet (ix.val + 1) echo) = some (c.echoOutlet a ix sent echo) := by
  unfold Controller.takeAck
  rw [h]
  dsimp only
  rw [if_pos ⟨rfl, outIxOf_succ ix⟩, Controller.outletAck, hs]
  rfl

theorem takeAck_battery {w sent : Int} (h : c.link.awaited = some (.setBattery a w)) (hs : (c.node a).outBattery = some sent) (echo : Int) :
    c.takeAck a (.battery echo) = some (c.echoBattery a sent echo) := by
  unfold Controller.takeAck
  rw [h]
  dsimp only
  rw [if_pos rfl, Controller.batteryAck, hs]
  rfl

theorem takeAck_canopy {w sent : Cap} (h : c.link.awaited = some (.setCanopy a w)) (hs : (c.node a).outCanopy = some sent) (echo : Cap) :
    c.takeAck a (.canopy echo) = some (c.echoCanopy a sent echo) := by
  unfold Controller.takeAck
  rw [h]
  dsimp only
  rw [if_pos rfl, Controller.canopyAck, hs]
  rfl

end

section
variable (c : Controller) (a : Addr)

theorem echoOutlet_final (ix : OutIx) (sent echo : Int) : c.final.echoOutlet a ix sent echo = (c.echoOutlet a ix sent echo).final := by
  unfold Controller.echoOutlet
  dsimp only
  rw [updNode_final]
  generalize c.updNode a _ = d
  rw [show d.final.bayAt a ix = d.bayAt a ix from rfl]
  cases d.bayAt a ix with
  | none => rfl
  | some b => exact outletEcho_mark d Link.inFinal id b sent echo

theorem echoBattery_final (sent echo : Int) : c.final.echoBattery a sent echo = (c.echoBattery a sent echo).final := by
  unfold Controller.echoBattery Controller.raiseIf
  split <;> rfl

theorem echoCanopy_final (sent echo : Cap) : c.final.echoCanopy a sent echo = (c.echoCanopy a sent echo).final := by
  unfold Controller.echoCanopy Controller.raiseIf
  split <;> rfl

theorem outletEcho_work (b : Bay) (sent echo : Int) : c.OutletWork (c.outletEcho b sent echo) := by
  have hecho : c.OutletWork (c.updOutlet b (Outlet.takeEcho echo)).judgeRelease :=
    outletWork_trans (updOutlet_work c b _) (judgeRelease_work _)
  unfold Controller.outletEcho
  dsimp only
  split
  · exact outletWork_trans hecho (raise_work _ (by decide))
  · exact hecho

theorem cycleKept_echoOutlet (ix : OutIx) (sent echo : Int) : c.CycleKept (c.echoOutlet a ix sent echo) := by
  refine cycleKept_trans (cycleKept_updNode c a fun n => { n with outOutlet := n.outOutlet.set ix none }) ?_
  unfold Controller.echoOutlet
  dsimp only
  split
  · exact cycleKept_of_work (outletEcho_work _ _ sent echo)
  · exact ⟨rfl, rfl, rfl, rfl, rfl⟩

theorem cycleKept_echoBattery (sent echo : Int) : c.CycleKept (c.echoBattery a sent echo) :=
  cycleKept_trans (cycleKept_updNode c a _) (cycleKept_trans (cycleKept_updStorage _ _) (cycleKept_raiseIf _ _ _))

theorem cycleKept_echoCanopy (sent echo : Cap) : c.CycleKept (c.echoCanopy a sent echo) :=
  cycleKept_trans (cycleKept_updNode c a _) (cycleKept_trans (cycleKept_updStorage _ _) (cycleKept_raiseIf _ _ _))

end

/-! ### The rows -/

section
variable {s : State} (htaking : s.ctl.taking = true)
include htaking

theorem exec_setAck {a : Addr} {body : AckBody} {e : Controller} (h : s.ctl.takeAck a body = some e) :
    exec (.setAck a body) s = .next (s.put (e.exchangeDone (Controller.visitNext a))) := by
  show execSetAck a body s = _
  simp only [execSetAck, event_taking _ htaking, h, State.put]

theorem exec_setAckTimeout {f : Sent} {a : Addr} (h : s.ctl.link.awaited = some f) (hf : f.setpointTo = some a) :
    exec .setAckTimeout s = .next (s.put ((s.ctl.updNode a f.forget).exchangeDone (Controller.visitNext a))) := by
  show execSetAckTimeout s = _
  simp only [execSetAckTimeout, event_taking _ htaking, h, hf, State.put]

theorem exec_noticeSent {ex : Exchange} {a : Addr} {n : NodeNotice} (h : s.ctl.link.exchange = some ex) (hw : ex.waiting = none)
    (hs : ex.sent = .notice a n) : exec .frameSent s = .next (s.put (s.ctl.exchangeDone (Controller.visitNext a))) := by
  show execFrameSent s = _
  simp only [execFrameSent, event_taking _ htaking, h, hw, hs]
  rfl

end

end Sys2Proof.Machine
end

section
/-! SUPPORT. SET_ACK, its timeout, and a notice that has been sent (R131, R132). -/

namespace Sys2Proof.Machine

/-! ### A row that ends an exchange of the visits -/

/-- A reply of the visits is taken in STOP's final cycle as in any (R142). -/
theorem finalAsAny_of_take {s : State} {i : Instr} {take go : Controller → Controller} (hl : s.ctl.lastCycle)
    (hany : exec i (s.inFinal false) = .next (s.put ((take (s.inFinal false).ctl).exchangeDone go)))
    (hfinal : exec i s = .next (s.put ((take s.ctl).exchangeDone go))) (htake : ∀ c : Controller, take c.final = (take c).final)
    (hkept : ∀ c : Controller, c.CycleKept (take c)) (hgo : ∀ c : Controller, c.visitsOrEnds go) : s.finalAsAny i := by
  obtain ⟨hrunning, hstop, hrestart, hphase, hcycle⟩ := hl
  have hk := hkept (s.inFinal false).ctl
  have hsame : take s.ctl = (take (s.inFinal false).ctl).final := (congrArg take (ctl_eq_final hcycle)).trans (htake _)
  rw [hsame] at hfinal
  exact finalAsAny_of hany hfinal (cycleKept_ordinary hk ⟨hrunning, hstop, hrestart, hphase, rfl⟩) hk.settings hk.lines hk.run hk.buffer hgo

/-- In an ordinary cycle such a row lets the visit go on from what the taking of the reply made. -/
theorem visit_of_take {s : State} {i : Instr} {e : Controller} {a : Addr}
    (hexec : exec i s = .next (s.put (e.exchangeDone (Controller.visitNext a)))) (ho : s.ctl.ordinaryCycle) (hk : s.ctl.CycleKept e)
    (hp : (e.node a).state = .PRESENT) :
    ∃ t, exec i s = .next t ∧ s.ctl.visitGoesOn t.ctl a (e.node a).notices ∧ e.VisitFrame t.ctl a :=
  ⟨_, hexec, visit_after_exchange ho hk ⟨a, hp⟩ a⟩

/-- A row of the visits whose taking changes of the visited node an outstanding setpoint at most. -/
theorem visit_of_forget {s : State} {i : Instr} {a : Addr} {e : Controller} {f : Node → Node} (ho : s.ctl.ordinaryCycle)
    (hp : (s.ctl.node a).state = .PRESENT) (hexec : exec i s = .next (s.put (e.exchangeDone (Controller.visitNext a))))
    (hk : s.ctl.CycleKept e) (hnode : e.node a = f (s.ctl.node a)) (hf : ∀ n, (f n).state = n.state ∧ (f n).notices = n.notices) :
    ∃ t, exec i s = .next t ∧ s.ctl.visitGoesOn t.ctl a (s.ctl.node a).notices ∧ e.VisitFrame t.ctl a := by
  obtain ⟨hstate, hnotices⟩ := hf (s.ctl.node a)
  rw [← hnode] at hstate hnotices
  rw [← hnotices]
  exact visit_of_take hexec ho hk (hstate.trans hp)

theorem visitFrame_blocks {c t : Controller} {a : Addr} (h : c.VisitFrame t a) : t.credit = c.credit ∧ t.outlets = c.outlets
    ∧ t.pool = c.pool ∧ t.port = c.port ∧ c.quietBlocks t := by
  rw [h.blocks]
  exact ⟨rfl, rfl, rfl, rfl, rfl, rfl, rfl, rfl⟩

/-! ### The echo at an outlet (R131) -/

section
variable (c : Controller) (b : Bay) (sent echo : Int)

theorem outletEcho_eq : c.outletEcho b sent echo =
    ((c.updOutlet b (Outlet.takeEcho echo)).judgeRelease).raiseIf (echo ≠ sent) .outletAckMismatch := rfl

theorem outletEcho_outlet : ∃ v ch, (c.outletEcho b sent echo).outlet b = { c.outlet b with
    inForce := echo, pending := (c.outlet b).pending.bind fun p => pendingFor echo p.target, raiseReleased := v, changed := ch } := by
  obtain ⟨v, hv⟩ := judgeRelease_outlet_eq (c.updOutlet b (Outlet.takeEcho echo)) b
  obtain ⟨w, hw⟩ := takeEcho_eq (c.outlet b) echo
  rw [outletEcho_eq, raiseIf_eq]
  refine ⟨v, ((c.outlet b).change (Outlet.takeEcho echo)).changed, hv.trans ?_⟩
  rw [updOutlet_outlet_self, Outlet.change, hw]

theorem outletEcho_outletsBut : c.outletsBut b (c.outletEcho b sent echo) := by
  rw [outletEcho_eq, raiseIf_eq]
  exact outletsBut_trans (updOutlet_outletsBut c b _) (judgeRelease_outletsBut _ b)

theorem outletEcho_leaves : (c.outletEcho b sent echo).credit = c.credit ∧ (c.outletEcho b sent echo).pool = c.pool
    ∧ (c.outletEcho b sent echo).link = c.link ∧ c.quietBlocks (c.outletEcho b sent echo) := by
  obtain ⟨hcredit, hpool, hst, hlink, hset, -, hlines, hrun⟩ := judgeRelease_leaves (c.updOutlet b (Outlet.takeEcho echo))
  rw [outletEcho_eq, raiseIf_eq]
  exact ⟨hcredit, hpool, hlink, hst, hset, hlines, hrun⟩

theorem outletEcho_port (h : echo = sent) : (c.outletEcho b sent echo).port = c.port := by
  rw [outletEcho_eq, raiseIf_port _ _ _ (not_not.mpr h)]
  exact (judgeRelease_leaves _).2.2.2.2.2.1

end

/-- A node without the outstanding setpoint of an outlet. -/
def Node.clearOutlet (ix : OutIx) (n : Node) : Node := { n with outOutlet := n.outOutlet.set ix none }

theorem echoOutlet_of_bay {c : Controller} {a : Addr} {ix : OutIx} {b : Bay} (h : c.bayAt a ix = some b) (sent echo : Int) :
    c.echoOutlet a ix sent echo = (c.updNode a (Node.clearOutlet ix)).outletEcho b sent echo := by
  unfold Controller.echoOutlet
  dsimp only
  rw [show (c.updNode a _).bayAt a ix = some b from h]
  rfl

theorem forget_keeps (f : Sent) (n : Node) : (f.forget n).state = n.state ∧ (f.forget n).notices = n.notices := by
  cases f <;> exact ⟨rfl, rfl⟩

section
variable {s : State} {a : Addr} (ht : s.ctl.taking = true)
include ht

/-- Every SET_ACK that is a good reply, its timeout, and the end of a notice, in the final cycle (R142). -/
theorem setpointRows_final (hl : s.ctl.lastCycle) {i : Instr} (h : (s.ctl.repliesTo i ∧ ∃ a body, i = .setAck a body)
    ∨ (s.ctl.endsExchange i ∧ i = .setAckTimeout)
    ∨ (i = .frameSent ∧ ∃ ex a n, s.ctl.link.exchange = some ex ∧ ex.waiting = none ∧ ex.sent = .notice a n)) : s.finalAsAny i := by
  have hvisit := fun (x : Addr) (c : Controller) => visitNext_visitsOrEnds c x
  have hack : ∀ (x : Addr) (body : AckBody) (take : Controller → Controller),
      (s.inFinal false).ctl.takeAck x body = some (take (s.inFinal false).ctl) → s.ctl.takeAck x body = some (take s.ctl) →
      (∀ c : Controller, take c.final = (take c).final) → (∀ c : Controller, c.CycleKept (take c)) → s.finalAsAny (.setAck x body) := fun x body take hany hfinal htake hkept =>
    finalAsAny_of_take hl (exec_setAck (s := s.inFinal false) ht hany) (exec_setAck ht hfinal) htake hkept (hvisit x)
  rcases h with ⟨hreply, x, body, rfl⟩ | ⟨hends, rfl⟩ | ⟨rfl, ex, x, n, hex, hw, hsent⟩
  · rcases hreply with ⟨_, _, _, _, _, hi, -⟩ | ⟨_, _, hi, -⟩ | ⟨y, ix, w, echo, hi, haw, hs⟩ | ⟨y, w, echo, hi, haw, hs⟩
      | ⟨y, w, echo, hi, haw, hs⟩
    · exact absurd hi (by simp)
    · exact absurd hi (by simp)
    · obtain ⟨rfl, rfl⟩ := Instr.setAck.inj hi
      obtain ⟨sent, hs⟩ := Option.isSome_iff_exists.mp hs
      exact hack x _ (fun c => c.echoOutlet x ix sent echo) (takeAck_outlet (c := (s.inFinal false).ctl) haw hs echo)
        (takeAck_outlet haw hs echo) (fun c => echoOutlet_final c x ix sent echo) fun c => cycleKept_echoOutlet c x ix sent echo
    · obtain ⟨rfl, rfl⟩ := Instr.setAck.inj hi
      obtain ⟨sent, hs⟩ := Option.isSome_iff_exists.mp hs
      exact hack x _ (fun c => c.echoBattery x sent echo) (takeAck_battery (c := (s.inFinal false).ctl) haw hs echo)
        (takeAck_battery haw hs echo) (fun c => echoBattery_final c x sent echo) fun c => cycleKept_echoBattery c x sent echo
    · obtain ⟨rfl, rfl⟩ := Instr.setAck.inj hi
      obtain ⟨sent, hs⟩ := Option.isSome_iff_exists.mp hs
      exact hack x _ (fun c => c.echoCanopy x sent echo) (takeAck_canopy (c := (s.inFinal false).ctl) haw hs echo)
        (takeAck_canopy haw hs echo) (fun c => echoCanopy_final c x sent echo) fun c => cycleKept_echoCanopy c x sent echo
  · obtain ⟨f, haw, hf⟩ : ∃ f, s.ctl.link.awaited = some f ∧ f.setpointTo.isSome = true := by
      simpa [Controller.endsExchange] using hends
    obtain ⟨x, hx⟩ := Option.isSome_iff_exists.mp hf
    exact finalAsAny_of_take (take := fun c => c.updNode x f.forget) hl (exec_setAckTimeout (s := s.inFinal false) ht haw hx)
      (exec_setAckTimeout ht haw hx) (fun _ => rfl) (fun c => cycleKept_updNode c x _) (hvisit x)
  · exact finalAsAny_of_take (take := id) hl (exec_noticeSent (s := s.inFinal false) ht hex hw hsent)
      (exec_noticeSent ht hex hw hsent) (fun _ => rfl) (fun c => ⟨rfl, rfl, rfl, rfl, rfl⟩) (hvisit x)

section
variable (ho : s.ctl.ordinaryCycle) (hp : (s.ctl.node a).state = .PRESENT)
include ho hp

theorem visit_after_notice {ex : Exchange} {n : NodeNotice} (hex : s.ctl.link.exchange = some ex) (hw : ex.waiting = none)
    (hs : ex.sent = .notice a n) : ∃ t, exec .frameSent s = .next t ∧ s.ctl.visitGoesOn t.ctl a (s.ctl.node a).notices
      ∧ s.ctl.VisitFrame t.ctl a :=
  visit_of_forget ho hp (exec_noticeSent ht hex hw hs) ⟨rfl, rfl, rfl, rfl, rfl⟩ (f := id) rfl fun _ => ⟨rfl, rfl⟩

theorem visit_after_timeout {f : Sent} (haw : s.ctl.link.awaited = some f) (hf : f.setpointTo = some a) :
    ∃ t, exec .setAckTimeout s = .next t ∧ s.ctl.visitGoesOn t.ctl a (s.ctl.node a).notices
      ∧ (s.ctl.updNode a f.forget).VisitFrame t.ctl a :=
  visit_of_forget ho hp (exec_setAckTimeout ht haw hf) (cycleKept_updNode _ _ _) (updNode_node_self _ _ _) (forget_keeps f)

theorem visit_after_ack {body : AckBody} {e : Controller} {f : Node → Node} (h : s.ctl.takeAck a body = some e) (hk : s.ctl.CycleKept e)
    (hnode : e.node a = f (s.ctl.node a)) (hf : ∀ n, (f n).state = n.state ∧ (f n).notices = n.notices) :
    ∃ t, exec (.setAck a body) s = .next t ∧ s.ctl.visitGoesOn t.ctl a (s.ctl.node a).notices ∧ e.VisitFrame t.ctl a :=
  visit_of_forget ho hp (exec_setAck ht h) hk hnode hf

/-! The clauses of O43, by what was sent. -/

theorem outletAck_settles {ix : OutIx} {b : Bay} {sent w : Int} (haw : s.ctl.link.awaited = some (.setOutlet a ix w))
    (hix : ix ∈ s.ctl.link.sentOutlets) (hsent : (s.ctl.node a).outOutlet.get ix = some sent) (hb : s.ctl.bayAt a ix = some b) (echo : Int) :
    ∃ t, exec (.setAck a (.outlet (ix.val + 1) echo)) s = .next t ∧ (t.ctl.outlet b).inForce = echo
      ∧ (t.ctl.outlet b).pending = (s.ctl.outlet b).pending.bind (fun p => pendingFor echo p.target)
      ∧ (t.ctl.outlet b).state = (s.ctl.outlet b).state ∧ (t.ctl.outlet b).session = (s.ctl.outlet b).session
      ∧ (t.ctl.node a).outOutlet.get ix = none ∧ (echo ≠ sent → t.ctl.raised .outletAckMismatch)
      ∧ (echo = sent → t.ctl.port = s.ctl.port) ∧ s.ctl.outletsBut b t.ctl ∧ t.ctl.credit = s.ctl.credit
      ∧ t.ctl.pool = s.ctl.pool ∧ s.ctl.quietBlocks t.ctl ∧ s.ctl.visitGoesOn t.ctl a (s.ctl.node a).notices := by
  have hack := takeAck_outlet haw hsent echo
  have hkept := cycleKept_echoOutlet s.ctl a ix sent echo
  rw [echoOutlet_of_bay hb] at hack hkept
  have hself := updNode_node_self s.ctl a (Node.clearOutlet ix)
  obtain ⟨hcredit, hpool, hlink, hquiet⟩ := outletEcho_leaves (s.ctl.updNode a (Node.clearOutlet ix)) b sent echo
  have hnode := (node_eq_of_link hlink a).trans hself
  obtain ⟨v, ch, hecho⟩ := outletEcho_outlet (s.ctl.updNode a (Node.clearOutlet ix)) b sent echo
  obtain ⟨t, hexec, hgoes, hframe⟩ := visit_after_ack ht ho hp hack hkept hnode fun _ => ⟨rfl, rfl⟩
  obtain ⟨htcredit, htoutlets, htpool, htport, htquiet⟩ := visitFrame_blocks hframe
  have hout := (outlet_eq_of_outlets htoutlets b).trans hecho
  refine ⟨t, hexec, congrArg Outlet.inForce hout, congrArg Outlet.pending hout, (congrArg Outlet.state hout :), (congrArg Outlet.session hout :),
    ?_, fun hne => ?_, fun he => htport.trans (outletEcho_port _ b sent echo he), ?_, htcredit.trans hcredit, htpool.trans hpool,
    quietBlocks_trans hquiet htquiet, hgoes⟩
  · rw [hframe.sent ix (by rw [hlink]; exact hix), hnode]
    exact Table.get_set_self _ _ _
  · exact (raised_congr htport _).mpr (raiseIf_raised _ _ _ hne)
  · exact outletsBut_trans (outletEcho_outletsBut (s.ctl.updNode a (Node.clearOutlet ix)) b sent echo)
      (outletsBut_of_eq fun x _ => outlet_eq_of_outlets htoutlets x)

theorem outletTimeout_settles {ix : OutIx} {w : Int} (haw : s.ctl.link.awaited = some (.setOutlet a ix w))
    (hix : ix ∈ s.ctl.link.sentOutlets) : ∃ t, exec .setAckTimeout s = .next t ∧ s.ctl.visitGoesOn t.ctl a (s.ctl.node a).notices
      ∧ (t.ctl.node a).outOutlet.get ix = none ∧ t.ctl.outlets = s.ctl.outlets ∧ t.ctl.credit = s.ctl.credit ∧ t.ctl.pool = s.ctl.pool
      ∧ t.ctl.port = s.ctl.port ∧ s.ctl.quietBlocks t.ctl := by
  obtain ⟨t, hexec, hgoes, hframe⟩ := visit_after_timeout ht ho hp haw rfl
  obtain ⟨hcredit, houtlets, hpool, hport, hquiet⟩ := visitFrame_blocks hframe
  refine ⟨t, hexec, hgoes, ?_, houtlets, hcredit, hpool, hport, hquiet⟩
  rw [hframe.sent ix hix, updNode_node_self]
  exact Table.get_set_self _ _ _

/-- The timeout of a battery's or canopy's SETPOINT, and of an outlet's. -/
theorem setpointTimeout_settles {f : Sent} (haw : s.ctl.link.awaited = some f) (hf : f.setpointTo = some a) :
    ∃ t, exec .setAckTimeout s = .next t ∧ s.ctl.visitGoesOn t.ctl a (s.ctl.node a).notices ∧ t.ctl.storage = s.ctl.storage
      ∧ t.ctl.outlets = s.ctl.outlets ∧ t.ctl.credit = s.ctl.credit ∧ t.ctl.pool = s.ctl.pool ∧ t.ctl.port = s.ctl.port := by
  obtain ⟨t, hexec, hgoes, hframe⟩ := visit_after_timeout ht ho hp haw hf
  obtain ⟨hcredit, houtlets, hpool, hport, hst, -⟩ := visitFrame_blocks hframe
  exact ⟨t, hexec, hgoes, hst, houtlets, hcredit, hpool, hport⟩

/-- The echo of a single setpoint: of the blocks the storage changes, and the site port where the echo is another value. -/
theorem singleAck_settles {body : AckBody} {f : Node → Node} {g : Storage → Storage} {mismatch : Prop} [Decidable mismatch]
    (hack : s.ctl.takeAck a body = some (((s.ctl.updNode a f).updStorage g).raiseIf mismatch .nodeAckMismatch))
    (hf : ∀ n, (f n).state = n.state ∧ (f n).notices = n.notices) :
    ∃ t, exec (.setAck a body) s = .next t ∧ s.ctl.visitGoesOn t.ctl a (s.ctl.node a).notices ∧ t.ctl.storage = g s.ctl.storage
      ∧ (mismatch → t.ctl.raised .nodeAckMismatch) ∧ (¬ mismatch → t.ctl.port = s.ctl.port) ∧ t.ctl.outlets = s.ctl.outlets
      ∧ t.ctl.credit = s.ctl.credit ∧ t.ctl.pool = s.ctl.pool ∧ t.ctl.settings = s.ctl.settings := by
  have hraise := raiseIf_eq mismatch .nodeAckMismatch ((s.ctl.updNode a f).updStorage g)
  have hkept : s.ctl.CycleKept (((s.ctl.updNode a f).updStorage g).raiseIf mismatch .nodeAckMismatch) :=
    cycleKept_trans (cycleKept_updNode s.ctl a f) (cycleKept_trans (cycleKept_updStorage _ g) (cycleKept_raiseIf _ _ _))
  have hnode : (((s.ctl.updNode a f).updStorage g).raiseIf mismatch .nodeAckMismatch).node a = f (s.ctl.node a) := by
    rw [hraise]
    exact updNode_node_self s.ctl a f
  obtain ⟨t, hexec, hgoes, hframe⟩ := visit_after_ack ht ho hp hack hkept hnode hf
  obtain ⟨hcredit, houtlets, hpool, hport, hst, hset, -⟩ := visitFrame_blocks hframe
  refine ⟨t, hexec, hgoes, ?_, fun h => (raised_congr hport _).mpr (raiseIf_raised _ _ _ h), fun h => hport.trans (raiseIf_port _ _ _ h),
    ?_, ?_, ?_, ?_⟩
  · rw [hst, hraise]; rfl
  · rw [houtlets, hraise]; rfl
  · rw [hcredit, hraise]; rfl
  · rw [hpool, hraise]; rfl
  · rw [hset, hraise]; rfl

end
end

/-- Settles O43. -/
theorem setAckSettlesTheSetpoint : Obligations.SetAckSettlesTheSetpoint := by
  refine ⟨fun s i ht hl h => setpointRows_final ht hl h, fun s a ht ho hp => ?_⟩
  intro goesOn
  refine ⟨fun ex n hex hw hsent => ?_, fun ix b sent w haw hix hsent hb =>
      ⟨outletAck_settles ht ho hp haw hix hsent hb, outletTimeout_settles ht ho hp haw hix⟩,
    fun sent w haw hsent => ⟨fun echo => ?_, setpointTimeout_settles ht ho hp haw rfl⟩,
    fun sent w haw hsent => ⟨fun echo => ?_, setpointTimeout_settles ht ho hp haw rfl⟩⟩
  · obtain ⟨t, hexec, hgoes, hframe⟩ := visit_after_notice ht ho hp hex hw hsent
    obtain ⟨hcredit, houtlets, hpool, hport, hquiet⟩ := visitFrame_blocks hframe
    exact ⟨t, hexec, hgoes, houtlets, hcredit, hpool, hport, hquiet⟩
  · obtain ⟨t, hexec, hgoes, hst, hraised, hport, hrest⟩ := singleAck_settles ht ho hp (takeAck_battery haw hsent echo) fun _ => ⟨rfl, rfl⟩
    exact ⟨t, hexec, hgoes, hst, hraised, fun he => hport (not_not.mpr he), hrest⟩
  · obtain ⟨t, hexec, hgoes, hst, hraised, hport, hrest⟩ := singleAck_settles ht ho hp (takeAck_canopy haw hsent echo) fun _ => ⟨rfl, rfl⟩
    exact ⟨t, hexec, hgoes, hst, hraised, fun he => hport (not_not.mpr he), hrest⟩

end Sys2Proof.Machine
end

section
/-! SUPPORT. The supply window at every bay (R162, R163). -/

namespace Sys2Proof.Machine

/-! ### The supply readings that a pause reason leaves alone -/

/-- Two controllers with the same window, voltage and site hold: the outlet table without its entries. -/
def Controller.sameSupply (c d : Controller) : Prop := d.outlets = { c.outlets with entries := d.outlets.entries }

theorem sameSupply_trans {c d e : Controller} (h : c.sameSupply d) (h' : d.sameSupply e) : c.sameSupply e := by
  unfold Controller.sameSupply at h h' ⊢
  rw [h', h]

section
variable (c : Controller) (b : Bay)

theorem markTarget_judgeRelease_sameSupply (w : Nat) : c.sameSupply (c.markTarget b w).judgeRelease := by
  have hmark : c.sameSupply (c.markTarget b w) := by
    unfold Controller.markTarget
    split <;> rfl
  refine sameSupply_trans hmark ?_
  unfold Controller.judgeRelease
  split <;> rfl

theorem addReason_sameSupply (r : PauseReason) : c.sameSupply (c.addReason b r) := by
  unfold Controller.addReason
  dsimp only
  split
  · rfl
  · split
    · exact markTarget_judgeRelease_sameSupply (Controller.withdraw b _) b 0
    · exact markTarget_judgeRelease_sameSupply (Controller.depart b _) b 0
    · exact markTarget_judgeRelease_sameSupply (Controller.depart b _) b 0
    · rfl
    · rfl

theorem removeReason_sameSupply (r : PauseReason) : c.sameSupply (c.removeReason b r) := by
  rcases removeReason_cases c b r with h | ⟨f, -, h | h⟩
  · rw [h]; rfl
  · rw [h]; rfl
  · have henqueue : c.sameSupply ((c.updOutlet b f).enqueue b) := by
      unfold Controller.sameSupply
      rw [(enqueue_leaves (c.updOutlet b f) b).2.1]
      rfl
    rw [h]
    exact sameSupply_trans henqueue (markTarget_judgeRelease_sameSupply _ b 0)

end

/-! ### The queue at another bay's return to it -/

theorem mem_queueInsert_of_mem {e x : QueueEntry} {q : List QueueEntry} (h : x ∈ q) : x ∈ queueInsert e q := by
  induction q with
  | nil => exact absurd h List.not_mem_nil
  | cons y ys ih =>
    unfold queueInsert
    split
    · exact List.mem_cons_of_mem e h
    · rcases List.mem_cons.mp h with rfl | h
      · exact List.mem_cons_self
      · exact List.mem_cons_of_mem y (ih h)

/-- An ACTIVE queue entry stays ACTIVE when a bay joins the queue (R75). -/
theorem enqueue_keeps_active {c : Controller} {b : Bay} (h : c.queuedActive b) (y : Bay) : (c.enqueue y).queuedActive b := by
  obtain ⟨e, he, hb, ha⟩ := h
  unfold Controller.enqueue
  split
  · refine ⟨if e.bay = y then { e with active := true } else e, List.mem_map.mpr ⟨e, he, rfl⟩, ?_, ?_⟩
    · split <;> exact hb
    · split
      · rfl
      · exact ha
  · exact ⟨e, mem_queueInsert_of_mem he, hb, ha⟩

theorem removeReason_keeps_active {c : Controller} {b : Bay} (h : c.queuedActive b) (y : Bay) (r : PauseReason) :
    (c.removeReason y r).queuedActive b := by
  rcases removeReason_cases c y r with hc | ⟨f, -, hc | hc⟩
  · rwa [hc]
  · rw [hc]; exact h
  · unfold Controller.queuedActive
    rw [hc, (judgeRelease_leaves _).2.1, (markTarget_leaves _ _ _).2.1]
    exact enqueue_keeps_active (c := c.updOutlet y f) h y

/-! ### A pause reason at every bay -/

/-- A pause reason added at every bay. -/
def Controller.addToAll (r : PauseReason) (c : Controller) : Controller := forBays (fun b c => c.addReason b r) c

/-- A pause reason removed at every bay. -/
def Controller.removeFromAll (r : PauseReason) (c : Controller) : Controller := forBays (fun b c => c.removeReason b r) c

section
variable (c : Controller) (r : PauseReason)

theorem addToAll_session (b : Bay) : ((c.addToAll r).outlet b).session = (c.outlet b).session := by
  refine forBays_keeps (fun d => (d.outlet b).session = (c.outlet b).session) (fun y d hd => ?_) rfl
  by_cases hy : b = y
  · rw [← hy, addReason_session, hd]
  · obtain ⟨v, hv⟩ := (alike_iff _ _).mp (addReason_outletsBut d y r b hy)
    rw [hv]
    exact hd

theorem removeFromAll_session (b : Bay) : ((c.removeFromAll r).outlet b).session = (c.outlet b).session := by
  refine forBays_keeps (fun d => (d.outlet b).session = (c.outlet b).session) (fun y d hd => ?_) rfl
  by_cases hy : b = y
  · rw [← hy, removeReason_session, hd]
  · obtain ⟨v, hv⟩ := (alike_iff _ _).mp (removeReason_outletsBut d y r b hy)
    rw [hv]
    exact hd

theorem addToAll_sameSupply : c.sameSupply (c.addToAll r) :=
  forBays_keeps (fun d => c.sameSupply d) (fun b d hd => sameSupply_trans hd (addReason_sameSupply d b r)) rfl

theorem removeFromAll_sameSupply : c.sameSupply (c.removeFromAll r) :=
  forBays_keeps (fun d => c.sameSupply d) (fun b d hd => sameSupply_trans hd (removeReason_sameSupply d b r)) rfl

theorem addToAll_work : c.OutletWork (c.addToAll r) := forBays_work (fun b d => addReason_work d b r) c

theorem addToAll_link : (c.addToAll r).link = c.link :=
  forBays_keeps (fun d => d.link = c.link) (fun b d hd => (addReason_leaves d b r).2.2.1.trans hd) rfl

theorem removeFromAll_link : (c.removeFromAll r).link = c.link :=
  forBays_keeps (fun d => d.link = c.link) (fun b d hd => (removeReason_leaves d b r).2.2.1.trans hd) rfl

theorem addToAll_credit : (c.addToAll r).credit = c.credit :=
  forBays_keeps (fun d => d.credit = c.credit) (fun b d hd => (addReason_leaves d b r).1.trans hd) rfl

theorem removeFromAll_credit : (c.removeFromAll r).credit = c.credit :=
  forBays_keeps (fun d => d.credit = c.credit) (fun b d hd => (removeReason_leaves d b r).1.trans hd) rfl

variable {c r} {b : Bay}

/-- A reason added at every bay stands at every held session, which is PAUSED with it. -/
theorem addToAll_pauses (hs : (c.outlet b).session.isSome = true) (ha : (c.outlet b).acting.inSession = true) :
    ((c.addToAll r).outlet b).reasons.has r = true
      ∧ ((c.outlet b).reasons.has r = false → ((c.addToAll r).outlet b).acting = .PAUSED) := by
  refine forBays_at (x := b) (A := fun d => (c.outlet b).alike (d.outlet b))
    (B := fun d => (d.outlet b).reasons.has r = true ∧ ((c.outlet b).reasons.has r = false → (d.outlet b).acting = .PAUSED))
    (fun y d hy hd => alike_trans hd (addReason_outletsBut d y r b (Ne.symm hy))) (fun d hd => ?_) (fun y d hy hd => ?_) rfl
  · obtain ⟨v, hv⟩ := (alike_iff _ _).mp hd
    have hs' : (d.outlet b).session.isSome = true := by rw [hv]; exact hs
    have ha' : (d.outlet b).acting.inSession = true := by rw [hv]; exact ha
    exact ⟨addReason_has hs' ha' r, fun hr => (addReason_pauses hs' ha' (by rw [hv]; exact hr)).1⟩
  · obtain ⟨v, hv⟩ := (alike_iff _ _).mp (addReason_outletsBut d y r b (Ne.symm hy))
    rw [hv]
    exact hd

theorem removeFromAll_resumes (h : (c.outlet b).reasons.has r = true) :
    c.resumedAt (c.removeFromAll r) b ((c.outlet b).reasons.put r false) := by
  refine forBays_at (x := b) (A := fun d => (c.outlet b).alike (d.outlet b))
    (B := fun d => c.resumedAt d b ((c.outlet b).reasons.put r false))
    (fun y d hy hd => alike_trans hd (removeReason_outletsBut d y r b (Ne.symm hy))) (fun d hd => ?_) (fun y d hy hd => ?_) rfl
  · obtain ⟨v, hv⟩ := (alike_iff _ _).mp hd
    have hr : d.resumedAt (d.removeReason b r) b ((d.outlet b).reasons.put r false) := removeReason_resumedAt (by rw [hv]; exact h)
    rw [show (d.outlet b).reasons = (c.outlet b).reasons by rw [hv]] at hr
    exact resumedAt_base ⟨_, _, _, v, hv⟩ hr
  · obtain ⟨v, hv⟩ := (alike_iff _ _).mp (removeReason_outletsBut d y r b (Ne.symm hy))
    exact resumedAt_later hd ⟨v, (d.outlet b).overdraw, hv, fun _ => rfl⟩ fun hq => removeReason_keeps_active hq y r

theorem removeFromAll_alike (h : (c.outlet b).reasons.has r = false) : (c.outlet b).alike ((c.removeFromAll r).outlet b) := by
  refine forBays_at (x := b) (A := fun d => (c.outlet b).alike (d.outlet b)) (B := fun d => (c.outlet b).alike (d.outlet b))
    (fun y d hy hd => alike_trans hd (removeReason_outletsBut d y r b (Ne.symm hy))) (fun d hd => ?_)
    (fun y d hy hd => alike_trans hd (removeReason_outletsBut d y r b (Ne.symm hy))) rfl
  obtain ⟨v, hv⟩ := (alike_iff _ _).mp hd
  rwa [removeReason_of_absent (by rw [hv]; exact h)]

end

/-! ### The window (R162) -/

/-- What a voltage does, from `c` to `t`: the clause of O41 for a supply meter. -/
def Controller.supplyJudged (c t : Controller) (v : Nat) : Prop :=
  t.outlets.lastVoltage = some v
    ∧ (let before := c.outlets.window
       let after := windowAfter c.inForce v before
       t.outlets.window = after
       ∧ (∀ b, (t.outlet b).session = (c.outlet b).session)
       ∧ (∀ side, before = none → after = some side →
         (∀ b, (c.outlet b).session.isSome = true → (c.outlet b).acting.inSession = true →
           (t.outlet b).reasons.supply = true ∧ ((c.outlet b).reasons.supply = false → (t.outlet b).acting = .PAUSED))
         ∧ t.flagged .SUPPLY_WINDOW c.run.siteTime c.run.timeValid ∧ t.raised side.cause)
       ∧ (∀ side, before = some side → after = none →
         (∀ b, (c.outlet b).reasons.supply = true → c.resumedAt t b { (c.outlet b).reasons with supply := false })
         ∧ (∀ b, (c.outlet b).reasons.supply = false → (c.outlet b).alike (t.outlet b))
         ∧ t.raised .supplyBackIn)
       ∧ (∀ x y, before = some x → after = some y → x ≠ y → t.raised y.cause)
       ∧ (before.isSome = after.isSome → t.outlets.entries = c.outlets.entries ∧ t.pool = c.pool))

theorem supplyOut_eq (c : Controller) (side : Side) :
    c.supplyOut side = ((c.addToAll .SUPPLY).setFault .SUPPLY_WINDOW).raise side.cause := rfl

theorem supplyBack_eq (c : Controller) : c.supplyBack = (c.removeFromAll .SUPPLY).raise .supplyBackIn := rfl

theorem supplyOut_flagged (c : Controller) (side : Side) : (c.supplyOut side).flagged .SUPPLY_WINDOW c.run.siteTime c.run.timeValid := by
  have hrun := (addToAll_work c .SUPPLY).quiet.2.2.2
  rw [supplyOut_eq]
  generalize c.addToAll .SUPPLY = d at hrun
  rw [← hrun]
  exact flagged_setFault d .SUPPLY_WINDOW

section
variable (c : Controller)

theorem supplyOut_outlet (side : Side) (b : Bay) : (c.supplyOut side).outlet b = (c.addToAll .SUPPLY).outlet b := by
  rw [supplyOut_eq]
  generalize c.addToAll .SUPPLY = d
  rfl

theorem supplyBack_outlet (b : Bay) : c.supplyBack.outlet b = (c.removeFromAll .SUPPLY).outlet b := by
  rw [supplyBack_eq]
  generalize c.removeFromAll .SUPPLY = d
  rfl

theorem supplyOut_leaves (side : Side) : c.sameSupply (c.supplyOut side) ∧ (c.supplyOut side).link = c.link
    ∧ (c.supplyOut side).credit = c.credit := by
  have hsupply := addToAll_sameSupply c .SUPPLY
  have hlink := addToAll_link c .SUPPLY
  have hcredit := addToAll_credit c .SUPPLY
  rw [supplyOut_eq]
  generalize c.addToAll .SUPPLY = d at hsupply hlink hcredit
  exact ⟨hsupply, hlink, hcredit⟩

theorem supplyBack_leaves : c.sameSupply c.supplyBack ∧ c.supplyBack.link = c.link ∧ c.supplyBack.credit = c.credit := by
  have hsupply := removeFromAll_sameSupply c .SUPPLY
  have hlink := removeFromAll_link c .SUPPLY
  have hcredit := removeFromAll_credit c .SUPPLY
  rw [supplyBack_eq]
  generalize c.removeFromAll .SUPPLY = d at hsupply hlink hcredit
  exact ⟨hsupply, hlink, hcredit⟩

theorem supplyBack_resumes {b : Bay} (h : (c.outlet b).reasons.supply = true) :
    c.resumedAt c.supplyBack b { (c.outlet b).reasons with supply := false } := by
  have hr := removeFromAll_resumes (c := c) (r := .SUPPLY) h
  rw [supplyBack_eq]
  generalize c.removeFromAll .SUPPLY = d at hr
  exact hr

theorem supplyChange_same {x y : Side} (h : x = y) : c.supplyChange (some x) (some y) = c := if_pos h

theorem supplyChange_crosses {x y : Side} (h : x ≠ y) : c.supplyChange (some x) (some y) = c.raise y.cause := if_neg h

theorem supplyStep_leaves (v : Nat) : (c.supplyStep v).link = c.link ∧ (c.supplyStep v).credit = c.credit := by
  rw [supplyStep_eq]
  cases c.outlets.window with
  | none =>
    cases windowAfter c.inForce v none with
    | none => exact ⟨rfl, rfl⟩
    | some side => exact (supplyOut_leaves (c.takeVoltage v) side).2
  | some x =>
    cases windowAfter c.inForce v (some x) with
    | none => exact (supplyBack_leaves (c.takeVoltage v)).2
    | some y =>
      by_cases hxy : x = y
      · rw [supplyChange_same _ hxy]
        exact ⟨rfl, rfl⟩
      · rw [supplyChange_crosses _ hxy]
        exact ⟨rfl, rfl⟩

end

/-- What a voltage leaves of the supply readings, where the pauses leave them alone. -/
theorem takeVoltage_readings {c t : Controller} {v : Nat} (h : (c.takeVoltage v).sameSupply t) :
    t.outlets.lastVoltage = some v ∧ t.outlets.window = windowAfter c.inForce v c.outlets.window := by
  rw [h]
  exact ⟨rfl, rfl⟩

theorem supplyStep_judged (c : Controller) (v : Nat) : c.supplyJudged (c.supplyStep v) v := by
  rw [supplyStep_eq]
  unfold Controller.supplyJudged
  dsimp only
  cases hb : c.outlets.window with
  | none =>
    cases ha : windowAfter c.inForce v none with
    | none =>
      obtain ⟨hvoltage, hwindow⟩ := takeVoltage_readings (c := c) (v := v) (t := c.takeVoltage v) rfl
      rw [hb, ha] at hwindow
      exact ⟨hvoltage, hwindow, fun _ => rfl, by simp, by simp, by simp, fun _ => ⟨rfl, rfl⟩⟩
    | some side =>
      obtain ⟨hvoltage, hwindow⟩ := takeVoltage_readings (supplyOut_leaves (c.takeVoltage v) side).1
      rw [hb, ha] at hwindow
      have houtlet := supplyOut_outlet (c.takeVoltage v) side
      refine ⟨hvoltage, hwindow, fun b => (congrArg Outlet.session (houtlet b)).trans (addToAll_session _ _ b), fun x _ hx => ?_,
        by simp, by simp, by simp⟩
      cases hx
      refine ⟨fun b hs hin => ?_, supplyOut_flagged (c.takeVoltage v) side, raised_raise _ side.cause⟩
      rw [show ((c.takeVoltage v).supplyChange none (some side)).outlet b = _ from houtlet b]
      exact addToAll_pauses (c := c.takeVoltage v) (r := .SUPPLY) hs hin
  | some x =>
    cases ha : windowAfter c.inForce v (some x) with
    | none =>
      obtain ⟨hvoltage, hwindow⟩ := takeVoltage_readings (supplyBack_leaves (c.takeVoltage v)).1
      rw [hb, ha] at hwindow
      have houtlet := supplyBack_outlet (c.takeVoltage v)
      refine ⟨hvoltage, hwindow, fun b => (congrArg Outlet.session (houtlet b)).trans (removeFromAll_session _ _ b), by simp,
        fun _ _ _ => ⟨fun b => supplyBack_resumes (c.takeVoltage v), fun b h => ?_, raised_raise _ .supplyBackIn⟩, by simp, by simp⟩
      rw [show ((c.takeVoltage v).supplyChange (some x) none).outlet b = _ from houtlet b]
      exact removeFromAll_alike (c := c.takeVoltage v) (r := .SUPPLY) h
    | some y =>
      obtain ⟨hvoltage, hwindow⟩ := takeVoltage_readings (c := c) (v := v) (t := c.takeVoltage v) rfl
      rw [hb, ha] at hwindow
      by_cases hxy : x = y
      · rw [supplyChange_same _ hxy]
        refine ⟨hvoltage, hwindow, fun _ => rfl, by simp, by simp, fun x' y' hx hy hne => ?_, fun _ => ⟨rfl, rfl⟩⟩
        cases hx
        cases hy
        exact absurd hxy hne
      · rw [supplyChange_crosses _ hxy]
        refine ⟨hvoltage, hwindow, fun _ => rfl, by simp, by simp, fun x' y' _ hy _ => ?_, fun _ => ⟨rfl, rfl⟩⟩
        cases hy
        exact raised_raise _ y.cause

end Sys2Proof.Machine
end

section
/-! SUPPORT. A good STATUS is taken (R129, R138), in an ordinary cycle and in STOP's final one (R142). -/

namespace Sys2Proof.Machine

/-! ### The readings stored (R129, R138) -/

section
variable (c : Controller)

theorem forgetAcked_eq (k : Option NodeKind) : c.forgetAcked k = { c with storage := (c.forgetAcked k).storage } := by
  cases k with
  | none => rfl
  | some k => cases k <;> rfl

theorem nodeReturns_eq (k : Option NodeKind) : c.nodeReturns k =
    { (c.updLink fun l => { l with allSilent := 0 }).raise .nodeReturned with storage := (c.nodeReturns k).storage } :=
  forgetAcked_eq _ k

variable (a : Addr) (body : StatusBody)

theorem storeStatus_of_silent (h : (c.node a).state = .SILENT) : c.storeStatus a body =
    (c.updNode a (Node.take body c.run.siteTime c.run.ms)).nodeReturns (c.node a).kind := by
  unfold Controller.storeStatus
  dsimp only
  rw [updNode_node_self, if_pos (by rw [h]; rfl)]
  rfl

theorem storeStatus_of_present (h : (c.node a).state ≠ .SILENT) :
    c.storeStatus a body = c.updNode a (Node.take body c.run.siteTime c.run.ms) := by
  unfold Controller.storeStatus
  exact if_neg (by simpa using h)

/-- What the storing of the readings leaves alone. -/
theorem storeStatus_leaves : (c.storeStatus a body).credit = c.credit ∧ (c.storeStatus a body).outlets = c.outlets
    ∧ (c.storeStatus a body).pool = c.pool := by
  by_cases h : (c.node a).state = .SILENT
  · rw [storeStatus_of_silent c a body h, nodeReturns_eq]
    exact ⟨rfl, rfl, rfl⟩
  · rw [storeStatus_of_present c a body h]
    exact ⟨rfl, rfl, rfl⟩

theorem cycleKept_storeStatus : c.CycleKept (c.storeStatus a body) := by
  by_cases h : (c.node a).state = .SILENT
  · rw [storeStatus_of_silent c a body h, nodeReturns_eq]
    exact ⟨rfl, rfl, rfl, rfl, rfl⟩
  · rw [storeStatus_of_present c a body h]
    exact ⟨rfl, rfl, rfl, rfl, rfl⟩

theorem storeStatus_node : (c.storeStatus a body).node a = (c.node a).take body c.run.siteTime c.run.ms := by
  by_cases h : (c.node a).state = .SILENT
  · rw [storeStatus_of_silent c a body h, nodeReturns_eq]
    exact updNode_node_self c a _
  · rw [storeStatus_of_present c a body h]
    exact updNode_node_self c a _

theorem storeStatus_raised (h : (c.node a).state = .SILENT) : (c.storeStatus a body).raised .nodeReturned := by
  rw [storeStatus_of_silent c a body h, nodeReturns_eq]
  exact raised_raise ((c.updNode a (Node.take body c.run.siteTime c.run.ms)).updLink fun l => { l with allSilent := 0 }) .nodeReturned

/-- The storage keeps all but an acknowledged value, which the return of its node removes (R99, R100). -/
theorem storeStatus_storage : ∃ x y, (c.storeStatus a body).storage =
    { c.storage with battery := { c.storage.battery with acked := x }, canopy := { c.storage.canopy with acked := y } }
      ∧ (x = c.storage.battery.acked ∨ (c.node a).kind = some .BATTERY)
      ∧ (y = c.storage.canopy.acked ∨ (y = none ∧ (c.node a).kind = some .CANOPY))
      ∧ ((c.node a).state = .SILENT → (c.node a).kind = some .BATTERY → x = none) := by
  by_cases h : (c.node a).state = .SILENT
  · rw [storeStatus_of_silent c a body h]
    cases hk : (c.node a).kind with
    | none => exact ⟨_, _, rfl, .inl rfl, .inl rfl, by simp⟩
    | some k =>
      cases k with
      | BATTERY => exact ⟨none, _, rfl, .inr rfl, .inl rfl, fun _ _ => rfl⟩
      | CANOPY => exact ⟨_, none, rfl, .inl rfl, .inr ⟨rfl, rfl⟩, by simp⟩
      | PEDESTAL => exact ⟨_, _, rfl, .inl rfl, .inl rfl, by simp⟩
      | SUPPLY_METER => exact ⟨_, _, rfl, .inl rfl, .inl rfl, by simp⟩
  · rw [storeStatus_of_present c a body h]
    exact ⟨_, _, rfl, .inl rfl, .inl rfl, fun hs => absurd hs h⟩

/-! ### What follows the storing -/

/-- What a STATUS does after its readings are stored leaves the stored readings and the NODE notice. -/
theorem takeStatus_after : (c.storeStatus a body).CycleKept (c.takeStatus a body)
    ∧ (∃ g, (c.takeStatus a body).node a = { (c.storeStatus a body).node a with notices := g })
    ∧ (c.takeStatus a body).port.notices.get Source.NODE.ix = (c.storeStatus a body).port.notices.get Source.NODE.ix := by
  cases body with
  | pedestal es =>
    have h := pedestalStatus_work a es ((c.node a).state == .SILENT) (c.storeStatus a (.pedestal es))
    rw [takeStatus_pedestal]
    exact ⟨cycleKept_of_work h, h.node a, h.nodeNotice⟩
  | canopy p cap =>
    rw [takeStatus_canopy]
    exact ⟨cycleKept_updStorage _ _, ⟨_, rfl⟩, rfl⟩
  | battery r =>
    rw [takeStatus_battery]
    exact ⟨⟨rfl, rfl, rfl, rfl, rfl⟩, ⟨_, rfl⟩, rfl⟩
  | supplyMeter p v =>
    have h := supplyStep_work v (c.storeStatus a (.supplyMeter p v))
    rw [takeStatus_supplyMeter]
    exact ⟨cycleKept_of_work h, h.node a, h.nodeNotice⟩

theorem cycleKept_takeStatus : c.CycleKept (c.takeStatus a body) :=
  cycleKept_trans (cycleKept_storeStatus c a body) (takeStatus_after c a body).1

theorem takeStatus_node : ∃ g, (c.takeStatus a body).node a = { (c.node a).take body c.run.siteTime c.run.ms with notices := g } := by
  obtain ⟨-, ⟨g, hg⟩, -⟩ := takeStatus_after c a body
  exact ⟨g, by rw [hg, storeStatus_node]⟩

theorem takeStatus_raised (h : (c.node a).state = .SILENT) : (c.takeStatus a body).raised .nodeReturned := by
  obtain ⟨-, -, hnotice⟩ := takeStatus_after c a body
  have hstored := storeStatus_raised c a body h
  unfold Controller.raised at hstored ⊢
  rw [← hstored]
  exact congrArg (fun n : NoticeEntry => n.raised.map (·.1)) hnotice

end

theorem taken_present {n : Node} (h : n.known = true) (body : StatusBody) (time stamp : Nat) : (n.take body time stamp).state = .PRESENT := by
  unfold Node.take
  dsimp only
  split
  · rfl
  · next hs => simpa [Node.known, hs] using h

/-! ### The row -/

section
variable {s : State} {a : Addr} {body : StatusBody} (ht : s.ctl.taking = true) (haw : s.ctl.link.awaited = some (.poll a))
  (hacc : (s.ctl.node a).accepts body = true)
include ht haw hacc

theorem exec_status : exec (.status a body) s = .next (s.put ((s.ctl.takeStatus a body).exchangeDone (Controller.visitNext a))) := by
  show execStatus a body s = _
  simp only [execStatus, event_taking _ ht, haw, hacc, and_self, if_true, State.put]

/-- A good STATUS in STOP's final cycle (R142). -/
theorem status_final (hl : s.ctl.lastCycle) : s.finalAsAny (.status a body) :=
  finalAsAny_of_take (take := Controller.takeStatus a body) hl (exec_status (s := s.inFinal false) ht haw hacc) (exec_status ht haw hacc)
    (fun c => takeStatus_final c a body) (fun c => cycleKept_takeStatus c a body) fun c => visitNext_visitsOrEnds c a

variable (ho : s.ctl.ordinaryCycle) (hknown : (s.ctl.node a).known = true)
include ho hknown

theorem status_visits : ∃ t, exec (.status a body) s = .next t ∧ s.ctl.visitGoesOn t.ctl a ((s.ctl.takeStatus a body).node a).notices
    ∧ (s.ctl.takeStatus a body).VisitFrame t.ctl a := by
  refine visit_of_take (exec_status ht haw hacc) ho (cycleKept_takeStatus s.ctl a body) ?_
  obtain ⟨g, hg⟩ := takeStatus_node s.ctl a body
  rw [hg]
  exact taken_present hknown body s.ctl.run.siteTime s.ctl.run.ms

end

end Sys2Proof.Machine
end

section
/-! SUPPORT. A good STATUS in an ordinary cycle, by its kind (R129, R138, R162), and what an entry of a pedestal's says of its outlet (R34). -/

namespace Sys2Proof.Machine

/-! ### The kinds of a STATUS -/

section
variable {n : Node}

theorem kind_of_accepts_pedestal {es : List OutletReading} (h : n.accepts (.pedestal es) = true) : n.kind = some .PEDESTAL := by
  unfold Node.accepts at h
  exact eq_of_beq (Bool.and_eq_true_iff.mp h).1

theorem kind_of_accepts_battery {r : BatteryReading} (h : n.accepts (.battery r) = true) : n.kind = some .BATTERY := eq_of_beq h

end

section
variable (c : Controller) (a : Addr)

/-- The controller as a pedestal's STATUS leaves it, step by step. -/
theorem takeStatus_pedestal_steps (es : List OutletReading) (hk : (c.node a).kind = some .PEDESTAL) :
    let returned := (c.node a).state == .SILENT
    let c1 := c.updNode a (Node.take (.pedestal es) c.run.siteTime c.run.ms)
    let c2 := if returned then c1.nodeReturns (some .PEDESTAL) else c1
    let c3 := if returned then c2.eachEntry a es fun b e c => c.heard b e.plugged else c2
    c.takeStatus a (.pedestal es) = c3.eachEntry a es fun b e c => (c.heard b e.plugged).outletEntry b e := by
  intro returned c1 c2 c3
  have hstored : c.storeStatus a (.pedestal es) = c2 := by
    by_cases h : (c.node a).state = .SILENT
    · rw [storeStatus_of_silent c a _ h, hk]
      exact (if_pos (beq_iff_eq.mpr h)).symm
    · rw [storeStatus_of_present c a _ h]
      exact (if_neg fun e => h (beq_iff_eq.mp e)).symm
  rw [takeStatus_pedestal, hstored]
  rfl

theorem takeStatus_pedestal_storage (es : List OutletReading) (hk : (c.node a).kind = some .PEDESTAL) :
    (c.takeStatus a (.pedestal es)).storage = c.storage := by
  obtain ⟨x, y, hst, hx, hy, -⟩ := storeStatus_storage c a (.pedestal es)
  rw [hk] at hx hy
  rw [takeStatus_pedestal, (pedestalStatus_work a es _ _).quiet.1, hst]
  obtain rfl : x = c.storage.battery.acked := by simpa using hx
  obtain rfl : y = c.storage.canopy.acked := by simpa using hy
  rfl

/-- A STATUS other than a pedestal's tells no node. -/
theorem takeStatus_notices {body : StatusBody} (h : ∀ es, body ≠ .pedestal es) :
    ((c.takeStatus a body).node a).notices = (c.node a).notices := by
  have hstored := congrArg Node.notices (storeStatus_node c a body)
  refine Eq.trans ?_ hstored
  cases body with
  | pedestal es => exact absurd rfl (h es)
  | canopy p cap => rw [takeStatus_canopy]; rfl
  | battery r => rfl
  | supplyMeter p v => rw [takeStatus_supplyMeter, node_eq_of_link (supplyStep_leaves _ v).1]

end

/-! ### The clauses of O41 for the kinds -/

theorem supplyJudged_congr {c d t u : Controller} {v : Nat} (h : c.supplyJudged t v) (ho : d.outlets = c.outlets) (hp : d.pool = c.pool)
    (hs : d.settings = c.settings) (hr : d.run = c.run) (hto : u.outlets = t.outlets) (htp : u.pool = t.pool) (htport : u.port = t.port) :
    d.supplyJudged u v := by
  unfold Controller.supplyJudged Controller.resumedAt Controller.flagged Controller.raised Controller.outlet Controller.inForce at h ⊢
  rw [ho, hp, hs, hr, hto, htp, htport]
  exact h

theorem canopyReport_storage {d : CanopyDelivery} {cap : Cap} (h : d.acked ≠ some cap) :
    (d.report cap).acked = none ∧ (d.report cap).pending = (d.pending <|> d.computed) := by
  unfold CanopyDelivery.report
  rw [if_neg h]
  exact ⟨rfl, rfl⟩

section
variable {s : State} {t : Controller} {a : Addr} {body : StatusBody} (hframe : (s.ctl.takeStatus a body).VisitFrame t a)
include hframe

/-- The node after its good STATUS. -/
theorem taken_node : (t.node a).readings = some { body := body, time := s.ctl.run.siteTime, stamp := s.ctl.run.ms } ∧ (t.node a).misses = 0
    ∧ (t.node a).state = ((s.ctl.node a).take body s.ctl.run.siteTime s.ctl.run.ms).state ∧ (t.node a).identity = (s.ctl.node a).identity := by
  obtain ⟨g, hg⟩ := takeStatus_node s.ctl a body
  obtain ⟨_, _, _, _, _, hn⟩ := hframe.node a
  rw [hn, hg]
  exact ⟨rfl, rfl, rfl, rfl⟩

theorem taken_keeps : t.settings = s.ctl.settings ∧ t.lines = s.ctl.lines ∧ t.run = s.ctl.run := by
  obtain ⟨-, -, -, -, -, hset, hlines, hrun⟩ := visitFrame_blocks hframe
  have hk := cycleKept_takeStatus s.ctl a body
  exact ⟨hset.trans hk.settings, hlines.trans hk.lines, hrun.trans hk.run⟩

theorem taken_returned (h : (s.ctl.node a).state = .SILENT) : t.raised .nodeReturned :=
  (raised_congr (visitFrame_blocks hframe).2.2.2.1 _).mpr (takeStatus_raised s.ctl a body h)

end

section
variable {s : State} {t : Controller} {a : Addr}

theorem taken_battery {r : BatteryReading} (hframe : (s.ctl.takeStatus a (.battery r)).VisitFrame t a)
    (hk : (s.ctl.node a).kind = some .BATTERY) : t.credit = s.ctl.credit ∧ t.outlets = s.ctl.outlets ∧ t.pool = s.ctl.pool
      ∧ ((s.ctl.node a).state = .SILENT → t.storage.battery.acked = none) := by
  obtain ⟨hcredit, houtlets, hpool, -, hst, -⟩ := visitFrame_blocks hframe
  obtain ⟨hcredit', houtlets', hpool'⟩ := storeStatus_leaves s.ctl a (.battery r)
  obtain ⟨x, y, hst', -, -, hx⟩ := storeStatus_storage s.ctl a (.battery r)
  refine ⟨hcredit.trans hcredit', houtlets.trans houtlets', hpool.trans hpool', fun h => ?_⟩
  rw [hst, takeStatus_battery, hst']
  exact hx h hk

theorem taken_canopy {p : Int} {cap : Cap} (hframe : (s.ctl.takeStatus a (.canopy p cap)).VisitFrame t a) :
    t.credit = s.ctl.credit ∧ t.outlets = s.ctl.outlets ∧ t.pool = s.ctl.pool
      ∧ (s.ctl.storage.canopy.acked ≠ some cap → t.storage.canopy.acked = none
        ∧ t.storage.canopy.pending = (s.ctl.storage.canopy.pending <|> s.ctl.storage.canopy.computed)) := by
  obtain ⟨hcredit, houtlets, hpool, -, hst, -⟩ := visitFrame_blocks hframe
  obtain ⟨hcredit', houtlets', hpool'⟩ := storeStatus_leaves s.ctl a (.canopy p cap)
  obtain ⟨x, y, hst', -, hy, -⟩ := storeStatus_storage s.ctl a (.canopy p cap)
  refine ⟨hcredit.trans hcredit', houtlets.trans houtlets', hpool.trans hpool', fun h => ?_⟩
  have hne : y ≠ some cap := by
    rcases hy with rfl | ⟨rfl, -⟩
    · exact h
    · simp
  have hcanopy : t.storage.canopy = (s.ctl.storeStatus a (.canopy p cap)).storage.canopy.report cap := congrArg (·.canopy) hst
  rw [hcanopy, hst']
  exact canopyReport_storage (d := { s.ctl.storage.canopy with acked := y }) hne

theorem taken_supplyMeter {p : Int} {v : Nat} (hframe : (s.ctl.takeStatus a (.supplyMeter p v)).VisitFrame t a) :
    t.credit = s.ctl.credit ∧ s.ctl.supplyJudged t v := by
  obtain ⟨hcredit, houtlets, hpool, hport, -⟩ := visitFrame_blocks hframe
  obtain ⟨hcredit', houtlets', hpool'⟩ := storeStatus_leaves s.ctl a (.supplyMeter p v)
  have hk := cycleKept_storeStatus s.ctl a (.supplyMeter p v)
  rw [takeStatus_supplyMeter] at hcredit houtlets hpool hport
  exact ⟨hcredit.trans ((supplyStep_leaves _ v).2.trans hcredit'), supplyJudged_congr (supplyStep_judged _ v) houtlets'.symm hpool'.symm
    hk.settings.symm hk.run.symm houtlets hpool hport⟩

end

end Sys2Proof.Machine
end

section
/-! SUPPORT. What an entry of a pedestal's STATUS says of its outlet (R34), and O41. -/

namespace Sys2Proof.Machine

theorem heardState_eq (c : Controller) (b : Bay) (plugged : Bool) : c.heardState b plugged =
    if (c.bay b).map.managed = false then .METER_ONLY else if plugged then .PLUGGED else .IDLE := by
  unfold Controller.heardState
  cases (c.bay b).map.managed <;> rfl

/-! ### An entry without a module fault, outside a session (R34) -/

section
variable {c : Controller} {b : Bay} {e : OutletReading} (hf : e.moduleFault = 0)
include hf

theorem outletEntry_idle_told (h : (c.outlet b).state = .IDLE) : (e.plugged = true → ((c.outletEntry b e).outlet b).state = .PLUGGED)
    ∧ (e.plugged = false → c.outletEntry b e = c.metered b e) := by
  rw [outletEntry_idle hf h]
  refine ⟨fun hp => ?_, fun hp => if_neg (by rw [hp]; decide)⟩
  rw [if_pos hp]
  exact (enter_state rfl (c.metered b e) b).1

theorem outletEntry_plugged_told (h : (c.outlet b).state = .PLUGGED) : (e.plugged = true → c.outletEntry b e = c.metered b e)
    ∧ (e.plugged = false → ((c.outletEntry b e).outlet b).state = .IDLE) := by
  rw [outletEntry_plugged hf h]
  refine ⟨fun hp => if_pos hp, fun hp => ?_⟩
  rw [if_neg (by rw [hp]; decide)]
  exact (enter_state rfl (c.metered b e) b).1

theorem outletEntry_ending_told (h : (c.outlet b).state = .ENDING) :
    (e.plugged = true → ((c.outletEntry b e).outlet b).state = .ENDING
      ∧ ((c.outletEntry b e).outlet b).overdraw = c.overdrawAfter b e.measured)
    ∧ (e.plugged = false → ((c.outletEntry b e).outlet b).state = .IDLE ∧ ((c.outletEntry b e).outlet b).overdraw = none) := by
  rw [outletEntry_ending hf h]
  refine ⟨fun hp => ?_, fun hp => ?_⟩
  · rw [if_pos hp]
    obtain ⟨hst, -, hov⟩ := metered_powerStep_checked (e := e) h (.inr (.inr rfl))
    exact ⟨hst, hov⟩
  · rw [if_neg (by rw [hp]; decide)]
    obtain ⟨hst, hov⟩ := enter_state (st := .IDLE) rfl (c.metered b e) b
    exact ⟨hst, hov rfl⟩

end

/-- Settles O41. -/
theorem statusStoresReadingsAndJudgesSupply : Obligations.StatusStoresReadingsAndJudgesSupply := by
  refine ⟨fun s a body ht hl haw _ hacc => status_final ht haw hacc hl, fun s a body ht ho haw hknown hacc => ?ordinary,
    fun s v => ?window, rfl, rfl, fun c b plugged => ?heard, fun c b e => ?entry⟩
  case ordinary =>
    obtain ⟨t, hexec, hgoes, hframe⟩ := status_visits ht haw hacc ho hknown
    obtain ⟨hreadings, hmisses, hstate, hidentity⟩ := taken_node hframe
    obtain ⟨hset, hlines, hrun⟩ := taken_keeps hframe
    refine ⟨t, hexec, hreadings, hmisses, hstate.trans (taken_present hknown body _ _), hidentity, taken_returned hframe, hset, hlines, hrun,
      ?_, fun hbody => ?_, ?_, ?_, ?_⟩
    · rintro es rfl
      have hk := kind_of_accepts_pedestal hacc
      obtain ⟨hcredit, houtlets, hpool, hport, hst, -⟩ := visitFrame_blocks hframe
      have hsteps := takeStatus_pedestal_steps s.ctl a es hk
      have hstorage := hst.trans (takeStatus_pedestal_storage s.ctl a es hk)
      intro returned c1 c2 c3 c4
      rw [hsteps] at houtlets hcredit hpool hport hgoes
      exact ⟨houtlets, hcredit, hpool, hport, hstorage, hgoes⟩
    · rwa [takeStatus_notices s.ctl a hbody] at hgoes
    · rintro r rfl
      exact taken_battery hframe (kind_of_accepts_battery hacc)
    · rintro p cap rfl
      exact taken_canopy hframe
    · rintro p v rfl
      exact taken_supplyMeter hframe
  case window =>
    refine ⟨fun h => if_pos h, fun h h' => (if_neg (Nat.not_lt.mpr h)).trans (if_pos h'),
      fun h h' => (if_neg (Nat.not_lt.mpr h)).trans (if_neg (Nat.not_lt.mpr h')),
      fun side => ⟨fun h h' => if_pos ⟨h, h'⟩, fun h => ⟨?_, ?_⟩⟩⟩
    · rintro rfl
      exact if_neg h
    · rintro rfl
      exact if_neg h
  case heard =>
    intro o c' o' st thawed
    refine ⟨fun h => heard_of_online h plugged, fun h hm => ?_⟩
    obtain ⟨p, v, ch, ho, hp⟩ := heard_outlet h hm plugged
    obtain ⟨hqueue, hpool⟩ := heard_pool h hm plugged
    rw [heardState_eq] at ho hp hqueue hpool
    rw [show o' = _ from ho]
    exact ⟨rfl, rfl, rfl, rfl, rfl, rfl, rfl, rfl, rfl, rfl, rfl, rfl, hqueue, hpool,
      fun hs hc hoff hu hmeter => hp (takesNoZero_eq_false hs hc hoff hu hmeter), heard_leaves c b plugged⟩
  case entry =>
    intro o c1 c' o' margin admitted overdraws
    refine ⟨outletEntry_of_silent, outletEntry_of_quiet, outletEntry_fault, fun hf => ⟨outletEntry_idle_told hf, outletEntry_plugged_told hf,
      outletEntry_ending_told hf, fun hin hp => (outletEntry_session hf hin).trans (sessionEntry_unplugged hp), fun hin hp => ?_⟩⟩
    have hjudged := sessionEntry_judged hin hp
    rwa [← outletEntry_session hf hin] at hjudged

end Sys2Proof.Machine
end

section
/-! SUPPORT. The commands that read: each is answered from the state that it finds, with the response buffer alone changed (R87, R102, R143,
R165, R171, R188, R193, R199, R203). -/

namespace Sys2Proof.Machine

/-- A command that puts a response into the buffer and does nothing else: what it answers is read of the controller that took it. -/
theorem command_answers {s : State} (h : s.ctl.taking = true) {code : Nat} {f : Controller → Controller} {st : Status} {y : Body}
    (hf : f (s.ctl.taken code) = (s.ctl.taken code).answer code st y) :
    command code f s = .next (s.put (s.ctl.answer code st y)) := by
  rw [command_taken _ _ h, hf, taken_answer]

theorem addrOf?_eq_some {n : Nat} (h : 1 ≤ n ∧ n ≤ 30) : ∃ a : Addr, a.val + 1 = n ∧ addrOf? n = some a :=
  ⟨⟨n - 1, by omega⟩, Nat.sub_add_cancel h.1, dif_pos h⟩

theorem addrOf?_eq_none {n : Nat} (h : ¬(1 ≤ n ∧ n ≤ 30)) : addrOf? n = none := dif_neg h

section
variable {s : State} (h : s.ctl.taking = true)
include h

/-- NODE_READ of an address answers the node there, with the age of its readings (R143). -/
theorem exec_nodeRead {n : Nat} {a : Addr} (ha : addrOf? n = some a) :
    exec (.nodeRead n) s = .next (s.put (s.ctl.answer 0x40 .OK
      (.node s.ctl.link.part a (s.ctl.node a) ((s.ctl.node a).readings.map fun r => s.ctl.run.ms - r.stamp)))) := by
  show execNodeRead n s = _
  unfold execNodeRead
  exact command_answers h (by rw [ha]; rfl)

theorem exec_nodeRead_no_addr {n : Nat} (ha : addrOf? n = none) :
    exec (.nodeRead n) s = .next (s.put (s.ctl.answer 0x40 .BAD_PARAM .none)) := by
  show execNodeRead n s = _
  unfold execNodeRead
  exact command_answers h (by rw [ha]; rfl)

/-- SETTING_READ answers an item from the settings block (R171). -/
theorem exec_settingRead {g i : Nat} {ix : Option Nat} {it : Item} (hi : itemOf g i ix = some it) :
    exec (.settingRead g i ix) s = .next (s.put (s.ctl.answer 0x52 .OK (.item g i (s.ctl.settings.read it)))) := by
  show execSettingRead g i ix s = _
  unfold execSettingRead
  exact command_answers h (by rw [hi]; rfl)

theorem exec_settingRead_no_item {g i : Nat} {ix : Option Nat} (hi : itemOf g i ix = none) :
    exec (.settingRead g i ix) s = .next (s.put (s.ctl.answer 0x52 .BAD_PARAM .none)) := by
  show execSettingRead g i ix s = _
  unfold execSettingRead
  exact command_answers h (by rw [hi]; rfl)

end

/-- Settles O4. -/
theorem readCommandsAnswerAndChangeNothingElse : Obligations.ReadCommandsAnswerAndChangeNothingElse := by
  intro s h
  refine ⟨command_answers h rfl, command_answers h rfl, fun n hn => ?node, fun n hn => exec_nodeRead_no_addr h (addrOf?_eq_none hn),
    fun g i ix it hi => exec_settingRead h hi, fun g i ix hi => exec_settingRead_no_item h hi,
    command_answers h rfl, command_answers h rfl, command_answers h rfl, command_answers h rfl⟩
  case node =>
    obtain ⟨a, hval, ha⟩ := addrOf?_eq_some hn
    exact ⟨a, hval, exec_nodeRead h ha⟩

end Sys2Proof.Machine
end

section
/-! SUPPORT. The first pass of a round: the order of the first-pass list (R77), the walk with what it gives and counts (R78, R79), and the
value that a list of pairs holds for a bay. -/

namespace Sys2Proof.Machine

/-! ### The first-pass list (R77) -/

/-- The order of the first-pass list: by effective priority. -/
abbrev PassEntry.before (x y : PassEntry) : Prop := x.priority ≤ y.priority

theorem passSort_eq_insertionSort (l : List PassEntry) : passSort l = l.insertionSort PassEntry.before := by
  have hinsert : ∀ (e : PassEntry) (l : List PassEntry), passInsert e l = l.orderedInsert PassEntry.before e := fun e l => by
    induction l with
    | nil => rfl
    | cons x xs ih => rw [passInsert, ih, List.orderedInsert_cons]
  induction l with
  | nil => rfl
  | cons x xs ih => rw [List.insertionSort_cons, ← ih, ← hinsert]; rfl

theorem mem_passSort {l : List PassEntry} {x : PassEntry} : x ∈ passSort l ↔ x ∈ l := by
  rw [passSort_eq_insertionSort, List.mem_insertionSort]

theorem passSort_pairwise (l : List PassEntry) : (passSort l).Pairwise fun x y => x.priority ≤ y.priority := by
  have : Std.Total PassEntry.before := ⟨fun x y => Nat.le_total x.priority y.priority⟩
  have : IsTrans PassEntry PassEntry.before := ⟨fun _ _ _ => Nat.le_trans⟩
  rw [passSort_eq_insertionSort]
  exact l.pairwise_insertionSort _

/-- Entries of one priority keep the order that they had: the sort is stable. -/
theorem passSort_filter_priority (l : List PassEntry) (p : Nat) :
    ((passSort l).filter fun x => x.priority == p) = l.filter fun x => x.priority == p := by
  have hequal : (l.filter fun x => x.priority == p).Pairwise PassEntry.before := by
    refine List.pairwise_of_forall_mem_list fun x hx y hy => ?_
    rw [List.mem_filter, beq_iff_eq] at hx hy
    exact (hx.2.trans hy.2.symm).le
  have hsub := (List.sublist_insertionSort hequal List.filter_sublist).filter fun x => x.priority == p
  have hperm := (List.perm_insertionSort PassEntry.before l).filter fun x => x.priority == p
  simp only [List.filter_filter, Bool.and_self] at hsub
  rw [passSort_eq_insertionSort]
  exact (hsub.eq_of_length hperm.length_eq.symm).symm

/-- An entry of the list stands at the effective priority of its bay, with that bay's minimum. -/
theorem firstPassList_entry {c : Controller} {x : PassEntry} (h : x ∈ c.firstPassList) :
    x.priority = c.priority x.bay ∧ x.minimum = (c.bay x.bay).pMin := by
  rw [Controller.firstPassList, mem_passSort, List.mem_append, List.mem_map, List.mem_map] at h
  rcases h with ⟨b, -, rfl⟩ | ⟨b, -, rfl⟩ <;> exact ⟨rfl, rfl⟩

/-- The entries of one priority: the running outlets by bay, then the candidates in queue order. -/
theorem firstPassList_level (c : Controller) (level : Nat) :
    (c.firstPassList.filter fun x => x.priority == level)
      = (((List.finRange 24).filter fun b => c.runs b && c.priority b == level).map (c.passEntry true))
        ++ ((c.pool.queue.filter fun e => e.active && c.priority e.bay == level).map fun e => c.passEntry false e.bay) := by
  have hplace : ∀ running, (fun x : PassEntry => x.priority == level) ∘ c.passEntry running = fun b => c.priority b == level :=
    fun _ => rfl
  rw [Controller.firstPassList, passSort_filter_priority, List.filter_append, List.filter_map, List.filter_map, List.filter_map, hplace,
    hplace, baysWhere, List.filter_filter, List.filter_filter, List.map_map]
  simp only [Bool.and_comm]
  rfl

/-! ### The walk (R78, R79) -/

/-- The outcome at a place, with the quantity and the start count that the walk has come to (R78, R79). -/
def PassEntry.judged (stagger q n : Nat) (e : PassEntry) : PassOutcome :=
  if e.running then (if e.minimum ≤ q then .MINIMUM else .BUDGET)
  else if e.minimum ≤ q ∧ n < stagger then .ADMITTED else .WAITING

/-- What a place takes of the quantity. -/
def minimumTaken (x : PassEntry × PassOutcome) : Nat := if x.2.given then x.1.minimum else 0

/-- The start count after a place. -/
def startsAfter (n : Nat) (x : PassEntry × PassOutcome) : Nat :=
  if x.2 = .ADMITTED then n + 1 else if x.2 = .BUDGET ∧ x.1.starting = true then n - 1 else n

/-- The minima that a walked list has given. -/
def minimaGiven (w : List (PassEntry × PassOutcome)) : Nat := ((w.filter fun x => x.2.given).map fun x => x.1.minimum).sum

theorem given_eq (o : PassOutcome) : (o == .MINIMUM || o == .ADMITTED) = o.given := by cases o <;> rfl

theorem minimaGiven_cons (x : PassEntry × PassOutcome) (w : List (PassEntry × PassOutcome)) :
    minimaGiven (x :: w) = minimumTaken x + minimaGiven w := by
  unfold minimaGiven minimumTaken
  cases h : x.2.given <;> simp [h]

/-- One place of the walk, and the walk of the rest. -/
theorem walk_cons (stagger q n : Nat) (e : PassEntry) (es : List PassEntry) :
    let x := (e, e.judged stagger q n)
    let rest := walk stagger (q - minimumTaken x) (startsAfter n x) es
    walk stagger q n (e :: es) = (x :: rest.1, rest.2) := by
  rw [walk]
  by_cases hrun : e.running = true <;> by_cases hmin : e.minimum ≤ q
  · simp [PassEntry.judged, minimumTaken, startsAfter, PassOutcome.given, hrun, hmin]
  · simp [PassEntry.judged, minimumTaken, startsAfter, PassOutcome.given, hrun, hmin]
  · by_cases hn : n < stagger <;> simp [PassEntry.judged, minimumTaken, startsAfter, PassOutcome.given, hrun, hmin, hn]
  · simp [PassEntry.judged, minimumTaken, startsAfter, PassOutcome.given, hrun, hmin]

/-- A minimum is given where it is covered alone. -/
theorem minimum_le_of_given {stagger q n : Nat} {e : PassEntry} (h : (e.judged stagger q n).given = true) : e.minimum ≤ q := by
  by_contra hmin
  cases hrun : e.running <;> simp [PassEntry.judged, PassOutcome.given, hrun, hmin] at h

theorem minimumTaken_judged_le (stagger q n : Nat) (e : PassEntry) : minimumTaken (e, e.judged stagger q n) ≤ q := by
  unfold minimumTaken
  split
  · next h => exact minimum_le_of_given h
  · exact Nat.zero_le q

theorem walk_entries (stagger q n : Nat) (l : List PassEntry) : ((walk stagger q n l).1.map fun x => x.1) = l := by
  induction l generalizing q n with
  | nil => rfl
  | cons e es ih => rw [walk_cons, List.map_cons, ih]

/-- What the walk gives and what it leaves is what it started with. -/
theorem walk_left_add (stagger q n : Nat) (l : List PassEntry) :
    (walk stagger q n l).2 + minimaGiven (walk stagger q n l).1 = q := by
  induction l generalizing q n with
  | nil => rfl
  | cons e es ih =>
    have hle := minimumTaken_judged_le stagger q n e
    have hrest := ih (q - minimumTaken (e, e.judged stagger q n)) (startsAfter n (e, e.judged stagger q n))
    rw [walk_cons, minimaGiven_cons]
    dsimp only
    omega

/-- Each place is judged with what the places before it have left and counted. -/
theorem walk_judges {stagger q n i : Nat} {l : List PassEntry} {x : PassEntry × PassOutcome}
    (h : (walk stagger q n l).1[i]? = some x) :
    x.2 = x.1.judged stagger (q - minimaGiven ((walk stagger q n l).1.take i)) (((walk stagger q n l).1.take i).foldl startsAfter n) := by
  induction l generalizing q n i with
  | nil => simp [walk] at h
  | cons e es ih =>
    rw [walk_cons] at h ⊢
    cases i with
    | zero =>
      obtain rfl : _ = x := Option.some.inj h
      rfl
    | succ i =>
      rw [List.take_succ_cons, minimaGiven_cons, Nat.sub_add_eq, List.foldl_cons]
      exact ih h

/-! ### The value for a bay in a list of pairs -/

section
variable {α : Type}

@[simp] theorem bayValue_nil (b : Bay) : bayValue b ([] : List (Bay × α)) = none := rfl

theorem bayValue_cons (b : Bay) (x : Bay × α) (l : List (Bay × α)) :
    bayValue b (x :: l) = if x.1 = b then some x.2 else bayValue b l := by
  unfold bayValue
  by_cases h : x.1 = b <;> simp [h]

end

/-- The values that a list of pairs holds for the bays sum to no more than all its values. -/
theorem sum_bayValue_le (l : List (Bay × Nat)) : ∑ b : Bay, (bayValue b l).getD 0 ≤ (l.map (·.2)).sum := by
  induction l with
  | nil => simp
  | cons x xs ih =>
    have hb : ∀ b : Bay, (bayValue b (x :: xs)).getD 0 ≤ (if x.1 = b then x.2 else 0) + (bayValue b xs).getD 0 := fun b => by
      rw [bayValue_cons]
      split <;> simp
    calc ∑ b : Bay, (bayValue b (x :: xs)).getD 0
        ≤ ∑ b : Bay, ((if x.1 = b then x.2 else 0) + (bayValue b xs).getD 0) := Finset.sum_le_sum fun b _ => hb b
      _ = x.2 + ∑ b : Bay, (bayValue b xs).getD 0 := by rw [Finset.sum_add_distrib, Finset.sum_ite_eq, if_pos (Finset.mem_univ _)]
      _ ≤ ((x :: xs).map (·.2)).sum := by rw [List.map_cons, List.sum_cons]; exact Nat.add_le_add_left ih _

end Sys2Proof.Machine
end

section
/-! SUPPORT. The second pass of a round: the water-fill (R81), the levels (R80), the allocations that a round computes (R80 to R83), and the
obligations on them. -/

namespace Sys2Proof.Machine

/-! ### The last step of a water-fill (R81) -/

theorem bays_sorted (bays : List Bay) : bays.foldr bayInsert [] = bays.insertionSort (· ≤ ·) := by
  have hinsert : ∀ (x : Bay) (l : List Bay), bayInsert x l = l.orderedInsert (· ≤ ·) x := fun x l => by
    induction l with
    | nil => rfl
    | cons y ys ih => rw [bayInsert, ih, List.orderedInsert_cons]
  induction bays with
  | nil => rfl
  | cons x xs ih => rw [List.foldr_cons, ih, hinsert, List.insertionSort_cons]

theorem length_shareOut (share more : Nat) (bays : List Bay) : (shareOut share more bays).length = bays.length := by
  simp [shareOut, bays_sorted]

theorem mem_shareOut_le {share more : Nat} {bays : List Bay} {y : Bay × Nat} (h : y ∈ shareOut share more bays) :
    y.1 ∈ bays ∧ y.2 ≤ share + 1 := by
  simp only [shareOut, bays_sorted, List.mem_map] at h
  obtain ⟨⟨b, i⟩, hmem, rfl⟩ := h
  have hb : b ∈ bays.insertionSort (· ≤ ·) := List.fst_mem_of_mem_zipIdx hmem
  refine ⟨(List.mem_insertionSort _).mp hb, ?_⟩
  dsimp only
  split <;> omega

/-- The shares sum to one for each bay and 1 W for each of the first ones. -/
theorem sum_shareOut (share more : Nat) (bays : List Bay) :
    ((shareOut share more bays).map (·.2)).sum = share * bays.length + min more bays.length := by
  have hsum : ∀ (l : List Bay) (k : Nat), ((l.zipIdx k).map fun x => if x.2 < more then share + 1 else share).sum
      = share * l.length + (min more (k + l.length) - k) := fun l => by
    induction l with
    | nil => intro k; simp
    | cons b l ih =>
      intro k
      rw [List.zipIdx_cons, List.map_cons, List.sum_cons, ih, List.length_cons, Nat.mul_add_one]
      dsimp only
      split <;> omega
  unfold shareOut
  rw [List.map_map, bays_sorted]
  refine (hsum _ 0).trans ?_
  rw [List.length_insertionSort, Nat.zero_add, Nat.sub_zero]

/-- In an ascending list the place of a bay is the number of lower ones. -/
theorem count_lower_eq_index {l : List Bay} (hl : l.Pairwise (· < ·)) {i : Nat} {b : Bay} (h : l[i]? = some b) :
    (l.filter fun y => decide (y < b)).length = i := by
  induction l generalizing i with
  | nil => simp at h
  | cons y ys ih =>
    obtain ⟨hy, hys⟩ := List.pairwise_cons.mp hl
    cases i with
    | zero =>
      obtain rfl : y = b := by simpa using h
      have hnone : ys.filter (fun z => decide (z < y)) = [] := List.filter_eq_nil_iff.mpr fun z hz => by simpa using (hy z hz).le
      simp [hnone]
    | succ i =>
      have hb : ys[i]? = some b := by simpa using h
      have hlt : y < b := hy b (List.mem_of_getElem? hb)
      simp [hlt, ih hys hb]

/-- Each bay of the group gets the share, and the first of them in bay order 1 W more. -/
theorem mem_shareOut {bays : List Bay} (hnodup : bays.Nodup) {b : Bay} (hb : b ∈ bays) (share more : Nat) :
    (b, if (bays.filter fun y => decide (y < b)).length < more then share + 1 else share) ∈ shareOut share more bays := by
  have hperm := List.perm_insertionSort (· ≤ ·) bays
  have hsorted : (bays.insertionSort (· ≤ ·)).Pairwise (· < ·) :=
    ((List.pairwise_insertionSort (· ≤ ·) bays).and (hperm.nodup_iff.mpr hnodup)).imp fun h => lt_of_le_of_ne h.1 h.2
  obtain ⟨i, hi⟩ := List.getElem?_of_mem (hperm.mem_iff.mpr hb)
  rw [(hperm.symm.filter _).length_eq, count_lower_eq_index hsorted hi]
  simp only [shareOut, bays_sorted, List.mem_map]
  exact ⟨(b, i), by rwa [List.mem_zipIdx_iff_getElem?], rfl⟩

/-! ### The water-fill (R81) -/

/-- The order of a group in its water-fill: by extra, ties by bay. -/
abbrev cheaper (x y : Bay × Nat) : Prop := x.2 < y.2 ∨ (x.2 = y.2 ∧ x.1 ≤ y.1)

theorem group_sorted (g : List (Bay × Nat)) : g.foldr extraInsert [] = g.insertionSort cheaper := by
  have hinsert : ∀ (x : Bay × Nat) (l : List (Bay × Nat)), extraInsert x l = l.orderedInsert cheaper x := fun x l => by
    induction l with
    | nil => rfl
    | cons y ys ih => rw [extraInsert, ih, List.orderedInsert_cons]
  induction g with
  | nil => rfl
  | cons x xs ih => rw [List.foldr_cons, ih, hinsert, List.insertionSort_cons]

theorem sorted_perm (g : List (Bay × Nat)) : (g.foldr extraInsert []).Perm g := by
  rw [group_sorted]
  exact List.perm_insertionSort _ _

theorem sorted_pairwise (g : List (Bay × Nat)) : (g.foldr extraInsert []).Pairwise fun x y => x.2 ≤ y.2 := by
  have : Std.Total cheaper := ⟨fun x y => by simp only [cheaper, Fin.le_def]; omega⟩
  have : IsTrans (Bay × Nat) cheaper := ⟨fun x y z => by simp only [cheaper, Fin.le_def]; omega⟩
  rw [group_sorted]
  exact (List.pairwise_insertionSort cheaper g).imp fun h => by unfold cheaper at h; omega

theorem extrasSum_cons (x : Bay × Nat) (g : List (Bay × Nat)) : extrasSum (x :: g) = x.2 + extrasSum g := by simp [extrasSum]

theorem extrasSum_append (g g' : List (Bay × Nat)) : extrasSum (g ++ g') = extrasSum g + extrasSum g' := by simp [extrasSum]

theorem extrasSum_perm {g g' : List (Bay × Nat)} (h : g.Perm g') : extrasSum g = extrasSum g' := (h.map _).sum_nat

/-- A water-fill of less than the extras: the lowest extras whole, each at most the share, and the share for the others, each of whose
extras is above it; the remainder is less than 1 W for each of them. -/
theorem waterFill_split {q : Nat} {g : List (Bay × Nat)} (hg : g.Pairwise fun x y => x.2 ≤ y.2) (hq : q < extrasSum g) :
    ∃ low high share more, g = low ++ high ∧ waterFill q g = low ++ shareOut share more (high.map (·.1))
      ∧ (∀ x ∈ low, x.2 ≤ share) ∧ (∀ x ∈ high, share < x.2) ∧ more < high.length
      ∧ extrasSum low + share * high.length + more = q := by
  induction g generalizing q with
  | nil => simp [extrasSum] at hq
  | cons x xs ih =>
    obtain ⟨hx, hxs⟩ := List.pairwise_cons.mp hg
    rw [extrasSum_cons] at hq
    rw [waterFill]
    by_cases hle : x.2 ≤ q / (xs.length + 1)
    · have hmul : x.2 * (xs.length + 1) ≤ q := (Nat.le_div_iff_mul_le (Nat.succ_pos _)).mp hle
      have hxq : x.2 ≤ q := hle.trans (Nat.div_le_self _ _)
      obtain ⟨low, high, share, more, rfl, hfill, hlow, hhigh, hmore, hsum⟩ := ih hxs (q := q - x.2) (by omega)
      rw [if_pos hle, hfill]
      refine ⟨x :: low, high, share, more, rfl, rfl, List.forall_mem_cons.mpr ⟨?_, hlow⟩, hhigh, hmore, ?_⟩
      · by_contra hlt
        obtain rfl : low = [] := List.eq_nil_iff_forall_not_mem.mpr fun y hy =>
          hlt ((hx y (List.mem_append_left _ hy)).trans (hlow y hy))
        have hshare : (share + 1) * high.length ≤ x.2 * high.length := Nat.mul_le_mul_right _ (Nat.lt_of_not_le hlt)
        simp only [List.nil_append, Nat.mul_add_one] at hmul
        simp only [extrasSum, List.map_nil, List.sum_nil] at hsum
        rw [Nat.add_mul, Nat.one_mul] at hshare
        omega
      · rw [extrasSum_cons]
        omega
    · rw [if_neg hle]
      refine ⟨[], x :: xs, q / (xs.length + 1), q - q / (xs.length + 1) * (xs.length + 1), rfl, rfl, by simp,
        List.forall_mem_cons.mpr ⟨Nat.lt_of_not_le hle, fun y hy => (Nat.lt_of_not_le hle).trans_le (hx y hy)⟩, ?_, ?_⟩
      · rw [List.length_cons, ← Nat.mod_eq_sub_div_mul]
        exact Nat.mod_lt _ (Nat.succ_pos _)
      · have := Nat.div_mul_le_self q (xs.length + 1)
        simp only [extrasSum, List.map_nil, List.sum_nil, List.length_cons]
        omega

/-! ### A level's shares (R80, R81) -/

theorem shareLevel_of_covered {q : Nat} {g : List (Bay × Nat)} (h : extrasSum g ≤ q) : shareLevel q g = (g, q - extrasSum g) := if_pos h

/-- A level that what is left does not cover: its group is the lowest extras and the others, and takes all that is left. -/
theorem shareLevel_of_short {q : Nat} {g : List (Bay × Nat)} (h : q < extrasSum g) :
    (shareLevel q g).2 = 0 ∧ ∃ low high share more, g.Perm (low ++ high)
      ∧ (shareLevel q g).1 = low ++ shareOut share more (high.map (·.1))
      ∧ (∀ x ∈ low, x.2 ≤ share) ∧ (∀ x ∈ high, share < x.2) ∧ more < high.length
      ∧ extrasSum low + share * high.length + more = q := by
  have hperm := sorted_perm g
  obtain ⟨low, high, share, more, hsplit, hfill, hrest⟩ := waterFill_split (sorted_pairwise g) (by rwa [extrasSum_perm hperm])
  have hlevel : shareLevel q g = (waterFill q (g.foldr extraInsert []), 0) := if_neg (Nat.not_le.mpr h)
  rw [hlevel]
  exact ⟨rfl, low, high, share, more, by rw [← hsplit]; exact hperm.symm, hfill, hrest⟩

theorem shareLevel_left (q : Nat) (g : List (Bay × Nat)) : (shareLevel q g).2 = q - extrasSum g := by
  rcases Nat.lt_or_ge q (extrasSum g) with h | h
  · rw [(shareLevel_of_short h).1]
    omega
  · rw [shareLevel_of_covered h]

/-- What a level gets and what it leaves is what it was given. -/
theorem shareLevel_sum (q : Nat) (g : List (Bay × Nat)) : extrasSum (shareLevel q g).1 + (shareLevel q g).2 = q := by
  rcases Nat.lt_or_ge q (extrasSum g) with h | h
  · obtain ⟨hleft, low, high, share, more, -, hshares, -, -, hmore, hsum⟩ := shareLevel_of_short h
    have hhigh := sum_shareOut share more (high.map (·.1))
    rw [hleft, hshares, extrasSum_append, extrasSum, extrasSum, hhigh, List.length_map, Nat.min_eq_left hmore.le]
    unfold extrasSum at hsum
    omega
  · rw [shareLevel_of_covered h]
    dsimp only
    omega

theorem shareLevel_length (q : Nat) (g : List (Bay × Nat)) : (shareLevel q g).1.length = g.length := by
  rcases Nat.lt_or_ge q (extrasSum g) with h | h
  · obtain ⟨-, low, high, share, more, hperm, hshares, -⟩ := shareLevel_of_short h
    rw [hshares, hperm.length_eq, List.length_append, List.length_append, length_shareOut, List.length_map]
  · rw [shareLevel_of_covered h]

/-- No outlet of a level gets more than its extra. -/
theorem shareLevel_le {q : Nat} {g : List (Bay × Nat)} {y : Bay × Nat} (hy : y ∈ (shareLevel q g).1) : ∃ x ∈ g, x.1 = y.1 ∧ y.2 ≤ x.2 := by
  rcases Nat.lt_or_ge q (extrasSum g) with h | h
  · obtain ⟨-, low, high, share, more, hperm, hshares, -, hhigh, -, -⟩ := shareLevel_of_short h
    rw [hshares, List.mem_append] at hy
    rcases hy with hy | hy
    · exact ⟨y, hperm.mem_iff.mpr (List.mem_append_left _ hy), rfl, le_refl _⟩
    · obtain ⟨hbay, hle⟩ := mem_shareOut_le hy
      obtain ⟨x, hx, hxy⟩ := List.mem_map.mp hbay
      exact ⟨x, hperm.mem_iff.mpr (List.mem_append_right _ hx), hxy, hle.trans (hhigh x hx)⟩
  · rw [shareLevel_of_covered h] at hy
    exact ⟨y, hy, rfl, le_refl _⟩

/-- The water-fill's shares: an extra at or below the share whole, and the share for the others, 1 W more for the first of them by bay. -/
theorem shareLevel_fills {q : Nat} {g : List (Bay × Nat)} (hnodup : (g.map (·.1)).Nodup) (hq : q < extrasSum g) :
    ∃ share ≤ q, ∃ more < g.length, ∀ x ∈ g,
      (x.1, if x.2 ≤ share then x.2
            else if (g.filter fun y => decide (share < y.2 ∧ y.1 < x.1)).length < more then share + 1 else share)
        ∈ (shareLevel q g).1 := by
  obtain ⟨-, low, high, share, more, hperm, hshares, hlow, hhigh, hmore, hsum⟩ := shareLevel_of_short hq
  have hlen : g.length = low.length + high.length := by rw [hperm.length_eq, List.length_append]
  have hshare : share * 1 ≤ share * high.length := Nat.mul_le_mul_left _ (by omega)
  refine ⟨share, by omega, more, by omega, fun x hx => ?_⟩
  rw [hshares, List.mem_append]
  rcases List.mem_append.mp (hperm.mem_iff.mp hx) with hx | hx
  · rw [if_pos (hlow x hx)]
    exact .inl hx
  · rw [if_neg (Nat.not_le.mpr (hhigh x hx))]
    have habove : (g.filter fun y => decide (share < y.2 ∧ y.1 < x.1)).length
        = ((high.map (·.1)).filter fun b => decide (b < x.1)).length := by
      have hnone : low.filter (fun y => decide (share < y.2 ∧ y.1 < x.1)) = [] :=
        List.filter_eq_nil_iff.mpr fun y hy => by simp [Nat.not_lt.mpr (hlow y hy)]
      have hall : high.filter (fun y => decide (share < y.2 ∧ y.1 < x.1)) = high.filter fun y => decide (y.1 < x.1) :=
        List.filter_congr fun y hy => by simp [hhigh y hy]
      rw [(hperm.filter _).length_eq, List.filter_append, hnone, hall, List.filter_map, List.length_map]
      rfl
    rw [habove]
    have hbays : (high.map (·.1)).Nodup := by
      have := (hperm.map (·.1)).nodup_iff.mp hnodup
      rw [List.map_append] at this
      exact this.of_append_right
    exact .inr (mem_shareOut hbays (List.mem_map_of_mem hx) share more)

end Sys2Proof.Machine
end

section
/-! SUPPORT. The levels of the second pass (R80), the allocations that a round computes (R80 to R83), and the obligations on them. -/

namespace Sys2Proof.Machine

/-! ### The levels (R80) -/

/-- No outlet gets more than the extra it has in its level. -/
theorem secondPass_le {group : Nat → List (Bay × Nat)} {q : Nat} {levels : List Nat} {y : Bay × Nat}
    (hy : y ∈ secondPass group q levels) : ∃ level ∈ levels, ∃ x ∈ group level, x.1 = y.1 ∧ y.2 ≤ x.2 := by
  induction levels generalizing q with
  | nil => simp [secondPass] at hy
  | cons level levels ih =>
    rcases List.mem_append.mp hy with hy | hy
    · exact ⟨level, List.mem_cons_self, shareLevel_le hy⟩
    · obtain ⟨l, hl, hx⟩ := ih hy
      exact ⟨l, List.mem_cons_of_mem _ hl, hx⟩

/-- All levels together get no more than the second pass starts with. -/
theorem secondPass_sum_le (group : Nat → List (Bay × Nat)) (q : Nat) (levels : List Nat) :
    extrasSum (secondPass group q levels) ≤ q := by
  induction levels generalizing q with
  | nil => exact Nat.zero_le q
  | cons level levels ih =>
    have hlevel := shareLevel_sum q (group level)
    have hrest := ih (shareLevel q (group level)).2
    rw [secondPass, extrasSum_append]
    omega

/-- The later levels share what the earlier ones have left. -/
theorem secondPass_append (group : Nat → List (Bay × Nat)) (q : Nat) (levels levels' : List Nat) :
    secondPass group q (levels ++ levels')
      = secondPass group q levels ++ secondPass group (q - (levels.map fun l => extrasSum (group l)).sum) levels' := by
  induction levels generalizing q with
  | nil => rfl
  | cons level levels ih =>
    rw [List.cons_append, secondPass, secondPass, ih, shareLevel_left, List.map_cons, List.sum_cons, Nat.sub_add_eq, List.append_assoc]

section
variable {α : Type}

theorem bayValue_eq_none {b : Bay} {l : List (Bay × α)} (h : ∀ x ∈ l, x.1 ≠ b) : bayValue b l = none := by
  rw [bayValue, List.find?_eq_none.mpr fun x hx => by simpa using h x hx]
  rfl

theorem mem_of_bayValue {b : Bay} {l : List (Bay × α)} {v : α} (h : bayValue b l = some v) : (b, v) ∈ l := by
  obtain ⟨x, hx, rfl⟩ := Option.map_eq_some_iff.mp h
  have hb : x.1 = b := by simpa using List.find?_some hx
  rw [← hb]
  exact List.mem_of_find?_eq_some hx

theorem bayValue_append (b : Bay) (l l' : List (Bay × α)) : bayValue b (l ++ l') = (bayValue b l <|> bayValue b l') := by
  unfold bayValue
  rw [List.find?_append]
  cases l.find? fun x => x.1 == b <;> rfl

/-- The value for a bay is that of its first pair. -/
theorem bayValue_of_first {l : List (Bay × α)} {i : Nat} {x : Bay × α} (h : l[i]? = some x) (hfirst : ∀ y ∈ l.take i, y.1 ≠ x.1) :
    bayValue x.1 l = some x.2 := by
  induction l generalizing i with
  | nil => simp at h
  | cons y ys ih =>
    rw [bayValue_cons]
    cases i with
    | zero =>
      obtain rfl : y = x := Option.some.inj h
      exact if_pos rfl
    | succ i =>
      rw [List.take_succ_cons, List.forall_mem_cons] at hfirst
      rw [if_neg hfirst.1]
      exact ih h hfirst.2

end

/-- The figures of a list summed level by level are its figures below a level. -/
theorem sum_levels_below {α : Type} (l : List α) (key f : α → Nat) (p : Nat) :
    ((List.range p).map fun k => ((l.filter fun x => key x == k).map f).sum).sum = ((l.filter fun x => decide (key x < p)).map f).sum := by
  have hstep : ∀ p, ((l.filter fun x => decide (key x ≤ p)).map f).sum
      = ((l.filter fun x => decide (key x < p)).map f).sum + ((l.filter fun x => key x == p).map f).sum := fun p => by
    induction l with
    | nil => rfl
    | cons x xs ih =>
      simp only [List.filter_cons, decide_eq_true_eq, beq_iff_eq]
      rcases Nat.lt_trichotomy (key x) p with h | h | h
      · simp [h, h.ne, h.le, ih, Nat.add_assoc]
      · simp [h, ih, Nat.add_left_comm]
      · simp [Nat.not_lt.mpr h.le, h.ne', Nat.not_le.mpr h, ih]
  induction p with
  | zero => simp
  | succ p ih =>
    rw [List.range_succ, List.map_append, List.sum_append, ih, List.map_singleton, List.sum_singleton, ← hstep]
    simp only [Nat.lt_succ_iff]

/-! ### The allocations of a round -/

/-- The places that the walk of a round has given their minimum. -/
def Controller.placesGiven (c : Controller) (pool : Nat) : List (PassEntry × PassOutcome) :=
  (walk c.inForce.stagger pool c.startCount c.firstPassList).1.filter fun x => x.2.given

/-- A level's group: the bays that were given their minimum there, with their extras (R80). -/
def Controller.levelGroup (c : Controller) (pool level : Nat) : List (Bay × Nat) :=
  ((c.placesGiven pool).filter fun x => x.1.priority == level).map fun x => (x.1.bay, c.extra x.1.bay)

/-- The extras of a round. -/
def Controller.extrasGiven (c : Controller) (pool : Nat) : List (Bay × Nat) :=
  secondPass (c.levelGroup pool) (walk c.inForce.stagger pool c.startCount c.firstPassList).2 (List.range 32)

theorem table_data_eq {α : Type} {n : Nat} (t : Table α n) : t.data = (List.finRange n).map t.get :=
  congrArg Table.data (Table.ext_get fun i => (Table.get_ofFn t.get i).symm)

section
variable (c : Controller) (pool : Nat)

theorem allocate_outcome (b : Bay) : (c.allocate pool).1.get b
    = bayValue b ((walk c.inForce.stagger pool c.startCount c.firstPassList).1.map fun x => (x.1.bay, x.2)) := Table.get_ofFn _ b

/-- A bay that was given its minimum gets its extra besides, and every other gets 0 W. -/
theorem allocate_alloc (b : Bay) : (c.allocate pool).2.get b
    = match bayValue b ((c.placesGiven pool).map fun x => (x.1.bay, x.1.minimum)) with
      | some m => m + (bayValue b (c.extrasGiven pool)).getD 0
      | none => 0 := Table.get_ofFn _ b

theorem alloc_eq_minimum_add {b : Bay} {m : Nat}
    (h : bayValue b ((c.placesGiven pool).map fun x => (x.1.bay, x.1.minimum)) = some m) :
    (c.allocate pool).2.get b = m + (bayValue b (c.extrasGiven pool)).getD 0 := by rw [allocate_alloc, h]

theorem alloc_eq_zero {b : Bay} (h : bayValue b ((c.placesGiven pool).map fun x => (x.1.bay, x.1.minimum)) = none) :
    (c.allocate pool).2.get b = 0 := by rw [allocate_alloc, h]

theorem alloc_le (b : Bay) : (c.allocate pool).2.get b
    ≤ (bayValue b ((c.placesGiven pool).map fun x => (x.1.bay, x.1.minimum))).getD 0 + (bayValue b (c.extrasGiven pool)).getD 0 := by
  cases h : bayValue b ((c.placesGiven pool).map fun x => (x.1.bay, x.1.minimum)) with
  | none => rw [alloc_eq_zero c pool h]; exact Nat.zero_le _
  | some m => rw [alloc_eq_minimum_add c pool h]; rfl

/-- A place that was given its minimum is one of the list, at the priority and with the minimum of its bay. -/
theorem placesGiven_entry {x : PassEntry × PassOutcome} (h : x ∈ c.placesGiven pool) :
    x.1.priority = c.priority x.1.bay ∧ x.1.minimum = (c.bay x.1.bay).pMin := by
  refine firstPassList_entry ?_
  rw [← walk_entries c.inForce.stagger pool c.startCount c.firstPassList]
  exact List.mem_map_of_mem (List.mem_of_mem_filter h)

theorem mem_levelGroup {level : Nat} {y : Bay × Nat} (h : y ∈ c.levelGroup pool level) : c.priority y.1 = level ∧ y.2 = c.extra y.1 := by
  obtain ⟨x, hx, rfl⟩ := List.mem_map.mp h
  obtain ⟨hx, hp⟩ := List.mem_filter.mp hx
  exact ⟨(placesGiven_entry c pool hx).1.symm.trans (beq_iff_eq.mp hp), rfl⟩

theorem extrasGiven_le {b : Bay} {v : Nat} (h : bayValue b (c.extrasGiven pool) = some v) : v ≤ c.extra b := by
  obtain ⟨level, -, x, hx, hb, hv⟩ := secondPass_le (mem_of_bayValue h)
  obtain rfl : x.1 = b := hb
  exact hv.trans_eq (mem_levelGroup c pool hx).2

/-- The allocations of a round sum to no more than its pool (R82). -/
theorem allocate_sum_le : (c.allocate pool).2.data.sum ≤ pool := by
  have hleft := walk_left_add c.inForce.stagger pool c.startCount c.firstPassList
  have hextras : extrasSum (c.extrasGiven pool) ≤ _ := secondPass_sum_le _ _ _
  have hminima : (((c.placesGiven pool).map fun x => (x.1.bay, x.1.minimum)).map (·.2)).sum
      = minimaGiven (walk c.inForce.stagger pool c.startCount c.firstPassList).1 := by rw [List.map_map]; rfl
  calc (c.allocate pool).2.data.sum = ∑ b : Bay, (c.allocate pool).2.get b := by
        rw [Fin.sum_univ_def, table_data_eq]
    _ ≤ ∑ b : Bay, ((bayValue b ((c.placesGiven pool).map fun x => (x.1.bay, x.1.minimum))).getD 0
          + (bayValue b (c.extrasGiven pool)).getD 0) := Finset.sum_le_sum fun b _ => alloc_le c pool b
    _ ≤ minimaGiven (walk c.inForce.stagger pool c.startCount c.firstPassList).1 + extrasSum (c.extrasGiven pool) := by
        rw [Finset.sum_add_distrib, ← hminima]
        exact Nat.add_le_add (sum_bayValue_le _) (sum_bayValue_le _)
    _ ≤ pool := by omega

end

/-- Settles O34. -/
theorem allocationsSumWithinPool : Obligations.AllocationsSumWithinPool := by
  refine ⟨allocate_sum_le, fun c => ⟨passSort_pairwise _, firstPassList_level c⟩, fun stagger pool starts l => ⟨walk_entries _ _ _ l, ?_,
    fun i x hx => ?_⟩⟩
  · have := walk_left_add stagger pool starts l
    simp only [given_eq]
    unfold minimaGiven at this
    omega
  · simp only [given_eq]
    exact walk_judges hx

/-! ### Queue order, priorities and extras (R72, R74, R80) -/

/-- A queue entry joins before the first entry whose entry priority is above its own (R74). -/
theorem queueInsert_split (e : QueueEntry) (q : List QueueEntry) : ∃ before after, q = before ++ after
    ∧ queueInsert e q = before ++ e :: after ∧ (∀ x ∈ before, x.priority ≤ e.priority)
    ∧ ∀ x, after.head? = some x → e.priority < x.priority := by
  induction q with
  | nil => exact ⟨[], [], rfl, rfl, by simp, by simp⟩
  | cons x xs ih =>
    rw [queueInsert]
    by_cases h : e.priority < x.priority
    · exact ⟨[], x :: xs, rfl, if_pos h, by simp, fun y hy => by
        obtain rfl : x = y := Option.some.inj hy
        exact h⟩
    · obtain ⟨before, after, rfl, hins, hbefore, hafter⟩ := ih
      rw [if_neg h, hins]
      exact ⟨x :: before, after, rfl, rfl, List.forall_mem_cons.mpr ⟨Nat.le_of_not_lt h, hbefore⟩, hafter⟩

theorem priority_of_session {c : Controller} {b : Bay} {ss : Session} (hs : (c.outlet b).session = some ss) :
    c.priority b = c.priorityOf b ss := by
  unfold Controller.priority
  rw [hs]

theorem boost_eq (s : Settings) (tier : Fin 4) : s.boost tier.val = s.tariff.boosts.get tier := dif_pos tier.isLt

theorem priorityOf_of_unbound {c : Controller} {b : Bay} {ss : Session} (h : ss.kind = .PAID ∨ (ss.kind = .CREDIT ∧ ss.boundSlot = none)) :
    c.priorityOf b ss = (c.bay b).priority - c.inForce.tariff.boosts.get 0 := by
  unfold Controller.priorityOf
  rw [← boost_eq c.inForce 0]
  rcases h with h | ⟨h, hslot⟩
  · rw [h]; rfl
  · rw [h, hslot]; rfl

theorem priorityOf_of_bound {c : Controller} {b : Bay} {ss : Session} {k : SlotNo} {tier : Fin 4} (h : ss.kind = .CREDIT)
    (hslot : ss.boundSlot = some k) (htier : (c.record k).tier = tier.val) :
    c.priorityOf b ss = (c.bay b).priority - c.inForce.tariff.boosts.get tier := by
  unfold Controller.priorityOf
  rw [← boost_eq c.inForce tier, h, hslot, ← htier]

theorem extra_of_reading {c : Controller} {b : Bay} {e : OutletReading} (h : c.reading b = some e) :
    c.extra b = (max ((c.bay b).pMin : Int) (min (c.bay b).pMax e.request) - (c.bay b).pMin).toNat := by
  unfold Controller.extra
  rw [h]
  rfl

/-- Minimum and extra together are at most the maximum power (R80). -/
theorem minimum_add_extra_le {c : Controller} {b : Bay} (h : (c.bay b).pMin ≤ (c.bay b).pMax) :
    (c.bay b).pMin + c.extra b ≤ (c.bay b).pMax := by
  cases hr : c.reading b with
  | none => unfold Controller.extra; rw [hr]; exact h
  | some e => rw [extra_of_reading hr]; omega

/-- A computed allocation is 0 W or between the outlet's minimum and maximum power (R80, R83). -/
theorem alloc_within (c : Controller) (pool : Nat) (b : Bay) (h : (c.bay b).pMin ≤ (c.bay b).pMax) :
    (c.allocate pool).2.get b = 0 ∨ ((c.bay b).pMin ≤ (c.allocate pool).2.get b ∧ (c.allocate pool).2.get b ≤ (c.bay b).pMax) := by
  cases hm : bayValue b ((c.placesGiven pool).map fun x => (x.1.bay, x.1.minimum)) with
  | none => exact .inl (alloc_eq_zero c pool hm)
  | some m =>
    obtain ⟨x, hx, hxb⟩ := List.mem_map.mp (mem_of_bayValue hm)
    obtain ⟨hbay, rfl⟩ := Prod.mk.inj hxb
    have hmin : x.1.minimum = (c.bay b).pMin := by rw [← hbay]; exact (placesGiven_entry c pool hx).2
    have hextra : (bayValue b (c.extrasGiven pool)).getD 0 ≤ c.extra b := by
      cases hv : bayValue b (c.extrasGiven pool) with
      | none => exact Nat.zero_le _
      | some v => exact extrasGiven_le c pool hv
    have hmax := minimum_add_extra_le h
    rw [alloc_eq_minimum_add c pool hm, hmin]
    omega

/-! ### The extra of an outlet that the walk gave its minimum (R80) -/

/-- Below level 32 the extra of a bay is its share of its own level, of what the walk and the lower levels have left. -/
theorem bayValue_extrasGiven (c : Controller) (pool : Nat) {b : Bay} (h : c.priority b ≤ 31) :
    bayValue b (c.extrasGiven pool) = bayValue b (shareLevel
      ((walk c.inForce.stagger pool c.startCount c.firstPassList).2
        - (((c.placesGiven pool).filter fun y => decide (y.1.priority < c.priority b)).map fun y => c.extra y.1.bay).sum)
      (c.levelGroup pool (c.priority b))).1 := by
  have hsplit : List.range 32 = List.range (c.priority b) ++ c.priority b :: List.range' (c.priority b + 1) (31 - c.priority b) := by
    rw [List.range_eq_range', List.range_eq_range', ← List.range'_succ, List.range'_eq_append_iff]
    exact ⟨c.priority b, by omega, rfl, by congr 1 <;> omega⟩
  have hother : ∀ q levels, c.priority b ∉ levels → bayValue b (secondPass (c.levelGroup pool) q levels) = none := fun q levels hl =>
    bayValue_eq_none fun y hy hyb => by
      obtain ⟨level, hlevel, x, hx, hxy, -⟩ := secondPass_le hy
      rw [← (mem_levelGroup c pool hx).1, hxy, hyb] at hlevel
      exact hl hlevel
  have hlower : ((List.range (c.priority b)).map fun l => extrasSum (c.levelGroup pool l)).sum
      = (((c.placesGiven pool).filter fun y => decide (y.1.priority < c.priority b)).map fun y => c.extra y.1.bay).sum := by
    rw [← sum_levels_below]
    simp only [extrasSum, Controller.levelGroup, List.map_map]
    rfl
  rw [Controller.extrasGiven, hsplit, secondPass_append, bayValue_append, hother _ _ (by simp), secondPass, bayValue_append,
    hother _ (List.range' _ _) (by simp), hlower]
  simp

/-- The walk starts with the outlets STARTING or STARTING before silence (R79). -/
theorem startCount_eq (c : Controller) : c.startCount = ((List.finRange 24).filter fun b => (c.outlet b).state == .STARTING
    || ((c.outlet b).state == .OFFLINE && (c.outlet b).beforeSilence == some .STARTING)).length := by
  have hacting : ∀ o : Outlet, (o.acting == .STARTING)
      = (o.state == .STARTING || (o.state == .OFFLINE && o.beforeSilence == some .STARTING)) := fun o => by
      by_cases h : o.state = .OFFLINE
      · rw [acting_of_offline h, h]
        cases o.beforeSilence <;> simp
      · rw [acting_of_online h]
        simp [h]
  unfold Controller.startCount baysWhere
  simp only [hacting]

section
variable (c : Controller) (pool : Nat)

theorem outcome_eq_none (b : Bay) (h : ∀ x ∈ (walk c.inForce.stagger pool c.startCount c.firstPassList).1, x.1.bay ≠ b) :
    (c.allocate pool).1.get b = none := by
  rw [allocate_outcome]
  exact bayValue_eq_none (List.forall_mem_map.mpr h)

/-- The outcome of a bay is that of its first place. -/
theorem outcome_of_first {i : Nat} {x : PassEntry × PassOutcome}
    (h : (walk c.inForce.stagger pool c.startCount c.firstPassList).1[i]? = some x)
    (hfirst : ∀ y ∈ (walk c.inForce.stagger pool c.startCount c.firstPassList).1.take i, y.1.bay ≠ x.1.bay) :
    (c.allocate pool).1.get x.1.bay = some x.2 := by
  rw [allocate_outcome]
  refine bayValue_of_first (x := (x.1.bay, x.2)) (i := i) (by rw [List.getElem?_map, h]; rfl) ?_
  rw [← List.map_take]
  exact List.forall_mem_map.mpr hfirst

theorem alloc_of_not_given (b : Bay) (h : ∀ x ∈ c.placesGiven pool, x.1.bay ≠ b) : (c.allocate pool).2.get b = 0 :=
  alloc_eq_zero c pool (bayValue_eq_none (List.forall_mem_map.mpr h))

/-- A bay that was given its minimum gets its share of its level besides. -/
theorem alloc_of_first {i : Nat} {x : PassEntry × PassOutcome} (h : (c.placesGiven pool)[i]? = some x)
    (hfirst : ∀ y ∈ (c.placesGiven pool).take i, y.1.bay ≠ x.1.bay) (hlevel : x.1.priority ≤ 31) :
    (c.allocate pool).2.get x.1.bay = x.1.minimum + (bayValue x.1.bay (shareLevel
      ((walk c.inForce.stagger pool c.startCount c.firstPassList).2
        - (((c.placesGiven pool).filter fun y => decide (y.1.priority < x.1.priority)).map fun y => c.extra y.1.bay).sum)
      (c.levelGroup pool x.1.priority)).1).getD 0 := by
  have hp := (placesGiven_entry c pool (List.mem_of_getElem? h)).1
  have hm : bayValue x.1.bay ((c.placesGiven pool).map fun y => (y.1.bay, y.1.minimum)) = some x.1.minimum := by
    refine bayValue_of_first (x := (x.1.bay, x.1.minimum)) (i := i) (by rw [List.getElem?_map, h]; rfl) ?_
    rw [← List.map_take]
    exact List.forall_mem_map.mpr hfirst
  rw [alloc_eq_minimum_add c pool hm, bayValue_extrasGiven c pool (hp ▸ hlevel), hp]

end

/-- Settles O35. -/
theorem queueOrderAndAllocationLimits : Obligations.QueueOrderAndAllocationLimits := by
  refine ⟨queueInsert_split, alloc_within, fun c b ss hs => ?priority, fun c b => ⟨fun h => ?_, fun e h => extra_of_reading h⟩,
    fun q g hnodup => ⟨fun h => ?covered, fun h => ?short⟩, fun c pool => ?round⟩
  case priority =>
    rw [priority_of_session hs]
    refine ⟨fun h => ?_, priorityOf_of_unbound, fun k tier h hslot htier => priorityOf_of_bound h hslot htier⟩
    unfold Controller.priorityOf
    rw [h]
  case covered => rw [shareLevel_of_covered h]; exact ⟨rfl, rfl⟩
  case short =>
    exact ⟨(shareLevel_of_short h).1, shareLevel_length q g, by
      have := shareLevel_sum q g
      rwa [(shareLevel_of_short h).1] at this, shareLevel_fills hnodup h⟩
  case round =>
    simp only [← startCount_eq, given_eq]
    exact ⟨outcome_eq_none c pool, fun i x => outcome_of_first c pool, alloc_of_not_given c pool, fun i x => alloc_of_first c pool⟩
  · unfold Controller.extra
    rw [h]

end Sys2Proof.Machine
end

section
/-! SUPPORT. What a round reads and what its result does: readings as a round uses them (R67, R68), the bank and the permission (R156, R89
to R92), the figures (R69 to R71), the results at the outlets (R41, R53), and the release judged after them (R54). -/

namespace Sys2Proof.Machine

/-! ### Readings (R67, R68) -/

section
variable {c : Controller} {k : NodeKind}

theorem singleton_node {a : Addr} (h : c.singleton k = some a) : (c.node a).known = true ∧ (c.node a).kind = some k := by
  have hp := (Table.lowest_some h).1
  rwa [Bool.and_eq_true, beq_iff_eq] at hp

theorem singleton_none (h : c.singleton k = none) (a : Addr) : ¬ ((c.node a).known = true ∧ (c.node a).kind = some k) := by
  have hp := Table.lowest_none h a
  rw [← Bool.not_eq_true, Bool.and_eq_true, beq_iff_eq] at hp
  exact hp

theorem arrival_of_singleton {a : Addr} (h : c.singleton k = some a) : c.arrival k = (c.node a).readings := by
  unfold Controller.arrival
  rw [h]
  rfl

theorem arrival_of_no_singleton (h : c.singleton k = none) : c.arrival k = none := by
  unfold Controller.arrival
  rw [h]
  rfl

theorem fresh_iff (c : Controller) (arr : Arrival) :
    c.fresh arr = true ↔ c.run.ms - arr.stamp ≤ c.inForce.tStale * 1000 ∧ c.link.state ≠ .DOWN := by
  unfold Controller.fresh
  rw [Bool.and_eq_true, decide_eq_true_iff, bne_iff_ne]
  rfl

variable (value : Arrival → Int) (stale : Option Int → Option Int)

theorem use_missing (h : c.arrival k = none) : c.use k value stale = { value := stale none, age := none, fresh := false } := by
  unfold Controller.use
  rw [h]

theorem use_fresh {arr : Arrival} (h : c.arrival k = some arr) (hf : c.fresh arr = true) :
    c.use k value stale = { value := some (value arr), age := some (c.age arr), fresh := true } := by
  unfold Controller.use
  rw [h]
  exact if_pos hf

theorem use_stale {arr : Arrival} (h : c.arrival k = some arr) (hf : ¬ c.fresh arr = true) :
    c.use k value stale = { value := stale (some (value arr)), age := some (c.age arr), fresh := false } := by
  unfold Controller.use
  rw [h]
  exact if_neg hf

end

/-- The battery's power counts in the attribution while its reading is fresh, as the round used it (R105). -/
theorem freshBattery_power (c : Controller) (stale : Option Int → Option Int) :
    (c.freshBattery.map (·.power)).getD 0 = if (c.use .BATTERY Arrival.batteryPower stale).fresh
      then (c.use .BATTERY Arrival.batteryPower stale).value.getD 0 else 0 := by
  unfold Controller.freshBattery
  cases h : c.arrival .BATTERY with
  | none => rw [use_missing _ _ h]; rfl
  | some arr =>
    by_cases hf : c.fresh arr = true
    · simp [use_fresh _ _ h hf, hf, Arrival.batteryPower]
    · simp [use_stale _ _ h hf, hf]

/-- A canopy reading is fresh as the round used it. -/
theorem freshCanopy_isSome (c : Controller) (stale : Option Int → Option Int) :
    c.freshCanopy.isSome = (c.use .CANOPY Arrival.canopyPower stale).fresh := by
  unfold Controller.freshCanopy
  cases h : c.arrival .CANOPY with
  | none => rw [use_missing _ _ h]; rfl
  | some arr =>
    by_cases hf : c.fresh arr = true
    · simp [use_fresh _ _ h hf, hf]
    · simp [use_stale _ _ h hf, hf]

/-! ### The bank and the permission (R156, R89 to R92) -/

/-- The storage after a round's reserve window and permission (R89 to R92). -/
def Controller.permitted (c : Controller) : Storage :=
  (c.storage.selectWindow c.run.timeValid c.run.siteTime c.inForce.reserve).evaluate c.inForce c.clearBattery

/-- The permission leaves the delivery records of battery and canopy alone. -/
theorem permitted_deliveries (c : Controller) : c.permitted.battery = c.storage.battery ∧ c.permitted.canopy = c.storage.canopy := by
  have hwindow : ∀ (v : Bool) (now : Nat) (ws : List ReserveWindow) (st : Storage),
      (st.selectWindow v now ws).battery = st.battery ∧ (st.selectWindow v now ws).canopy = st.canopy := fun v now ws st => by
    unfold Storage.selectWindow
    split <;> exact ⟨rfl, rfl⟩
  have hevaluate : ∀ (s : Settings) (b : Option BatteryReading) (st : Storage),
      (st.evaluate s b).battery = st.battery ∧ (st.evaluate s b).canopy = st.canopy := fun s b st => by
    cases b <;> exact ⟨rfl, rfl⟩
  exact ⟨(hevaluate _ _ _).1.trans (hwindow _ _ _ _).1, (hevaluate _ _ _).2.trans (hwindow _ _ _ _).2⟩

/-- The controller with which the shop load and the pool of a round are formed: the bank kept and the permission judged, with the notice
of a changed bank in the port. -/
def Controller.begun (p : Port) (c : Controller) : Controller :=
  { c with port := p, storage := c.permitted, pool := { c.pool with keptBank := some c.lines.bank } }

/-- A round begins with the bank kept, its change raised, and the permission judged; nothing else is touched. -/
theorem bankStep_permissionStep (c : Controller) : ∃ p, c.bankStep.permissionStep = c.begun p
    ∧ ∀ k, c.pool.keptBank = some k → k ≠ c.lines.bank → (c.begun p).raised .inputBank := by
  have hraised : ∀ d : Controller, d.permissionStep.raised .inputBank ↔ d.raised .inputBank := fun d => raised_congr rfl _
  unfold Controller.bankStep
  dsimp only
  by_cases h : (c.pool.keptBank.isSome && c.pool.keptBank != some c.lines.bank) = true
  · rw [if_pos h]
    exact ⟨_, rfl, fun _ _ _ => (hraised _).mpr (raised_raise _ _)⟩
  · rw [if_neg h]
    refine ⟨_, rfl, fun k hk hne => absurd ?_ h⟩
    simp [hk, hne]

/-! ### The figures of a round (R69 to R71) -/

theorem powerOut_all (c : Controller) : c.powerOut (fun _ => true) =
    (((List.finRange 24).filter fun b => (c.bay b).map.valid).map fun b => ((c.reading b).map (·.measured)).getD 0).sum := by
  unfold Controller.powerOut baysWhere
  simp only [Bool.and_true]

section
variable (c : Controller)

/-- In SAFE mode no raw shop load is formed, and the estimate stays (R70). -/
theorem roundRecord_safe (h : c.roundRecord.normal = false) : c.roundRecord.s = none ∧ c.roundRecord.sEst = c.pool.sPrev := by
  have hs : c.roundRecord.s = none := if_neg (by
    rw [show (c.use .SUPPLY_METER Arrival.gridPower fun _ => none).fresh = false from h]
    decide)
  refine ⟨hs, ?_⟩
  show shopLoad _ _ _ c.roundRecord.s = _
  rw [hs]
  rfl

/-- In NORMAL mode the raw shop load is what the grid, the canopy and the battery bring and the bays do not take (R70). -/
theorem roundRecord_normal (h : c.roundRecord.normal = true) : c.roundRecord.s = some (max 0 (min 1000000
    (c.roundRecord.pGrid.value.getD 0 + c.roundRecord.pPvRaw.value.getD 0 + c.roundRecord.pBat.value.getD 0 - c.roundRecord.sumOut))) :=
  if_pos h

theorem roundRecord_estimate (v : Int) (h : c.roundRecord.s = some v) :
    c.roundRecord.sEst = if c.pool.firstRound then v else max v (c.pool.sPrev - c.roundRecord.decay) := by
  show shopLoad _ _ _ c.roundRecord.s = _
  rw [h]
  rfl

end

/-! ### The result at an outlet (R41, R53) -/

theorem managed_eq_of_settings {c d : Controller} (h : d.settings = c.settings) (b : Bay) : d.managed b = c.managed b := by
  unfold Controller.managed
  rw [bay_eq_of_settings h]

/-- An outcome leaves of an outlet's session all but the admission. -/
theorem takeOutcome_session (s : Settings) (now : Nat) (w : Bool) (outcome : Option PassOutcome) (o : Outlet) :
    ∃ f : Session → Session, (o.takeOutcome s now w outcome).session = o.session.map f
      ∧ ∀ ss, ∃ a t, f ss = { ss with admitted := a, startTime := t } := by
  have hsame : ∃ f : Session → Session, o.session = o.session.map f ∧ ∀ ss, ∃ a t, f ss = { ss with admitted := a, startTime := t } :=
    ⟨id, by simp, fun ss => ⟨ss.admitted, ss.startTime, rfl⟩⟩
  unfold Outlet.takeOutcome
  split
  · exact ⟨_, rfl, fun ss => ⟨true, some now, rfl⟩⟩
  · split <;> exact hsame
  all_goals exact hsame

/-- An outcome touches state, pause reasons, session, start timer and pause minimum alone. -/
theorem takeOutcome_eq (s : Settings) (now : Nat) (w : Bool) (outcome : Option PassOutcome) (o : Outlet) :
    ∃ st rs ss ti pm, o.takeOutcome s now w outcome =
      { o with state := st, reasons := rs, session := ss, startTimer := ti, pauseMinimum := pm } := by
  unfold Outlet.takeOutcome
  split
  · exact ⟨_, _, _, _, _, rfl⟩
  · split <;> exact ⟨_, _, _, _, _, rfl⟩
  all_goals exact ⟨_, _, _, _, _, rfl⟩

/-- No outcome brings an outlet to OFFLINE or UNMAPPED, or takes it from there. -/
theorem takeOutcome_state (s : Settings) (now : Nat) (w : Bool) (outcome : Option PassOutcome) (o : Outlet) {st : OutletState}
    (hst : st = .OFFLINE ∨ st = .UNMAPPED) : (o.takeOutcome s now w outcome).state = st ↔ o.state = st := by
  unfold Outlet.takeOutcome
  split
  · next h => rw [h]; rcases hst with rfl | rfl <;> simp
  · next h =>
    split
    · rw [h]; rcases hst with rfl | rfl <;> simp
    · rfl
  · next h => rw [h]; rcases hst with rfl | rfl <;> simp
  · next h => rw [h]; rcases hst with rfl | rfl <;> simp
  · rfl

section
variable (s : Settings) (now : Nat) (w : Bool) {o : Outlet}

theorem takeOutcome_admitted (h : o.state = .QUEUED) : o.takeOutcome s now w (some .ADMITTED) =
    { o with state := .STARTING, session := o.session.map fun ss => { ss with admitted := true, startTime := some now }
             startTimer := some { left := s.tStart * 1000, frozenBySilence := false, frozenByWindow := w } } := by
  unfold Outlet.takeOutcome
  rw [h]
  rfl

theorem takeOutcome_minimum (h : o.state = .PAUSED) (hr : o.reasons = .budgetAlone) : o.takeOutcome s now w (some .MINIMUM) =
    { o with state := .CHARGING, reasons := .empty, pauseMinimum := none } := by
  unfold Outlet.takeOutcome
  rw [h]
  exact if_pos hr

theorem takeOutcome_budget (h : o.state = .STARTING ∨ o.state = .CHARGING) : o.takeOutcome s now w (some .BUDGET) =
    { o with state := .PAUSED, reasons := { o.reasons with budget := true }, startTimer := none
             pauseMinimum := some (Timer.start (s.tPmin * 1000)) } := by
  unfold Outlet.takeOutcome
  rcases h with h | h <;> rw [h] <;> rfl

/-- Any other outcome leaves an outlet as it is. -/
theorem takeOutcome_other {outcome : Option PassOutcome} (ha : ¬ (outcome = some .ADMITTED ∧ o.state = .QUEUED))
    (hm : ¬ (outcome = some .MINIMUM ∧ o.state = .PAUSED ∧ o.reasons = .budgetAlone))
    (hb : ¬ (outcome = some .BUDGET ∧ (o.state = .STARTING ∨ o.state = .CHARGING))) : o.takeOutcome s now w outcome = o := by
  unfold Outlet.takeOutcome
  split
  · next h => exact absurd ⟨rfl, h⟩ ha
  · next h => exact if_neg fun hr => hm ⟨rfl, h, hr⟩
  · next h => exact absurd ⟨rfl, .inl h⟩ hb
  · next h => exact absurd ⟨rfl, .inr h⟩ hb
  · rfl

end

/-- An outlet after a round's result, but for the two flags that the result may set: an unmanaged or OFFLINE outlet takes none. -/
def Controller.resultAt (c : Controller) (alloc : Nat) (outcome : Option PassOutcome) (b : Bay) : Outlet :=
  let o := (c.outlet b).takeOutcome c.inForce c.run.siteTime (c.link.state == .PASS_THROUGH) outcome
  if c.managed b = true ∧ (c.outlet b).state ≠ .OFFLINE then { o with pending := o.pendingAfter alloc } else c.outlet b

section
variable {c : Controller} {alloc : Nat} {outcome : Option PassOutcome} {b : Bay}

theorem resultAt_idle (h : c.managed b = false ∨ (c.outlet b).state = .OFFLINE) : c.resultAt alloc outcome b = c.outlet b := by
  refine if_neg fun ⟨hm, hs⟩ => ?_
  rcases h with h | h
  · simp [h] at hm
  · exact hs h

theorem resultAt_taken (hm : c.managed b = true) (hs : (c.outlet b).state ≠ .OFFLINE) : c.resultAt alloc outcome b =
    let o := (c.outlet b).takeOutcome c.inForce c.run.siteTime (c.link.state == .PASS_THROUGH) outcome
    { o with pending := o.pendingAfter alloc } := if_pos ⟨hm, hs⟩

/-- A result that is not taken leaves the controller as it is. -/
theorem takeResult_idle (h : c.managed b = false ∨ (c.outlet b).state = .OFFLINE) : c.takeResult b alloc outcome = c := by
  unfold Controller.takeResult
  rw [if_pos]
  rcases h with h | h <;> simp [h]

theorem takeResult_taken (hm : c.managed b = true) (hs : (c.outlet b).state ≠ .OFFLINE) : c.takeResult b alloc outcome =
    (c.updOutlet b (Outlet.takeOutcome c.inForce c.run.siteTime (c.link.state == .PASS_THROUGH) outcome)).markTarget b alloc := by
  unfold Controller.takeResult
  rw [if_neg]
  simp [hm, hs]

/-- The outlets table is all that a result changes. -/
theorem takeResult_leaves (c : Controller) (b : Bay) (alloc : Nat) (outcome : Option PassOutcome) :
    c.takeResult b alloc outcome = { c with outlets := (c.takeResult b alloc outcome).outlets } := by
  unfold Controller.takeResult Controller.markTarget
  split
  · rfl
  · split <;> rfl

theorem takeResult_outlet_of_ne {x : Bay} (h : b ≠ x) : (c.takeResult b alloc outcome).outlet x = c.outlet x := by
  unfold Controller.takeResult
  split
  · rfl
  · rw [markTarget_outlet, if_neg fun e => h e.1, updOutlet_outlet, if_neg h]

theorem takeResult_outlet_self (c : Controller) (b : Bay) (alloc : Nat) (outcome : Option PassOutcome) :
    ∃ v ch, (c.takeResult b alloc outcome).outlet b = { c.resultAt alloc outcome b with raiseReleased := v, changed := ch } := by
  by_cases h : c.managed b = true ∧ (c.outlet b).state ≠ .OFFLINE
  · obtain ⟨v, ch, hm⟩ := markTarget_outlet_self
      (c.updOutlet b (Outlet.takeOutcome c.inForce c.run.siteTime (c.link.state == .PASS_THROUGH) outcome)) b alloc
    refine ⟨v, ch, ?_⟩
    rw [takeResult_taken h.1 h.2, hm, updOutlet_outlet_self, resultAt_taken h.1 h.2]
    rfl
  · have hidle : c.managed b = false ∨ (c.outlet b).state = .OFFLINE := by
      by_contra hn
      rw [not_or, Bool.not_eq_false] at hn
      exact h hn
    exact ⟨_, _, by rw [takeResult_idle hidle, resultAt_idle hidle]⟩

end

/-! ### The results of a round (R41, R54) -/

/-- Where no outlet holds a pending DECREASE, every pending target is a released RAISE (R54). -/
def Controller.raisesReleased (c : Controller) : Prop :=
  (∀ b, (c.outlet b).decreasing = false) → ∀ b, (c.outlet b).pending.isSome = true → (c.outlet b).raiseReleased = true

theorem judgeRelease_releases (c : Controller) : c.judgeRelease.raisesReleased := by
  intro hnone b hp
  have hany : ¬ c.outlets.entries.data.any Outlet.decreasing = true := by
    rw [Table.any_data]
    rintro ⟨x, hx⟩
    obtain ⟨v, hv⟩ := judgeRelease_outlet_eq c x
    have := hnone x
    rw [hv] at this
    exact absurd hx (by rw [← Bool.not_eq_true] at this; exact this)
  have hd := hnone b
  rw [judgeRelease_outlet, if_neg hany] at hp hd ⊢
  unfold Outlet.releaseRaise at hp hd ⊢
  cases ht : (c.outlet b).pending with
  | none => simp [ht] at hp
  | some t =>
    cases hk : t.kind with
    | RAISE => simp [hk]
    | DECREASE => simp [Outlet.decreasing, ht, hk] at hd

/-- Of the outlets a round's results change each by its own result alone. -/
theorem resultStep_outlet (c : Controller) (outcomes : Table (Option PassOutcome) 24) (allocs : Table Nat 24) (b : Bay) :
    ∃ v ch, (c.resultStep outcomes allocs).outlet b =
      { c.resultAt (allocs.get b) (outcomes.get b) b with raiseReleased := v, changed := ch } := by
  unfold Controller.resultStep
  dsimp only
  generalize hd : ({ c.putQueue _ with pool := _ } : Controller) = d
  have hstart : d.outlet b = c.outlet b ∧ d.settings = c.settings ∧ d.run = c.run ∧ d.link = c.link := by
    rw [← hd]
    exact ⟨rfl, rfl, rfl, rfl⟩
  have hresults : ∃ v ch, (forBays (fun b c => c.takeResult b (allocs.get b) (outcomes.get b)) d).outlet b =
      { c.resultAt (allocs.get b) (outcomes.get b) b with raiseReleased := v, changed := ch } :=
    forBays_at (A := fun e => e.outlet b = c.outlet b ∧ e.settings = c.settings ∧ e.run = c.run ∧ e.link = c.link)
      (B := fun e => ∃ v ch, e.outlet b = { c.resultAt (allocs.get b) (outcomes.get b) b with raiseReleased := v, changed := ch })
      (fun y e hy he => by
        rw [takeResult_outlet_of_ne hy, takeResult_leaves]
        exact he)
      (fun e he => by
        obtain ⟨ho, hs, hr, hl⟩ := he
        obtain ⟨v, ch, hself⟩ := takeResult_outlet_self e b (allocs.get b) (outcomes.get b)
        refine ⟨v, ch, ?_⟩
        rw [hself]
        unfold Controller.resultAt Controller.inForce
        rw [ho, hr, hl, hs, managed_eq_of_settings hs])
      (fun y e hy he => by rwa [takeResult_outlet_of_ne hy]) hstart
  obtain ⟨v, ch, h⟩ := hresults
  obtain ⟨w, hw⟩ := judgeRelease_outlet_eq (forBays (fun b c => c.takeResult b (allocs.get b) (outcomes.get b)) d) b
  exact ⟨w, ch, by rw [hw, h]⟩

/-- Outlets, queue and computed allocations are all that a round's results change. -/
theorem resultStep_leaves (c : Controller) (outcomes : Table (Option PassOutcome) 24) (allocs : Table Nat 24) :
    c.resultStep outcomes allocs =
      { c with
        outlets := (c.resultStep outcomes allocs).outlets
        pool := { c.pool with queue := c.pool.queue.filter fun e => outcomes.get e.bay != some .ADMITTED, computed := allocs } } := by
  have hjudge : ∀ d : Controller, d.judgeRelease = { d with outlets := d.judgeRelease.outlets } := fun d => by
    unfold Controller.judgeRelease
    split <;> rfl
  have hbays : ∀ d : Controller, forBays (fun b c => c.takeResult b (allocs.get b) (outcomes.get b)) d =
      { d with outlets := (forBays (fun b c => c.takeResult b (allocs.get b) (outcomes.get b)) d).outlets } := fun d =>
    forBays_keeps (fun e => e = { d with outlets := e.outlets }) (fun b e he => by rw [takeResult_leaves, he]) rfl
  unfold Controller.resultStep
  dsimp only
  generalize hd : ({ c.putQueue _ with pool := _ } : Controller) = d
  have hresults := hbays d
  generalize forBays _ d = e at hresults ⊢
  rw [hjudge, hresults, ← hd]
  rfl

theorem resultStep_releases (c : Controller) (outcomes : Table (Option PassOutcome) 24) (allocs : Table Nat 24) :
    (c.resultStep outcomes allocs).raisesReleased := judgeRelease_releases _

/-! ### Battery and canopy (R93 to R100) -/

/-- The storage is all that step 7 changes. -/
theorem storageStep_leaves (sumA u sEst lImp pPv : Int) (c : Controller) :
    c.storageStep sumA u sEst lImp pPv = { c with storage := (c.storageStep sumA u sEst lImp pPv).storage } := by
  unfold Controller.storageStep
  dsimp only
  cases c.freshCanopy <;> rfl

/-- A battery's delivery record with the mark of a round: the setpoint is pending for a known node that has not acknowledged it (R99). -/
theorem battery_mark_eq (known : Bool) (setpoint : Int) (d : BatteryDelivery) : d.mark known setpoint =
    { d with computed := setpoint, pending := if known = true ∧ d.acked ≠ some setpoint then some setpoint else none } := by
  unfold BatteryDelivery.mark
  simp only [Bool.and_eq_true, bne_iff_ne]

theorem canopy_mark_eq (known : Bool) (cap : Cap) (d : CanopyDelivery) : d.mark known cap =
    { d with computed := some cap, pending := if known = true ∧ d.acked ≠ some cap then some cap else none } := by
  unfold CanopyDelivery.mark
  simp only [Bool.and_eq_true, bne_iff_ne]

end Sys2Proof.Machine
end

section
/-! SUPPORT. The attribution of a round at one bay (R104 to R113): the session's increment, what can come of it, and what it leaves of
the outlets of the other bays. -/

namespace Sys2Proof.Machine

/-! ### Outlets brushed by the work at other bays (R20, R54) -/

/-- A session with another bound slot. -/
def Session.withSlot (k : Option SlotNo) (ss : Session) : Session := { ss with boundSlot := k }

/-- An outlet that the work at other bays has brushed: its session may have lost its bound slot, and the two flags may be set (R20, R54). -/
def Outlet.brushed (o o' : Outlet) : Prop :=
  ∃ k v ch, o' = { o with session := o.session.map (Session.withSlot k), raiseReleased := v, changed := ch }

theorem map_withSlot_bound (s : Option Session) : s.map (Session.withSlot (s.bind (·.boundSlot))) = s := by cases s <;> rfl

theorem brushed_of_flags {o o' : Outlet} {v ch : Bool} (h : o' = { o with raiseReleased := v, changed := ch }) : o.brushed o' :=
  ⟨_, v, ch, by rw [map_withSlot_bound, h]⟩

theorem brushed_refl (o : Outlet) : o.brushed o := brushed_of_flags rfl

theorem brushed_trans {o o' o'' : Outlet} (h : o.brushed o') (h' : o'.brushed o'') : o.brushed o'' := by
  obtain ⟨k, v, ch, rfl⟩ := h
  obtain ⟨k', v', ch', rfl⟩ := h'
  refine ⟨k', v', ch', ?_⟩
  cases o.session <;> rfl

/-- The end of another bay's session leaves an outlet alone but for the bound slot, where it was the slot released, and for the flags. -/
theorem endSession_outlet_of_ne {c : Controller} {x y : Bay} {ss : Session} (hs : (c.outlet y).session = some ss) (hx : x ≠ y)
    (r : EndReason) (st : OutletState) : ∃ f v ch,
      (c.endSession y r st).outlet x = { c.outlet x with session := (c.outlet x).session.map f, raiseReleased := v, changed := ch }
      ∧ (f = id ∨ ∃ k, ss.boundSlot = some k ∧ f = Session.dropSlot k) := by
  obtain ⟨v, hv⟩ := (alike_iff _ _).mp (endSession_after_release hs r st x hx)
  have hclosed : (c.updOutlet y Outlet.closeTail).outlet x = c.outlet x := by rw [updOutlet_outlet, if_neg (Ne.symm hx)]
  rw [hv]
  cases hslot : ss.boundSlot with
  | none =>
    refine ⟨id, v, (c.outlet x).changed, ?_, .inl rfl⟩
    rw [Option.map_id_fun, id]
    exact congrArg (fun o => { o with raiseReleased := v }) hclosed
  | some k =>
    rcases unbind_outlet (c.updOutlet y Outlet.closeTail) k (r == EndReason.RESET) .receiptUnbind x with h | h
    · refine ⟨id, v, (c.outlet x).changed, ?_, .inl rfl⟩
      rw [Option.map_id_fun, id]
      exact congrArg (fun o => { o with raiseReleased := v }) (h.trans hclosed)
    · rw [hclosed] at h
      exact ⟨_, v, _, congrArg (fun o => { o with raiseReleased := v }) h, .inr ⟨k, rfl, rfl⟩⟩

theorem endSession_brushes {c : Controller} {x y : Bay} (hx : x ≠ y) (r : EndReason) (st : OutletState) :
    (c.outlet x).brushed ((c.endSession y r st).outlet x) := by
  cases hs : (c.outlet y).session with
  | none => rw [endSession_none hs]; exact brushed_refl _
  | some ss =>
    obtain ⟨f, v, ch, h, hf⟩ := endSession_outlet_of_ne hs hx r st
    rcases hf with rfl | ⟨k, -, rfl⟩
    · exact brushed_of_flags (by rw [h, Option.map_id_fun, id])
    · rw [h]
      cases hsx : (c.outlet x).session with
      | none => exact brushed_of_flags (by rw [Option.map_none, ← hsx])
      | some sx =>
        refine ⟨(sx.dropSlot k).boundSlot, v, ch, ?_⟩
        rw [hsx]
        unfold Session.dropSlot
        dsimp only [Option.map_some]
        split <;> rfl

/-! ### The increment of a session (R104 to R109) -/

/-- A session that has taken its unattributed energy, split by the round's totals (R104 to R108). -/
def Session.attributed (m pv bat : Int) (unattributed : Nat) (ss : Session) : Session :=
  let e := tailOf unattributed ss
  ss.take (share e pv m) (share e bat m) (e - share e pv m - share e bat m) e

/-- The draw that a CREDIT session's increment comes to (R109, R110). -/
def drawFormed (t : Tariff) (m pv bat : Int) (unattributed : Nat) (b : Bay) (ss : Session) : Draw :=
  let e := tailOf unattributed ss
  let p := share e pv m
  let q := share e bat m
  { bay := b, slot := ss.boundSlot, p := p, b := q, g := e - p - q, d := drawOf t p q (e - p - q) }

section
variable (m pv bat : Int) (u : Nat) (ss : Session)

theorem attributed_withSlot (k : Option SlotNo) : (ss.withSlot k).attributed m pv bat u = (ss.attributed m pv bat u).withSlot k := by
  unfold Session.attributed Session.take
  cases h : ss.kind <;> simp [Session.withSlot, tailOf, h]

theorem attributed_kept : (ss.attributed m pv bat u).kind = ss.kind ∧ (ss.attributed m pv bat u).cap = ss.cap
    ∧ (ss.attributed m pv bat u).creditFunded = ss.creditFunded ∧ (ss.attributed m pv bat u).uncovered = ss.uncovered
    ∧ (ss.attributed m pv bat u).boundSlot = ss.boundSlot ∧ (ss.attributed m pv bat u).admitted = ss.admitted
    ∧ (ss.attributed m pv bat u).startTime = ss.startTime := by
  unfold Session.attributed Session.take
  cases ss.kind <;> exact ⟨rfl, rfl, rfl, rfl, rfl, rfl, rfl⟩

/-- The parts of the increment and its whole (R107). -/
theorem attributed_parts : (ss.attributed m pv bat u).solar = satAdd u32Max ss.solar (share (tailOf u ss) pv m)
    ∧ (ss.attributed m pv bat u).battery = satAdd u32Max ss.battery (share (tailOf u ss) bat m)
    ∧ (ss.attributed m pv bat u).grid
      = satAdd u32Max ss.grid (tailOf u ss - share (tailOf u ss) pv m - share (tailOf u ss) bat m)
    ∧ (ss.attributed m pv bat u).energy = satAdd u32Max ss.energy (tailOf u ss) := by
  unfold Session.attributed Session.take
  cases ss.kind <;> exact ⟨rfl, rfl, rfl, rfl⟩

/-- A CREDIT session's increment is unfunded, that of any other paid (R108). -/
theorem attributed_funding :
    (ss.kind = .CREDIT → (ss.attributed m pv bat u).unfunded = satAdd u32Max ss.unfunded (tailOf u ss)
      ∧ (ss.attributed m pv bat u).paidEnergy = ss.paidEnergy)
    ∧ (ss.kind ≠ .CREDIT → (ss.attributed m pv bat u).paidEnergy = satAdd u32Max ss.paidEnergy (tailOf u ss)
      ∧ (ss.attributed m pv bat u).unfunded = ss.unfunded) := by
  unfold Session.attributed Session.take
  cases ss.kind <;> simp

/-- The cap that a session comes to with its increment (R113). -/
theorem capReached_attributed_iff : (ss.attributed m pv bat u).capReached = true
    ↔ ss.kind ≠ .CREDIT ∧ ss.cap ≠ 0 ∧ ss.cap ≤ satAdd u32Max ss.paidEnergy (tailOf u ss) := by
  obtain ⟨hkind, hcap, -⟩ := attributed_kept m pv bat u ss
  unfold Session.capReached
  rw [hkind, hcap, Bool.and_eq_true, Bool.and_eq_true, bne_iff_ne, bne_iff_ne, decide_eq_true_iff, and_assoc]
  refine and_congr_right fun hk => ?_
  rw [((attributed_funding m pv bat u ss).2 hk).1]

end

/-! ### The attribution of one bay (R104 to R113) -/

@[simp] theorem handDraw_outlet (c : Controller) (d : Draw) (b : Bay) : (c.handDraw d).outlet b = c.outlet b := rfl

/-- The outlet takes the increment into its session. -/
def Controller.takeIncrement (m pv bat : Int) (b : Bay) (ss : Session) (c : Controller) : Controller :=
  c.updOutlet b fun o => { o with session := some (ss.attributed m pv bat (c.outlet b).unattributed), unattributed := 0 }

/-- The attribution of one bay: a managed outlet that holds a session takes its increment into it, and hands over a draw or, at its cap,
ends the session (R104 to R113). -/
def Controller.takeEnergy (m pv bat : Int) (b : Bay) (c : Controller) : Controller :=
  match (c.outlet b).session with
  | none => c
  | some ss =>
    if !c.managed b then c
    else if ss.kind = .CREDIT then
      (c.takeIncrement m pv bat b ss).handDraw (drawFormed c.inForce.tariff m pv bat (c.outlet b).unattributed b ss)
    else if (ss.attributed m pv bat (c.outlet b).unattributed).capReached then
      (c.takeIncrement m pv bat b ss).endSession b .CAP_REACHED .ENDING
    else c.takeIncrement m pv bat b ss

/-- Step 8 of a round takes the energy of every bay by the round's totals (R66, R104, R105). -/
theorem attributionStep_eq (pPv sEst : Int) (c : Controller) : c.attributionStep pPv sEst =
    let m := c.measuredTotal
    let pv := pvTot m pPv sEst
    forBays (Controller.takeEnergy m pv (batTot m pv ((c.freshBattery.map (·.power)).getD 0))) c := rfl

section
variable {c : Controller} {b : Bay} {m pv bat : Int}

/-- Energy is attributed to the managed outlets that hold a session alone (R104). -/
theorem takeEnergy_idle (h : (c.outlet b).session = none ∨ c.managed b = false) : c.takeEnergy m pv bat b = c := by
  unfold Controller.takeEnergy
  cases hs : (c.outlet b).session with
  | none => rfl
  | some ss =>
    rcases h with h | h
    · exact absurd (hs.symm.trans h) (by simp)
    · exact if_pos (by rw [h]; rfl)

variable {ss : Session} (hs : (c.outlet b).session = some ss) (hm : c.managed b = true)
include hs hm

theorem takeEnergy_of_session : c.takeEnergy m pv bat b =
    if ss.kind = .CREDIT then
      (c.takeIncrement m pv bat b ss).handDraw (drawFormed c.inForce.tariff m pv bat (c.outlet b).unattributed b ss)
    else if (ss.attributed m pv bat (c.outlet b).unattributed).capReached then
      (c.takeIncrement m pv bat b ss).endSession b .CAP_REACHED .ENDING
    else c.takeIncrement m pv bat b ss := by
  unfold Controller.takeEnergy
  rw [hs]
  exact if_neg (by rw [hm]; decide)

theorem takeEnergy_credit (hk : ss.kind = .CREDIT) : c.takeEnergy m pv bat b =
    (c.takeIncrement m pv bat b ss).handDraw (drawFormed c.inForce.tariff m pv bat (c.outlet b).unattributed b ss) := by
  rw [takeEnergy_of_session hs hm, if_pos hk]

theorem takeEnergy_capped (h : (ss.attributed m pv bat (c.outlet b).unattributed).capReached = true) : c.takeEnergy m pv bat b =
    (c.takeIncrement m pv bat b ss).endSession b .CAP_REACHED .ENDING := by
  rw [takeEnergy_of_session hs hm, if_neg ((capReached_attributed_iff m pv bat _ ss).mp h).1, if_pos h]

theorem takeEnergy_open (hk : ss.kind ≠ .CREDIT) (h : ¬ (ss.attributed m pv bat (c.outlet b).unattributed).capReached = true) :
    c.takeEnergy m pv bat b = c.takeIncrement m pv bat b ss := by
  rw [takeEnergy_of_session hs hm, if_neg hk, if_neg h]

omit hs hm in
/-- What an attribution can do: nothing; or the session takes its increment, and that is all; or a draw is handed over besides; or the
session ends at its cap besides. -/
theorem takeEnergy_cases (c : Controller) (m pv bat : Int) (b : Bay) :
    c.takeEnergy m pv bat b = c ∨ ∃ ss, (c.outlet b).session = some ss ∧ c.managed b = true
      ∧ (c.takeEnergy m pv bat b = c.takeIncrement m pv bat b ss
        ∨ c.takeEnergy m pv bat b
          = (c.takeIncrement m pv bat b ss).handDraw (drawFormed c.inForce.tariff m pv bat (c.outlet b).unattributed b ss)
        ∨ c.takeEnergy m pv bat b = (c.takeIncrement m pv bat b ss).endSession b .CAP_REACHED .ENDING) := by
  cases hs : (c.outlet b).session with
  | none => exact .inl (takeEnergy_idle (.inl hs))
  | some ss =>
    cases hm : c.managed b with
    | false => exact .inl (takeEnergy_idle (.inr hm))
    | true =>
      refine .inr ⟨ss, rfl, rfl, ?_⟩
      by_cases hk : ss.kind = .CREDIT
      · exact .inr (.inl (takeEnergy_credit hs hm hk))
      · by_cases h : (ss.attributed m pv bat (c.outlet b).unattributed).capReached = true
        · exact .inr (.inr (takeEnergy_capped hs hm h))
        · exact .inl (takeEnergy_open hs hm hk h)

end

section
variable (c : Controller) (m pv bat : Int) (b : Bay) (ss : Session)

theorem takeIncrement_outlet_self : (c.takeIncrement m pv bat b ss).outlet b = (c.outlet b).change fun o =>
    { o with session := some (ss.attributed m pv bat (c.outlet b).unattributed), unattributed := 0 } := updOutlet_outlet_self c b _

theorem takeIncrement_session : ((c.takeIncrement m pv bat b ss).outlet b).session
    = some (ss.attributed m pv bat (c.outlet b).unattributed) := by rw [takeIncrement_outlet_self]; rfl

theorem takeIncrement_outlet_of_ne {x : Bay} (h : x ≠ b) : (c.takeIncrement m pv bat b ss).outlet x = c.outlet x := by
  unfold Controller.takeIncrement
  rw [updOutlet_outlet, if_neg (Ne.symm h)]

/-- The attribution of another bay brushes an outlet at most. -/
theorem takeEnergy_brushes {x : Bay} (h : x ≠ b) : (c.outlet x).brushed ((c.takeEnergy m pv bat b).outlet x) := by
  rcases takeEnergy_cases c m pv bat b with he | ⟨ss, -, -, he | he | he⟩
  · rw [he]; exact brushed_refl _
  · rw [he, takeIncrement_outlet_of_ne c m pv bat b ss h]; exact brushed_refl _
  · rw [he, handDraw_outlet, takeIncrement_outlet_of_ne c m pv bat b ss h]; exact brushed_refl _
  · rw [he, ← takeIncrement_outlet_of_ne c m pv bat b ss h]; exact endSession_brushes h _ _

/-- An attribution leaves the quiet blocks alone. -/
theorem takeEnergy_quiet : c.quietBlocks (c.takeEnergy m pv bat b) := by
  rcases takeEnergy_cases c m pv bat b with he | ⟨ss, -, -, he | he | he⟩
  · rw [he]; exact ⟨rfl, rfl, rfl, rfl⟩
  · rw [he]; exact ⟨rfl, rfl, rfl, rfl⟩
  · rw [he]; exact ⟨rfl, rfl, rfl, rfl⟩
  · rw [he]; exact endSession_leaves _ b _ _

/-- An attribution keeps every raise released that it finds released: where a session ends, the release is judged anew (R54). -/
theorem takeEnergy_releases (h : c.raisesReleased) : (c.takeEnergy m pv bat b).raisesReleased := by
  have htake : ∀ ss, (c.takeIncrement m pv bat b ss).raisesReleased := fun ss => by
    have hsame : ∀ x, ((c.takeIncrement m pv bat b ss).outlet x).pending = (c.outlet x).pending
        ∧ ((c.takeIncrement m pv bat b ss).outlet x).raiseReleased = (c.outlet x).raiseReleased := fun x => by
      by_cases hx : x = b
      · rw [hx, takeIncrement_outlet_self]; exact ⟨rfl, rfl⟩
      · rw [takeIncrement_outlet_of_ne c m pv bat b ss hx]; exact ⟨rfl, rfl⟩
    intro hnone x hp
    rw [(hsame x).1] at hp
    rw [(hsame x).2]
    refine h (fun y => ?_) x hp
    have := hnone y
    unfold Outlet.decreasing at this ⊢
    rwa [(hsame y).1] at this
  rcases takeEnergy_cases c m pv bat b with he | ⟨ss, -, -, he | he | he⟩
  · rw [he]; exact h
  · rw [he]; exact htake ss
  · rw [he]; exact htake ss
  · rw [he, endSession_eq (takeIncrement_session c m pv bat b ss)]; exact judgeRelease_releases _

end

end Sys2Proof.Machine
end

section
/-! SUPPORT. The attribution of a whole round (R104 to R113): what every outlet is left with, the draws in the order of the bays (R110), and
what the sessions that end at their cap take with them. -/

namespace Sys2Proof.Machine

/-! ### Every bay's attribution, at one of them (R104) -/

/-- What a bay's attribution makes of its outlet, the attributions of the other bays leave but for a brush. -/
theorem attribution_at {z : Controller} {m pv bat : Int} {b : Bay} {P : Outlet → Prop}
    (here : ∀ e, (z.outlet b).brushed (e.outlet b) → z.quietBlocks e → ∃ o, P o ∧ o.brushed ((e.takeEnergy m pv bat b).outlet b)) :
    ∃ o, P o ∧ o.brushed ((forBays (Controller.takeEnergy m pv bat) z).outlet b) :=
  forBays_at (f := Controller.takeEnergy m pv bat) (A := fun e => (z.outlet b).brushed (e.outlet b) ∧ z.quietBlocks e)
    (B := fun e => ∃ o, P o ∧ o.brushed (e.outlet b))
    (fun y e hy he => ⟨brushed_trans he.1 (takeEnergy_brushes e m pv bat y (Ne.symm hy)), by
      obtain ⟨hst, hse, hli, hru⟩ := takeEnergy_quiet e m pv bat y
      obtain ⟨hst', hse', hli', hru'⟩ := he.2
      exact ⟨hst.trans hst', hse.trans hse', hli.trans hli', hru.trans hru'⟩⟩)
    (fun e he => here e he.1 he.2)
    (fun y e hy he => by
      obtain ⟨o, ho, hb⟩ := he
      exact ⟨o, ho, brushed_trans hb (takeEnergy_brushes e m pv bat y (Ne.symm hy))⟩)
    ⟨brushed_refl _, rfl, rfl, rfl, rfl⟩

/-- The summary of a session that has come to its cap, but for the bound slot and the interrupted flag (R39, R113). -/
def Summary.capped (ss : Session) (now : Nat) (sm : Summary) : Prop :=
  sm.reason = .CAP_REACHED ∧ sm.endTime = now ∧ ∃ k i, sm.session = { ss.closeTail 0 with boundSlot := k, interrupted := i }

theorem capped_withSlot (ss : Session) (k : Option SlotNo) (now : Nat) (sm : Summary) :
    Summary.capped (ss.withSlot k) now sm ↔ Summary.capped ss now sm := by
  unfold Summary.capped Session.closeTail Session.withSlot
  cases ss.kind <;> rfl

/-- An outlet whose session has come to its cap. -/
def Outlet.capEnded (sm : Summary) (o : Outlet) : Outlet := { o.sessionOver .ENDING with summary := some sm }

theorem endSession_capped {c : Controller} {b : Bay} {ss : Session} (hs : (c.outlet b).session = some ss)
    (hu : (c.outlet b).unattributed = 0) : ∃ sm v ch, Summary.capped ss c.run.siteTime sm
      ∧ (c.endSession b .CAP_REACHED .ENDING).outlet b = { (c.outlet b).capEnded sm with raiseReleased := v, changed := ch } := by
  obtain ⟨sm, v, ch, ho⟩ := endSession_outlet_over hs .CAP_REACHED .ENDING
  obtain ⟨slot, -, hsum⟩ := endSession_summary hs .CAP_REACHED .ENDING
  rw [hu, tailOf, Nat.zero_min] at hsum
  rw [ho] at hsum
  obtain rfl : sm = _ := hsum
  exact ⟨_, v, ch, ⟨rfl, rfl, slot, _, rfl⟩, ho⟩

section
variable {z : Controller} {m pv bat : Int} {b : Bay}

/-- An outlet to which nothing is attributed. -/
theorem attribution_idle (h : (z.outlet b).session = none ∨ z.managed b = false) :
    (z.outlet b).brushed ((forBays (Controller.takeEnergy m pv bat) z).outlet b) := by
  obtain ⟨o, rfl, ho⟩ := attribution_at (z := z) (m := m) (pv := pv) (bat := bat) (b := b) (P := fun o => o = z.outlet b)
    fun e he hq => ⟨_, rfl, by
      rw [takeEnergy_idle]
      · exact he
      · obtain ⟨k, v, ch, hk⟩ := he
        rw [hk, managed_eq_of_settings hq.2.1]
        exact h.imp_left fun hn => by simp [hn]⟩
  exact ho

variable {ss : Session} (hs : (z.outlet b).session = some ss) (hm : z.managed b = true)
include hs hm

/-- An attributed outlet whose session goes on holds the increment in it. -/
theorem attribution_open (h : ¬ (ss.attributed m pv bat (z.outlet b).unattributed).capReached = true) :
    Outlet.brushed { z.outlet b with session := some (ss.attributed m pv bat (z.outlet b).unattributed), unattributed := 0 }
      ((forBays (Controller.takeEnergy m pv bat) z).outlet b) := by
  obtain ⟨o, rfl, ho⟩ := attribution_at (z := z) (m := m) (pv := pv) (bat := bat) (b := b)
    (P := fun o => o = { z.outlet b with session := some (ss.attributed m pv bat (z.outlet b).unattributed), unattributed := 0 })
    fun e he hq => ⟨_, rfl, by
      obtain ⟨k, v, ch, hk⟩ := he
      have hse : (e.outlet b).session = some (ss.withSlot k) := by rw [hk, hs]; rfl
      have hme : e.managed b = true := (managed_eq_of_settings hq.2.1 b).trans hm
      have hu : (e.outlet b).unattributed = (z.outlet b).unattributed := by rw [hk]
      have htaken : Outlet.brushed
          { z.outlet b with session := some (ss.attributed m pv bat (z.outlet b).unattributed), unattributed := 0 }
          ((e.takeIncrement m pv bat b (ss.withSlot k)).outlet b) := by
        rw [takeIncrement_outlet_self, hu, attributed_withSlot, hk]
        exact ⟨k, v, _, rfl⟩
      by_cases hkind : ss.kind = .CREDIT
      · rw [takeEnergy_credit hse hme hkind]
        exact htaken
      · rw [takeEnergy_open hse hme hkind (by rw [hu, attributed_withSlot]; exact h)]
        exact htaken⟩
  exact ho

/-- An attributed outlet whose session has come to its cap. -/
theorem attribution_capped (h : (ss.attributed m pv bat (z.outlet b).unattributed).capReached = true) :
    ∃ sm, Summary.capped (ss.attributed m pv bat (z.outlet b).unattributed) z.run.siteTime sm
      ∧ ((z.outlet b).capEnded sm).brushed ((forBays (Controller.takeEnergy m pv bat) z).outlet b) := by
  obtain ⟨o, ⟨sm, hsm, rfl⟩, ho⟩ := attribution_at (z := z) (m := m) (pv := pv) (bat := bat) (b := b)
    (P := fun o => ∃ sm, Summary.capped (ss.attributed m pv bat (z.outlet b).unattributed) z.run.siteTime sm
      ∧ o = (z.outlet b).capEnded sm)
    fun e he hq => by
      obtain ⟨k, v, ch, hk⟩ := he
      obtain ⟨-, hset, -, hrun⟩ := hq
      have hse : (e.outlet b).session = some (ss.withSlot k) := by rw [hk, hs]; rfl
      have hme : e.managed b = true := (managed_eq_of_settings hset b).trans hm
      have hu : (e.outlet b).unattributed = (z.outlet b).unattributed := by rw [hk]
      have hzero : ((e.takeIncrement m pv bat b (ss.withSlot k)).outlet b).unattributed = 0 := by rw [takeIncrement_outlet_self]; rfl
      obtain ⟨sm, v', ch', hsm, hend⟩ := endSession_capped (takeIncrement_session e m pv bat b (ss.withSlot k)) hzero
      rw [hu, attributed_withSlot, capped_withSlot] at hsm
      rw [takeEnergy_capped hse hme (by rw [hu, attributed_withSlot]; exact h), hend]
      refine ⟨_, ⟨sm, ?_, rfl⟩, brushed_of_flags (v := v') (ch := ch') ?_⟩
      · rw [← hrun]; exact hsm
      · rw [takeIncrement_outlet_self, hk]; rfl
  exact ⟨sm, hsm, ho⟩

end

end Sys2Proof.Machine
end

section
/-! SUPPORT. The draws of a round in the order of the bays (R110), and what the sessions that end at their cap in its attribution take with
them: queue entries, computed allocations, bound slots (R39, R113). -/

namespace Sys2Proof.Machine

/-! ### The draws (R110) -/

/-- The increment of a bay in a round (R104). -/
def Controller.increment (c : Controller) (b : Bay) : Nat :=
  match (c.outlet b).session with
  | some ss => tailOf (c.outlet b).unattributed ss
  | none => 0

/-- A draw but for its slot. -/
def Draw.amounts (d : Draw) : Bay × Nat × Nat × Nat × Nat := (d.bay, d.p, d.b, d.g, d.d)

/-- The draw that a bay's increment comes to (R109). -/
def Controller.amountsAt (m pv bat : Int) (c : Controller) (b : Bay) : Bay × Nat × Nat × Nat × Nat :=
  let e := c.increment b
  let p := share e pv m
  let q := share e bat m
  (b, p, q, e - p - q, drawOf c.inForce.tariff p q (e - p - q))

/-- Whether a round hands over a draw for a bay: a managed outlet with a CREDIT session (R110). -/
def Controller.drawsCredit (c : Controller) (b : Bay) : Bool := c.managed b && (((c.outlet b).session.map (·.kind)) == some .CREDIT)

theorem drawFormed_amounts {c : Controller} {b : Bay} {ss : Session} (hs : (c.outlet b).session = some ss) (m pv bat : Int) :
    (drawFormed c.inForce.tariff m pv bat (c.outlet b).unattributed b ss).amounts = c.amountsAt m pv bat b := by
  unfold Controller.amountsAt Controller.increment
  rw [hs]
  rfl

/-- A brush leaves a bay's draw as it is. -/
theorem brushed_draw {z e : Controller} {b : Bay} (h : (z.outlet b).brushed (e.outlet b)) (hs : e.settings = z.settings) (m pv bat : Int) :
    e.amountsAt m pv bat b = z.amountsAt m pv bat b ∧ e.drawsCredit b = z.drawsCredit b := by
  obtain ⟨k, v, ch, ho⟩ := h
  unfold Controller.amountsAt Controller.increment Controller.drawsCredit Controller.inForce
  rw [ho, hs, managed_eq_of_settings hs]
  cases (z.outlet b).session <;> exact ⟨rfl, rfl⟩

/-- The attribution of a bay hands over the bay's draw, if it draws credit, and none else. -/
theorem takeEnergy_draws (c : Controller) (m pv bat : Int) (b : Bay) : ∃ formed,
    (c.takeEnergy m pv bat b).pool.draws = c.pool.draws ++ formed
    ∧ formed.map Draw.amounts = if c.drawsCredit b then [c.amountsAt m pv bat b] else [] := by
  have hnone : ∀ d : Controller, d.pool.draws = c.pool.draws → c.drawsCredit b = false →
      ∃ formed, d.pool.draws = c.pool.draws ++ formed
        ∧ formed.map Draw.amounts = if c.drawsCredit b then [c.amountsAt m pv bat b] else [] :=
    fun d hd hc => ⟨[], by rw [hd, List.append_nil], by rw [hc]; rfl⟩
  cases hs : (c.outlet b).session with
  | none => exact hnone _ (by rw [takeEnergy_idle (.inl hs)]) (by simp [Controller.drawsCredit, hs])
  | some ss =>
    cases hm : c.managed b with
    | false => exact hnone _ (by rw [takeEnergy_idle (.inr hm)]) (by simp [Controller.drawsCredit, hm])
    | true =>
      by_cases hk : ss.kind = .CREDIT
      · have hc : c.drawsCredit b = true := by simp [Controller.drawsCredit, hm, hs, hk]
        rw [takeEnergy_credit hs hm hk, if_pos hc]
        exact ⟨[_], rfl, congrArg (fun x => [x]) (drawFormed_amounts hs m pv bat)⟩
      · have hc : c.drawsCredit b = false := by simp [Controller.drawsCredit, hs, hk]
        by_cases h : (ss.attributed m pv bat (c.outlet b).unattributed).capReached = true
        · exact hnone _ (by rw [takeEnergy_capped hs hm h, endSession_draws (takeIncrement_session c m pv bat b ss)]; rfl) hc
        · exact hnone _ (by rw [takeEnergy_open hs hm hk h]; rfl) hc

/-- The draws formed at a list of bays, in its order. -/
theorem foldl_takeEnergy_draws {z : Controller} {m pv bat : Int} (l : List Bay) (hl : l.Nodup) (e : Controller)
    (hb : ∀ b ∈ l, (z.outlet b).brushed (e.outlet b)) (hs : e.settings = z.settings) :
    ∃ formed, (l.foldl (fun c b => Controller.takeEnergy m pv bat b c) e).pool.draws = e.pool.draws ++ formed
      ∧ formed.map Draw.amounts = (l.filter z.drawsCredit).map (z.amountsAt m pv bat) := by
  induction l generalizing e with
  | nil => exact ⟨[], (List.append_nil _).symm, rfl⟩
  | cons b l ih =>
    obtain ⟨hbl, hl⟩ := List.nodup_cons.mp hl
    obtain ⟨hb, hrest⟩ := List.forall_mem_cons.mp hb
    obtain ⟨formed, hd, hf⟩ := takeEnergy_draws e m pv bat b
    obtain ⟨formed', hd', hf'⟩ := ih hl (e.takeEnergy m pv bat b)
      (fun x hx => brushed_trans (hrest x hx) (takeEnergy_brushes e m pv bat b fun h => hbl (h ▸ hx)))
      ((takeEnergy_quiet e m pv bat b).2.1.trans hs)
    obtain ⟨hamounts, hcredit⟩ := brushed_draw hb hs m pv bat
    refine ⟨formed ++ formed', by rw [List.foldl_cons, hd', hd, List.append_assoc], ?_⟩
    rw [List.map_append, hf, hf', hamounts, hcredit, List.filter_cons]
    split <;> simp

theorem attribution_draws (z : Controller) (m pv bat : Int) :
    ∃ formed, (forBays (Controller.takeEnergy m pv bat) z).pool.draws = z.pool.draws ++ formed
      ∧ formed.map Draw.amounts = ((List.finRange 24).filter z.drawsCredit).map (z.amountsAt m pv bat) := by
  unfold forBays
  exact foldl_takeEnergy_draws (List.finRange 24) (List.nodup_finRange 24) z (fun _ _ => brushed_refl _) rfl

/-! ### The sessions that have ended since (R39, R113) -/

/-- Whether the session that a bay held in `z` has ended in `d`. -/
def Controller.sessionGone (z d : Controller) (b : Bay) : Bool := (z.outlet b).session.isSome && (d.outlet b).session.isNone

/-- The bound slot of the session that a bay holds. -/
def Controller.slotOf (c : Controller) (b : Bay) : Option SlotNo := (c.outlet b).session.bind (·.boundSlot)

/-- A bound slot is that of the session held in `z`, or that session's slot went with another session that has ended (R20). -/
def Controller.slotKept (z d : Controller) (b : Bay) (slot : Option SlotNo) : Prop :=
  slot = z.slotOf b ∨ (slot = none ∧ ∃ y, z.sessionGone d y = true ∧ z.slotOf y = z.slotOf b)

/-- What an attribution keeps of a round, from the controller `z` that it begins with: sessions end but none begins, an ended one takes its
queue entry, its computed allocation and its bound slot with it, and where none has ended records and link are untouched. -/
structure Controller.attributing (z d : Controller) : Prop where
  held : ∀ b ss, (d.outlet b).session = some ss → (z.outlet b).session.isSome = true ∧ z.slotKept d b ss.boundSlot
  queue : d.pool.queue = z.pool.queue.filter fun e => !z.sessionGone d e.bay
  computed : ∀ b, d.pool.computed.get b = if z.sessionGone d b then 0 else z.pool.computed.get b
  pool : d.pool = { z.pool with queue := d.pool.queue, computed := d.pool.computed, draws := d.pool.draws }
  quiet : (∀ b, z.sessionGone d b = false) → d.credit = z.credit ∧ d.link = z.link
  draws : ∃ formed, d.pool.draws = z.pool.draws ++ formed ∧ ∀ dr ∈ formed, z.slotKept d dr.bay dr.slot
  raised : z.raised .inputBank → d.raised .inputBank

section
variable {z d d' : Controller}

theorem attributing_refl (z : Controller) : z.attributing z := by
  have hgone : ∀ b, z.sessionGone z b = false := fun b => by
    unfold Controller.sessionGone
    cases (z.outlet b).session <;> rfl
  exact ⟨fun b ss hs => ⟨by rw [hs]; rfl, .inl (by rw [Controller.slotOf, hs]; rfl)⟩, by simp [hgone], fun b => by simp [hgone], rfl,
    fun _ => ⟨rfl, rfl⟩, ⟨[], by simp, by simp⟩, id⟩

/-- What a bay holds still stands when more sessions have ended. -/
theorem slotKept_mono (h : ∀ y, z.sessionGone d y = true → z.sessionGone d' y = true) {b : Bay} {slot : Option SlotNo}
    (hk : z.slotKept d b slot) : z.slotKept d' b slot :=
  hk.imp_right fun ⟨hn, y, hy, hs⟩ => ⟨hn, y, h y hy, hs⟩

/-- An increment taken into a session ends none. -/
theorem attributing_takeIncrement (h : z.attributing d) {b : Bay} {ss : Session} (hs : (d.outlet b).session = some ss) (m pv bat : Int) :
    z.attributing (d.takeIncrement m pv bat b ss) ∧ z.sessionGone (d.takeIncrement m pv bat b ss) = z.sessionGone d := by
  have hgone : z.sessionGone (d.takeIncrement m pv bat b ss) = z.sessionGone d := funext fun x => by
    unfold Controller.sessionGone
    by_cases hx : x = b
    · rw [hx, takeIncrement_session, hs]; rfl
    · rw [takeIncrement_outlet_of_ne d m pv bat b ss hx]
  refine ⟨⟨fun x sx hsx => ?_, ?_, ?_, h.pool, ?_, ?_, h.raised⟩, hgone⟩
  · have hmono : ∀ slot, z.slotKept d x slot → z.slotKept (d.takeIncrement m pv bat b ss) x slot := fun slot =>
      slotKept_mono fun y hy => by rw [hgone]; exact hy
    by_cases hx : x = b
    · subst hx
      rw [takeIncrement_session] at hsx
      obtain rfl := Option.some.inj hsx
      rw [(attributed_kept m pv bat _ ss).2.2.2.2.1]
      exact (h.held x ss hs).imp_right (hmono _)
    · rw [takeIncrement_outlet_of_ne d m pv bat b ss hx] at hsx
      exact (h.held x sx hsx).imp_right (hmono _)
  · rw [hgone]; exact h.queue
  · rw [hgone]; exact h.computed
  · rw [hgone]; exact h.quiet
  · obtain ⟨formed, hformed, hslots⟩ := h.draws
    exact ⟨formed, hformed, fun dr hdr => slotKept_mono (fun y hy => by rw [hgone]; exact hy) (hslots dr hdr)⟩

/-- The outlets of an end of a session: the bay's own session is gone, and the others stay, but for the slot that was released. -/
theorem endSession_sessions {b : Bay} {ss : Session} (hs : (d.outlet b).session = some ss) (r : EndReason) (st : OutletState) :
    ((d.endSession b r st).outlet b).session = none
    ∧ ∀ x, x ≠ b → ∃ f, ((d.endSession b r st).outlet x).session = (d.outlet x).session.map f
      ∧ (f = id ∨ ∃ k, ss.boundSlot = some k ∧ f = Session.dropSlot k) := by
  refine ⟨(endSession_endedWith hs r st).1, fun x hx => ?_⟩
  obtain ⟨f, v, ch, ho, hf⟩ := endSession_outlet_of_ne hs hx r st
  exact ⟨f, by rw [ho], hf⟩

theorem sessionGone_endSession (h : z.attributing d) {b : Bay} {ss : Session} (hs : (d.outlet b).session = some ss) (r : EndReason)
    (st : OutletState) (x : Bay) : z.sessionGone (d.endSession b r st) x = (z.sessionGone d x || x == b) := by
  obtain ⟨hself, hother⟩ := endSession_sessions hs r st
  unfold Controller.sessionGone
  by_cases hx : x = b
  · subst hx
    simp [hself, (h.held x ss hs).1]
  · obtain ⟨f, hf, -⟩ := hother x hx
    rw [hf, beq_eq_false_iff_ne.mpr hx, Bool.or_false, Option.isNone_map]

/-- A notice of an end of a session leaves the INPUT notice as it stands. -/
theorem endSession_keeps_input {b : Bay} {ss : Session} (hs : (d.outlet b).session = some ss) (r : EndReason) (st : OutletState)
    (h : d.raised .inputBank) : (d.endSession b r st).raised .inputBank := by
  have hrel : ((d.updOutlet b Outlet.closeTail).releaseSlot ss.boundSlot r).raised .inputBank := by
    unfold Controller.releaseSlot Controller.unbind
    cases ss.boundSlot with
    | none => exact h
    | some k =>
      dsimp only
      split
      · refine raised_raise_of_ne ?_ (by decide)
        cases ((d.updOutlet b Outlet.closeTail).record k).boundBay <;> exact h
      · exact h
  exact (raised_congr (c := ((d.updOutlet b Outlet.closeTail).releaseSlot ss.boundSlot r).raise .outletSessionEnd)
    (endSession_port hs r st) _).mpr (raised_raise_of_ne hrel (by decide))

/-- An end of a session takes the bay's queue entry, its computed allocation and its bound slot. -/
theorem attributing_endSession (h : z.attributing d) {b : Bay} {ss : Session} (hs : (d.outlet b).session = some ss) (r : EndReason)
    (st : OutletState) : z.attributing (d.endSession b r st) := by
  obtain ⟨hself, hother⟩ := endSession_sessions hs r st
  obtain ⟨hsome, hslot⟩ := h.held b ss hs
  have hpool := endSession_pool hs r st
  have hgone := sessionGone_endSession h hs r st
  have hmono : ∀ x slot, z.slotKept d x slot → z.slotKept (d.endSession b r st) x slot := fun x slot =>
    slotKept_mono fun y hy => by rw [hgone, hy]; rfl
  have hb : z.sessionGone (d.endSession b r st) b = true := by rw [hgone, beq_self_eq_true, Bool.or_true]
  refine ⟨fun x sx hsx => ?held, ?queue, fun x => ?computed, ?pool, fun hnone => ?quiet, ?draws, fun hz => ?raised⟩
  case held =>
    have hx : x ≠ b := fun e => by rw [e, hself] at hsx; exact absurd hsx (by simp)
    obtain ⟨f, hf, hcases⟩ := hother x hx
    rw [hf, Option.map_eq_some_iff] at hsx
    obtain ⟨s0, hs0, rfl⟩ := hsx
    obtain ⟨hx0, hkept⟩ := h.held x s0 hs0
    refine ⟨hx0, ?_⟩
    rcases hcases with rfl | ⟨k, hk, rfl⟩
    · exact hmono x _ hkept
    · unfold Session.dropSlot
      split
      · next hdrop =>
        refine .inr ⟨rfl, b, hb, ?_⟩
        rw [hdrop] at hkept
        rw [hk] at hslot
        have h0 : ∀ y, z.slotKept d y (some k) → z.slotOf y = some k := fun y hy => by
          rcases hy with hy | ⟨hy, -⟩
          · exact hy.symm
          · exact absurd hy (by simp)
        exact (h0 b hslot).trans (h0 x hkept).symm
      · exact hmono x _ hkept
  case queue =>
    rw [hpool, h.queue]
    dsimp only
    rw [List.filter_filter]
    refine List.filter_congr fun e _ => ?_
    rw [hgone, Bool.not_or, Bool.and_comm]
    rfl
  case computed =>
    rw [hpool, hgone]
    dsimp only
    rw [Table.get_set, h.computed]
    by_cases hx : x = b
    · simp [hx]
    · rw [if_neg (Ne.symm hx), beq_eq_false_iff_ne.mpr hx, Bool.or_false]
  case pool => rw [hpool, h.pool]
  case quiet => exact absurd (hnone b) (by rw [hb]; decide)
  case draws =>
    obtain ⟨formed, hformed, hslots⟩ := h.draws
    exact ⟨formed, by rw [hpool]; exact hformed, fun dr hdr => hmono _ _ (hslots dr hdr)⟩
  case raised => exact endSession_keeps_input hs r st (h.raised hz)

/-- A draw handed over names the slot that its session is bound to. -/
theorem attributing_handDraw (h : z.attributing d) {dr : Draw} (hk : z.slotKept d dr.bay dr.slot) : z.attributing (d.handDraw dr) := by
  obtain ⟨formed, hformed, hslots⟩ := h.draws
  refine ⟨h.held, h.queue, h.computed, ?_, h.quiet, ⟨formed ++ [dr], ?_, fun x hx => ?_⟩, h.raised⟩
  · unfold Controller.handDraw
    dsimp only
    rw [h.pool]
  · rw [← List.append_assoc, ← hformed]
    rfl
  · rcases List.mem_append.mp hx with hx | hx
    · exact hslots x hx
    · rw [List.mem_singleton.mp hx]
      exact hk

theorem attributing_takeEnergy (h : z.attributing d) (m pv bat : Int) (b : Bay) : z.attributing (d.takeEnergy m pv bat b) := by
  rcases takeEnergy_cases d m pv bat b with he | ⟨ss, hs, -, he | he | he⟩
  · rw [he]; exact h
  · rw [he]; exact (attributing_takeIncrement h hs m pv bat).1
  · rw [he]
    obtain ⟨htaken, hgone⟩ := attributing_takeIncrement h hs m pv bat
    exact attributing_handDraw htaken (slotKept_mono (fun y hy => by rw [hgone]; exact hy) (h.held b ss hs).2)
  · rw [he]
    exact attributing_endSession (attributing_takeIncrement h hs m pv bat).1 (takeIncrement_session d m pv bat b ss) _ _

theorem attribution_attributing (z : Controller) (m pv bat : Int) : z.attributing (forBays (Controller.takeEnergy m pv bat) z) :=
  forBays_keeps z.attributing (fun b _ h => attributing_takeEnergy h m pv bat b) (attributing_refl z)

end

end Sys2Proof.Machine
end

section
/-! SUPPORT. A round whole: its stages, what stands of each outlet before the attribution (R41, R53), and after it (R104 to R113). -/

namespace Sys2Proof.Machine

/-! ### The stages of a round (R66) -/

theorem reading_congr {c d : Controller} (hl : d.link = c.link) (hs : d.settings = c.settings) (b : Bay) : d.reading b = c.reading b := by
  unfold Controller.reading
  rw [bay_eq_of_settings hs, node_eq_of_link hl]

theorem freshBattery_congr {c d : Controller} (hl : d.link = c.link) (hs : d.settings = c.settings) (hr : d.run = c.run) :
    d.freshBattery = c.freshBattery := by
  unfold Controller.freshBattery Controller.arrival Controller.singleton Controller.fresh Controller.age Controller.inForce Controller.node
  rw [hl, hs, hr]

section
variable (p : Port) (c : Controller)

/-- The figures of a round (R69 to R71). -/
def Controller.roundFigures : RoundRecord := (c.begun p).roundRecord

/-- The outcomes and computed allocations of a round (R77 to R82). -/
def Controller.roundAllocation : Table (Option PassOutcome) 24 × Table Nat 24 := c.allocate (c.roundFigures p).c.toNat

/-- The controller after the results of a round at queue and outlets. -/
@[irreducible] def Controller.resulted : Controller := (c.begun p).resultStep (c.roundAllocation p).1 (c.roundAllocation p).2

/-- The controller after battery and canopy, before the attribution. -/
@[irreducible] def Controller.settled : Controller :=
  let r := c.roundFigures p
  (c.resulted p).storageStep ((c.roundAllocation p).2.data.sum : Nat) r.u r.sEst r.lImp (r.pPv.value.getD 0)

/-- The solar total of a round (R105). -/
def Controller.solarTotal : Int := pvTot c.measuredTotal ((c.roundFigures p).pPv.value.getD 0) (c.roundFigures p).sEst

/-- The battery total of a round (R105). -/
def Controller.batteryTotal : Int :=
  batTot c.measuredTotal (c.solarTotal p) (if (c.roundFigures p).pBat.fresh then (c.roundFigures p).pBat.value.getD 0 else 0)

/-- The controller after the attribution of a round. -/
@[irreducible] def Controller.attributedRound : Controller :=
  forBays (Controller.takeEnergy c.measuredTotal (c.solarTotal p) (c.batteryTotal p)) (c.settled p)

/-! ### Before the attribution -/

theorem resulted_eq : c.resulted p =
    { c.begun p with
      outlets := (c.resulted p).outlets
      pool := { (c.begun p).pool with
        queue := c.pool.queue.filter fun e => (c.roundAllocation p).1.get e.bay != some .ADMITTED
        computed := (c.roundAllocation p).2 } } := by
  unfold Controller.resulted
  exact resultStep_leaves (c.begun p) _ _

theorem settled_eq_resulted : c.settled p = { c.resulted p with storage := (c.settled p).storage } := by
  unfold Controller.settled
  exact storageStep_leaves _ _ _ _ _ (c.resulted p)

/-- What steps 1 to 7 of a round leave of the other blocks. -/
theorem settled_eq : c.settled p =
    { c with
      port := p
      outlets := (c.resulted p).outlets
      storage := (c.settled p).storage
      pool := { c.pool with
        keptBank := some c.lines.bank
        queue := c.pool.queue.filter fun e => (c.roundAllocation p).1.get e.bay != some .ADMITTED
        computed := (c.roundAllocation p).2 } } := by
  have hresulted := resulted_eq p c
  rw [settled_eq_resulted]
  generalize (c.settled p).storage = st
  generalize c.resulted p = r at hresulted ⊢
  generalize c.roundAllocation p = alloc at hresulted ⊢
  rw [hresulted]
  rfl

/-- Battery and canopy leave the outlets as the results made them. -/
theorem settled_outlets : (c.settled p).outlets = (c.resulted p).outlets := by rw [settled_eq]

/-- The results at the outlets stand until the attribution. -/
theorem settled_outlet (b : Bay) : ∃ v ch, (c.settled p).outlet b =
    { c.resultAt ((c.roundAllocation p).2.get b) ((c.roundAllocation p).1.get b) b with raiseReleased := v, changed := ch } := by
  rw [outlet_eq_of_outlets (settled_outlets p c)]
  unfold Controller.resulted
  exact resultStep_outlet (c.begun p) _ _ b

theorem settled_releases : (c.settled p).raisesReleased := by
  have hreleases : (c.resulted p).raisesReleased := by
    unfold Controller.resulted
    exact resultStep_releases (c.begun p) _ _
  unfold Controller.raisesReleased
  simp only [outlet_eq_of_outlets (settled_outlets p c)]
  exact hreleases

theorem settled_settings : (c.settled p).settings = c.settings := by rw [settled_eq]

theorem settled_run : (c.settled p).run = c.run := by rw [settled_eq]

/-- Before the attribution a session has changed in its admission alone, and no energy has moved. -/
theorem settled_session (b : Bay) : ∃ f : Session → Session, ((c.settled p).outlet b).session = (c.outlet b).session.map f
    ∧ ∀ ss, ∃ a t, f ss = { ss with admitted := a, startTime := t } := by
  obtain ⟨v, ch, ho⟩ := settled_outlet p c b
  rw [ho]
  unfold Controller.resultAt
  dsimp only
  split
  · exact takeOutcome_session _ _ _ _ _
  · exact ⟨id, by simp, fun ss => ⟨ss.admitted, ss.startTime, rfl⟩⟩

theorem settled_unattributed (b : Bay) : ((c.settled p).outlet b).unattributed = (c.outlet b).unattributed := by
  obtain ⟨v, ch, ho⟩ := settled_outlet p c b
  rw [ho]
  unfold Controller.resultAt
  dsimp only
  split
  · obtain ⟨st, rs, ss, ti, pm, h⟩ := takeOutcome_eq c.inForce c.run.siteTime (c.link.state == .PASS_THROUGH)
      ((c.roundAllocation p).1.get b) (c.outlet b)
    rw [h]
  · rfl

theorem settled_offline (b : Bay) : ((c.settled p).outlet b).state = .OFFLINE ↔ (c.outlet b).state = .OFFLINE := by
  obtain ⟨v, ch, ho⟩ := settled_outlet p c b
  rw [ho]
  unfold Controller.resultAt
  dsimp only
  split
  · exact takeOutcome_state _ _ _ _ _ (.inl rfl)
  · rfl

theorem settled_managed (b : Bay) : (c.settled p).managed b = c.managed b := managed_eq_of_settings (settled_settings p c) b

theorem settled_sessionGone (t : Controller) (b : Bay) : (c.settled p).sessionGone t b = c.sessionGone t b := by
  obtain ⟨f, hf, -⟩ := settled_session p c b
  unfold Controller.sessionGone
  rw [hf, Option.isSome_map]

theorem settled_slotOf (b : Bay) : (c.settled p).slotOf b = c.slotOf b := by
  obtain ⟨f, hf, hadm⟩ := settled_session p c b
  unfold Controller.slotOf
  rw [hf]
  cases (c.outlet b).session with
  | none => rfl
  | some ss =>
    obtain ⟨a, t, h⟩ := hadm ss
    rw [Option.map_some, Option.bind_some, h]
    rfl

theorem settled_draw (m pv bat : Int) (b : Bay) :
    (c.settled p).amountsAt m pv bat b = c.amountsAt m pv bat b ∧ (c.settled p).drawsCredit b = c.drawsCredit b := by
  obtain ⟨f, hf, hadm⟩ := settled_session p c b
  unfold Controller.amountsAt Controller.increment Controller.drawsCredit Controller.inForce
  rw [hf, settled_unattributed, settled_settings, settled_managed]
  cases (c.outlet b).session with
  | none => exact ⟨rfl, rfl⟩
  | some ss =>
    obtain ⟨a, t, h⟩ := hadm ss
    rw [Option.map_some, h]
    exact ⟨rfl, rfl⟩

/-- The measured power that a round attributes to is that of the outlets it began with (R105). -/
theorem settled_measuredTotal : (c.settled p).measuredTotal = c.measuredTotal := by
  have hoffline : ∀ b, (((c.settled p).outlet b).state != .OFFLINE) = ((c.outlet b).state != .OFFLINE) := fun b => by
    rw [Bool.eq_iff_iff, bne_iff_ne, bne_iff_ne, Ne, settled_offline]
  have hattributed : ∀ b, (c.settled p).attributed b = c.attributed b := fun b => by
    obtain ⟨f, hf, -⟩ := settled_session p c b
    unfold Controller.attributed
    rw [settled_managed, hf, Option.isSome_map]
  have hreading : ∀ b, (c.settled p).reading b = c.reading b := fun b => reading_congr (c := c) (by rw [settled_eq]) (by rw [settled_eq]) b
  unfold Controller.measuredTotal
  simp only [hoffline, hattributed, hreading]

theorem settled_freshBattery : (c.settled p).freshBattery = c.freshBattery :=
  freshBattery_congr (by rw [settled_eq]) (settled_settings p c) (settled_run p c)

end

/-- A round, stage by stage (R66). -/
theorem round_eq {c : Controller} {p : Port} (h : c.bankStep.permissionStep = c.begun p) :
    c.round = (c.attributedRound p).recordStep { c.roundFigures p with outcomes := (c.roundAllocation p).1 } := by
  have hstep : (c.settled p).attributionStep ((c.roundFigures p).pPv.value.getD 0) (c.roundFigures p).sEst = c.attributedRound p := by
    rw [attributionStep_eq, settled_measuredTotal, settled_freshBattery, freshBattery_power c fun held => some (held.getD 0)]
    unfold Controller.attributedRound
    rfl
  rw [← hstep]
  unfold Controller.round Controller.settled Controller.resulted
  rw [h]
  rfl

end Sys2Proof.Machine
end

section
/-! SUPPORT. A round after its attribution (R41, R53, R54, R87, R99, R100, R104 to R113), clause by clause, and O33. -/

namespace Sys2Proof.Machine

/-! ### The increment in a session's sums (R107, R108) -/

/-- A session that holds its increment in its sums: the parts, the whole, and the one funding field (R107, R108). -/
def Session.incremented (p q g e : Nat) (ss ss' : Session) : Prop :=
  ss'.kind = ss.kind ∧ ss'.cap = ss.cap ∧ ss'.solar = satAdd u32Max ss.solar p ∧ ss'.battery = satAdd u32Max ss.battery q
    ∧ ss'.grid = satAdd u32Max ss.grid g ∧ ss'.energy = satAdd u32Max ss.energy e ∧ ss'.creditFunded = ss.creditFunded
    ∧ ss'.uncovered = ss.uncovered
    ∧ (ss.kind = .CREDIT → ss'.unfunded = satAdd u32Max ss.unfunded e ∧ ss'.paidEnergy = ss.paidEnergy)
    ∧ (ss.kind ≠ .CREDIT → ss'.paidEnergy = satAdd u32Max ss.paidEnergy e ∧ ss'.unfunded = ss.unfunded)

theorem satAdd_satAdd_zero (limit a b : Nat) : satAdd limit (satAdd limit a b) 0 = satAdd limit a b := by unfold satAdd; omega

theorem attributed_incremented (m pv bat : Int) (u : Nat) (ss : Session) : Session.incremented (share (tailOf u ss) pv m)
    (share (tailOf u ss) bat m) (tailOf u ss - share (tailOf u ss) pv m - share (tailOf u ss) bat m) (tailOf u ss) ss
    (ss.attributed m pv bat u) := by
  obtain ⟨hkind, hcap, hcredit, huncovered, -⟩ := attributed_kept m pv bat u ss
  obtain ⟨hsolar, hbattery, hgrid, henergy⟩ := attributed_parts m pv bat u ss
  obtain ⟨hunfunded, hpaid⟩ := attributed_funding m pv bat u ss
  exact ⟨hkind, hcap, hsolar, hbattery, hgrid, henergy, hcredit, huncovered, hunfunded, hpaid⟩

theorem incremented_withSlot {p q g e : Nat} {ss ss' : Session} (h : ss.incremented p q g e ss') (k : Option SlotNo) :
    ss.incremented p q g e (ss'.withSlot k) := h

/-- An empty tail closed out adds nothing to the sums. -/
theorem incremented_closeTail {p q g e : Nat} {ss ss' : Session} (h : ss.incremented p q g e ss') (k : Option SlotNo) (i : Bool) :
    ss.incremented p q g e { ss'.closeTail 0 with boundSlot := k, interrupted := i } := by
  obtain ⟨hkind, hcap, hsolar, hbattery, hgrid, henergy, hcredit, huncovered, hunfunded, hpaid⟩ := h
  obtain ⟨hkind', hcap', hsolar', hbattery', hgrid', henergy', -⟩ := closeTail_fields ss' 0
  obtain ⟨hunfunded', hpaid'⟩ := closeTail_funding ss' 0
  have hrest : (ss'.closeTail 0).creditFunded = ss'.creditFunded ∧ (ss'.closeTail 0).uncovered = ss'.uncovered := by
    unfold Session.closeTail
    cases ss'.kind <;> exact ⟨rfl, rfl⟩
  refine ⟨hkind'.trans hkind, hcap'.trans hcap, hsolar'.trans hsolar, hbattery'.trans hbattery, hgrid'.trans ?_, henergy'.trans ?_,
    hrest.1.trans hcredit, hrest.2.trans huncovered, fun hk => ?_, fun hk => ?_⟩
  · rw [hgrid, satAdd_satAdd_zero]
  · rw [henergy, satAdd_satAdd_zero]
  · obtain ⟨hu', hp'⟩ := hunfunded' (hkind.trans hk)
    obtain ⟨hu, hp⟩ := hunfunded hk
    exact ⟨hu'.trans (by rw [hu, satAdd_satAdd_zero]), hp'.trans hp⟩
  · obtain ⟨hp', hu'⟩ := hpaid' (fun e => hk (hkind.symm.trans e))
    obtain ⟨hp, hu⟩ := hpaid hk
    exact ⟨hp'.trans (by rw [hp, satAdd_satAdd_zero]), hu'.trans hu⟩

/-! ### The round as the attribution leaves it -/

section
variable (p : Port) (c : Controller)

theorem attributedRound_attributing : (c.settled p).attributing (c.attributedRound p) := by
  unfold Controller.attributedRound
  exact attribution_attributing _ _ _ _

theorem attributedRound_quiet : (c.settled p).quietBlocks (c.attributedRound p) := by
  unfold Controller.attributedRound
  refine forBays_keeps (c.settled p).quietBlocks (fun b d h => ?_) ⟨rfl, rfl, rfl, rfl⟩
  obtain ⟨hst, hse, hli, hru⟩ := h
  obtain ⟨hst', hse', hli', hru'⟩ := takeEnergy_quiet d c.measuredTotal (c.solarTotal p) (c.batteryTotal p) b
  exact ⟨hst'.trans hst, hse'.trans hse, hli'.trans hli, hru'.trans hru⟩

theorem attributedRound_settings : (c.attributedRound p).settings = c.settings :=
  (attributedRound_quiet p c).2.1.trans (settled_settings p c)

theorem attributedRound_lines : (c.attributedRound p).lines = c.lines := (attributedRound_quiet p c).2.2.1.trans (by rw [settled_eq])

theorem attributedRound_run : (c.attributedRound p).run = c.run := (attributedRound_quiet p c).2.2.2.trans (settled_run p c)

theorem attributedRound_releases : (c.attributedRound p).raisesReleased := by
  unfold Controller.attributedRound
  exact forBays_keeps Controller.raisesReleased (fun b d h => takeEnergy_releases d _ _ _ b h) (settled_releases p c)

/-- Pool figures that neither results nor attribution touch (R87, R156). -/
theorem attributedRound_pool : (c.attributedRound p).pool =
    { c.pool with keptBank := some c.lines.bank, queue := (c.attributedRound p).pool.queue
                  computed := (c.attributedRound p).pool.computed, draws := (c.attributedRound p).pool.draws } := by
  rw [(attributedRound_attributing p c).pool, settled_eq]

theorem attributedRound_computed (b : Bay) : (c.attributedRound p).pool.computed.get b =
    if c.sessionGone (c.attributedRound p) b then 0 else (c.roundAllocation p).2.get b := by
  rw [(attributedRound_attributing p c).computed, settled_sessionGone, settled_eq]

theorem attributedRound_queue : (c.attributedRound p).pool.queue = c.pool.queue.filter fun e =>
    (c.roundAllocation p).1.get e.bay != some .ADMITTED && !c.sessionGone (c.attributedRound p) e.bay := by
  rw [(attributedRound_attributing p c).queue, settled_eq, List.filter_filter]
  simp only [← settled_eq, settled_sessionGone, Bool.and_comm]

theorem attributedRound_untouched (h : ∀ b, c.sessionGone (c.attributedRound p) b = false) :
    (c.attributedRound p).credit = c.credit ∧ (c.attributedRound p).link = c.link := by
  obtain ⟨hcredit, hlink⟩ := (attributedRound_attributing p c).quiet fun b => by rw [settled_sessionGone]; exact h b
  exact ⟨hcredit.trans (by rw [settled_eq]), hlink.trans (by rw [settled_eq])⟩

theorem attributedRound_raised (h : (c.begun p).raised .inputBank) : (c.attributedRound p).raised .inputBank :=
  (attributedRound_attributing p c).raised ((raised_congr (by rw [settled_eq]; rfl) _).mpr h)

/-! ### Battery and canopy (R93 to R100) -/

theorem attributedRound_storage : (c.attributedRound p).storage = (c.settled p).storage := (attributedRound_quiet p c).1

/-- The need above which a round discharges the battery (R93). -/
def Controller.needOf (c : Controller) (sumA u sEst lImp pPv : Int) : Int := sumA + u + sEst + c.inForce.guardBand - lImp - pPv

/-- The setpoint that a round computes (R94 to R96). -/
def Controller.setpointOf (c : Controller) (sumA u sEst lImp pPv : Int) : Int :=
  batterySetpoint c.inForce c.storage c.drivenBattery (c.needOf sumA u sEst lImp pPv) (sEst + sumA + u - pPv)

/-- The canopy cap that a round computes of its net import (R98). -/
def Settings.capOf (s : Settings) (n pPv : Int) : Cap :=
  if n < -(s.eLim : Int) then .watts (max 0 (pPv - (-(s.eLim : Int) - n))) else .uncapped

/-- The storage with a round's need, and its setpoint marked for the battery (R93 to R96, R99). -/
def Controller.batteryMarked (c : Controller) (pNeed setpoint : Int) : Storage :=
  { c.storage with pNeed := some pNeed, battery := c.storage.battery.mark (c.singleton .BATTERY).isSome setpoint }

/-- The storage with a round's net import, and its cap marked for the canopy (R97, R98, R100). -/
def Controller.canopyMarked (c : Controller) (n : Int) (cap : Cap) (st : Storage) : Storage :=
  { st with netImport := some n, canopy := st.canopy.mark (c.singleton .CANOPY).isSome cap }

/-- The storage after step 7 of a round: the canopy is marked where its reading is fresh (R93 to R100). -/
theorem storageStep_storage (c : Controller) (sumA u sEst lImp pPv : Int) :
    let setpoint := c.setpointOf sumA u sEst lImp pPv
    let n := sEst + sumA + u - pPv - setpoint
    let marked := c.batteryMarked (c.needOf sumA u sEst lImp pPv) setpoint
    (c.storageStep sumA u sEst lImp pPv).storage =
      if c.freshCanopy.isSome then c.canopyMarked n (c.inForce.capOf n pPv) marked else marked := by
  intro setpoint n marked
  unfold Controller.storageStep
  dsimp only
  cases c.freshCanopy <;> rfl

/-- The storage that step 7 finds, and the readings it takes, are those of the permission. -/
theorem settled_storage : let r := c.roundFigures p
    (c.settled p).storage =
      ((c.begun p).storageStep ((c.roundAllocation p).2.data.sum : Nat) r.u r.sEst r.lImp (r.pPv.value.getD 0)).storage := by
  obtain ⟨o, q, h⟩ : ∃ o q, c.resulted p = { c.begun p with outlets := o, pool := q } := ⟨_, _, resulted_eq p c⟩
  unfold Controller.settled
  dsimp only
  rw [h]
  unfold Controller.storageStep
  dsimp only
  rw [show ({ c.begun p with outlets := o, pool := q } : Controller).freshCanopy = (c.begun p).freshCanopy from rfl]
  cases (c.begun p).freshCanopy <;> rfl

/-! ### Outcomes and targets (R41, R53) -/

/-- An outlet that holds its increment still does when it has been brushed. -/
theorem brushed_holding {o o' : Outlet} {ss : Session} (h : Outlet.brushed { o with session := some ss, unattributed := 0 } o') :
    ∃ k v ch, o' = { o with session := some (ss.withSlot k), unattributed := 0, raiseReleased := v, changed := ch } := h

/-- An outlet whose session has come to its cap still is as that left it when it has been brushed. -/
theorem brushed_capEnded {o o' : Outlet} {sm : Summary} (h : (o.capEnded sm).brushed o') :
    ∃ v ch, o' = { o.capEnded sm with raiseReleased := v, changed := ch } := by
  obtain ⟨k, v, ch, h⟩ := h
  exact ⟨v, ch, h⟩

section
variable {p c} {b : Bay}

theorem attributedRound_at_idle (h : ((c.settled p).outlet b).session = none ∨ c.managed b = false) :
    ((c.settled p).outlet b).brushed ((c.attributedRound p).outlet b) := by
  unfold Controller.attributedRound
  exact attribution_idle (h.imp_right (settled_managed p c b).trans)

variable {ss : Session} (hs : ((c.settled p).outlet b).session = some ss) (hm : c.managed b = true)
include hs hm

theorem attributedRound_at_open
    (h : ¬ (ss.attributed c.measuredTotal (c.solarTotal p) (c.batteryTotal p) ((c.settled p).outlet b).unattributed).capReached = true) :
    Outlet.brushed { (c.settled p).outlet b with
        session := some (ss.attributed c.measuredTotal (c.solarTotal p) (c.batteryTotal p) ((c.settled p).outlet b).unattributed)
        unattributed := 0 }
      ((c.attributedRound p).outlet b) := by
  unfold Controller.attributedRound
  exact attribution_open hs ((settled_managed p c b).trans hm) h

theorem attributedRound_at_capped
    (h : (ss.attributed c.measuredTotal (c.solarTotal p) (c.batteryTotal p) ((c.settled p).outlet b).unattributed).capReached = true) :
    ∃ sm, Summary.capped (ss.attributed c.measuredTotal (c.solarTotal p) (c.batteryTotal p) ((c.settled p).outlet b).unattributed)
        c.run.siteTime sm
      ∧ (((c.settled p).outlet b).capEnded sm).brushed ((c.attributedRound p).outlet b) := by
  unfold Controller.attributedRound
  rw [← settled_run p c]
  exact attribution_capped hs ((settled_managed p c b).trans hm) h

end

/-- An unmanaged or OFFLINE outlet keeps its state and its target. -/
theorem attributedRound_idle {b : Bay} (h : c.managed b = false ∨ (c.outlet b).state = .OFFLINE) :
    ((c.attributedRound p).outlet b).state = (c.outlet b).state
    ∧ ((c.attributedRound p).outlet b).pending = (c.outlet b).pending := by
  obtain ⟨v, ch, ho⟩ := settled_outlet p c b
  rw [resultAt_idle h] at ho
  have hbrushed : ∀ {o o' : Outlet}, o.brushed o' → o'.state = o.state ∧ o'.pending = o.pending := fun ⟨k, v, ch, hb⟩ => by
    rw [hb]; exact ⟨rfl, rfl⟩
  have hgoal : ∀ {o : Outlet}, o.brushed ((c.attributedRound p).outlet b) → o.state = (c.outlet b).state →
      o.pending = (c.outlet b).pending →
      ((c.attributedRound p).outlet b).state = (c.outlet b).state
      ∧ ((c.attributedRound p).outlet b).pending = (c.outlet b).pending := fun hb hs hp =>
    ⟨(hbrushed hb).1.trans hs, (hbrushed hb).2.trans hp⟩
  cases hs : ((c.settled p).outlet b).session with
  | none => exact hgoal (attributedRound_at_idle (.inl hs)) (by rw [ho]) (by rw [ho])
  | some ss =>
    cases hm : c.managed b with
    | false => exact hgoal (attributedRound_at_idle (.inr hm)) (by rw [ho]) (by rw [ho])
    | true =>
      have hoff : (c.outlet b).state = .OFFLINE := h.resolve_left (by rw [hm]; decide)
      by_cases hcap : (ss.attributed c.measuredTotal (c.solarTotal p) (c.batteryTotal p)
          ((c.settled p).outlet b).unattributed).capReached = true
      · obtain ⟨sm, -, hb⟩ := attributedRound_at_capped hs hm hcap
        refine hgoal hb ?_ ?_ <;> rw [ho] <;> simp [Outlet.capEnded, Outlet.sessionOver, hoff]
      · exact hgoal (attributedRound_at_open hs hm hcap) (by rw [ho]) (by rw [ho])

/-- An outlet whose session has not ended is, but for the sums of its session, as the results left it. -/
theorem attributedRound_going {b : Bay} (h : c.sessionGone (c.attributedRound p) b = false) :
    ∃ ss' u v ch, (c.attributedRound p).outlet b = { (c.settled p).outlet b with
        session := ss', unattributed := u, raiseReleased := v, changed := ch }
      ∧ (ss'.map fun y => (y.admitted, y.startTime)) = ((c.settled p).outlet b).session.map fun y => (y.admitted, y.startTime) := by
  have hidle : ((c.settled p).outlet b).brushed ((c.attributedRound p).outlet b) → ∃ ss' u v ch, (c.attributedRound p).outlet b =
        { (c.settled p).outlet b with session := ss', unattributed := u, raiseReleased := v, changed := ch }
      ∧ (ss'.map fun y => (y.admitted, y.startTime)) = ((c.settled p).outlet b).session.map fun y => (y.admitted, y.startTime) := by
    rintro ⟨k, v, ch, hb⟩
    exact ⟨_, _, v, ch, hb, by rw [Option.map_map]; rfl⟩
  cases hs : ((c.settled p).outlet b).session with
  | none => rw [← hs]; exact hidle (attributedRound_at_idle (.inl hs))
  | some ss =>
    cases hm : c.managed b with
    | false => rw [← hs]; exact hidle (attributedRound_at_idle (.inr hm))
    | true =>
      by_cases hcap : (ss.attributed c.measuredTotal (c.solarTotal p) (c.batteryTotal p)
          ((c.settled p).outlet b).unattributed).capReached = true
      · obtain ⟨sm, -, k, v, ch, hb⟩ := attributedRound_at_capped hs hm hcap
        have hgone : (c.settled p).sessionGone (c.attributedRound p) b = true := by
          unfold Controller.sessionGone
          rw [hs, hb]
          rfl
        rw [settled_sessionGone, h] at hgone
        exact absurd hgone (by decide)
      · obtain ⟨k, v, ch, hb⟩ := brushed_holding (attributedRound_at_open hs hm hcap)
        obtain ⟨-, -, -, -, -, hadm, hstart⟩ := attributed_kept c.measuredTotal (c.solarTotal p) (c.batteryTotal p)
          ((c.settled p).outlet b).unattributed ss
        exact ⟨some _, 0, v, ch, hb, congrArg some (Prod.ext hadm hstart)⟩

end

end Sys2Proof.Machine
end

section
/-! SUPPORT. The results at the outlets as a whole round leaves them (R41, R53), the increments and draws of a round (R104 to R113), and
O33. -/

namespace Sys2Proof.Machine

section
variable {p : Port} {c : Controller} {b : Bay}

/-! ### Results (R41, R53) -/

/-- The result at a managed outlet that is not OFFLINE, as the round leaves it. -/
theorem attributedRound_taken (hm : c.managed b = true) (hoff : (c.outlet b).state ≠ .OFFLINE)
    (h : c.sessionGone (c.attributedRound p) b = false) :
    let o := (c.outlet b).takeOutcome c.inForce c.run.siteTime (c.link.state == .PASS_THROUGH) ((c.roundAllocation p).1.get b)
    ∃ ss' u v ch, (c.attributedRound p).outlet b =
        { o with pending := o.pendingAfter ((c.roundAllocation p).2.get b)
                 session := ss', unattributed := u, raiseReleased := v, changed := ch }
      ∧ (ss'.map fun y => (y.admitted, y.startTime)) = o.session.map fun y => (y.admitted, y.startTime) := by
  obtain ⟨ss', u, v, ch, ho, hadm⟩ := attributedRound_going p c h
  obtain ⟨v', ch', hz⟩ := settled_outlet p c b
  rw [resultAt_taken hm hoff] at hz
  rw [hz] at ho hadm
  exact ⟨ss', u, v, ch, ho, hadm⟩

/-- A managed outlet that is neither OFFLINE nor UNMAPPED has its computed allocation for a target (R53). -/
theorem attributedRound_target (hm : c.managed b = true) (hoff : (c.outlet b).state ≠ .OFFLINE)
    (h : c.sessionGone (c.attributedRound p) b = false) (hun : (c.outlet b).state ≠ .UNMAPPED) :
    ((c.attributedRound p).outlet b).pending = pendingFor (c.outlet b).inForce ((c.roundAllocation p).2.get b) := by
  obtain ⟨ss', u, v, ch, ho, -⟩ := attributedRound_taken (p := p) hm hoff h
  have hstate := fun {st : OutletState} (hst : st = .OFFLINE ∨ st = .UNMAPPED) =>
    takeOutcome_state c.inForce c.run.siteTime (c.link.state == .PASS_THROUGH) ((c.roundAllocation p).1.get b) (c.outlet b) hst
  obtain ⟨st, rs, s', ti, pm, heq⟩ :=
    takeOutcome_eq c.inForce c.run.siteTime (c.link.state == .PASS_THROUGH) ((c.roundAllocation p).1.get b) (c.outlet b)
  rw [ho]
  dsimp only
  rw [pendingAfter_of_taking (fun e => hoff ((hstate (.inl rfl)).mp e)) (fun e => hun ((hstate (.inr rfl)).mp e)), heq]

/-- The outcome of the round at a managed outlet that is not OFFLINE (R41). -/
theorem attributedRound_outcome (hm : c.managed b = true) (hoff : (c.outlet b).state ≠ .OFFLINE)
    (h : c.sessionGone (c.attributedRound p) b = false) :
    let o := c.outlet b
    let o' := (c.attributedRound p).outlet b
    let outcome := (c.roundAllocation p).1.get b
    (outcome = some .ADMITTED → o.state = .QUEUED → o'.state = .STARTING
      ∧ o'.startTimer = some { left := c.inForce.tStart * 1000, frozenBySilence := false
                               frozenByWindow := c.link.state == .PASS_THROUGH }
      ∧ (o.session.isSome = true → (o'.session.map fun y => (y.admitted, y.startTime)) = some (true, some c.run.siteTime)))
    ∧ (outcome = some .MINIMUM → o.state = .PAUSED → o.reasons = .budgetAlone →
      o'.state = .CHARGING ∧ o'.reasons = .empty ∧ o'.pauseMinimum = none)
    ∧ (outcome = some .BUDGET → o.state = .STARTING ∨ o.state = .CHARGING → o'.state = .PAUSED
      ∧ o'.reasons = { o.reasons with budget := true } ∧ o'.startTimer = none
      ∧ (o'.pauseMinimum.map (·.left)) = some (c.inForce.tPmin * 1000))
    ∧ (¬ (outcome = some .ADMITTED ∧ o.state = .QUEUED) →
      ¬ (outcome = some .MINIMUM ∧ o.state = .PAUSED ∧ o.reasons = .budgetAlone) →
      ¬ (outcome = some .BUDGET ∧ (o.state = .STARTING ∨ o.state = .CHARGING)) →
      o'.state = o.state ∧ o'.reasons = o.reasons ∧ o'.startTimer = o.startTimer ∧ o'.pauseMinimum = o.pauseMinimum) := by
  obtain ⟨ss', u, v, ch, ho, hadm⟩ := attributedRound_taken (p := p) hm hoff h
  intro o o' outcome
  rw [show o' = _ from ho]
  dsimp only at hadm ⊢
  refine ⟨fun hout hst => ?admitted, fun hout hst hr => ?minimum, fun hout hst => ?budget, fun ha hmin hb => ?other⟩
  case admitted =>
    rw [show (c.roundAllocation p).1.get b = _ from hout, takeOutcome_admitted _ _ _ hst] at hadm ⊢
    refine ⟨rfl, rfl, fun hsome => hadm.trans ?_⟩
    obtain ⟨ss, hss⟩ := Option.isSome_iff_exists.mp hsome
    show ((c.outlet b).session.map _).map _ = _
    rw [show (c.outlet b).session = some ss from hss]
    rfl
  case minimum =>
    rw [show (c.roundAllocation p).1.get b = _ from hout, takeOutcome_minimum _ _ _ hst hr]
    exact ⟨rfl, rfl, rfl⟩
  case budget =>
    rw [show (c.roundAllocation p).1.get b = _ from hout, takeOutcome_budget _ _ _ hst]
    exact ⟨rfl, rfl, rfl, rfl⟩
  case other =>
    rw [takeOutcome_other _ _ _ ha hmin hb]
    exact ⟨rfl, rfl, rfl, rfl⟩

/-! ### Increments (R104 to R109, R113) -/

theorem acting_capEnded (o : Outlet) (sm : Summary) : (o.capEnded sm).acting = .ENDING := by
  by_cases h : o.state = .OFFLINE
  · exact (acting_of_offline (if_pos h)).trans (congrArg (fun x : Option OutletState => x.getD .OFFLINE) (if_pos h))
  · have hst : (o.capEnded sm).state = .ENDING := if_neg h
    rw [acting_of_online (by rw [hst]; decide), hst]

/-- The share that a round gives of a bay's increment to the sun (R106). -/
def Controller.solarShare (p : Port) (c : Controller) (b : Bay) : Nat := share (c.increment b) (c.solarTotal p) c.measuredTotal

/-- The share that a round gives of a bay's increment to the battery (R106). -/
def Controller.batteryShare (p : Port) (c : Controller) (b : Bay) : Nat := share (c.increment b) (c.batteryTotal p) c.measuredTotal

/-- A bay to which energy is attributed: it is counted out, held by the session, and the session ends where it has come to its cap. -/
theorem attributedRound_increment {ss : Session} (hs : (c.outlet b).session = some ss) (hm : c.managed b = true) :
    let t := c.attributedRound p
    (t.outlet b).unattributed = 0
    ∧ (c.sessionGone t b = true ↔ ss.kind ≠ .CREDIT ∧ ss.cap ≠ 0 ∧ ss.cap ≤ satAdd u32Max ss.paidEnergy (c.increment b))
    ∧ (c.sessionGone t b = true → ((t.outlet b).summary.map fun y => (y.reason, y.endTime)) = some (.CAP_REACHED, c.run.siteTime)
      ∧ (t.outlet b).acting = .ENDING)
    ∧ ∀ ss', ((t.outlet b).session <|> (t.outlet b).summary.map (·.session)) = some ss' →
      ss.incremented (c.solarShare p b) (c.batteryShare p b) (c.increment b - c.solarShare p b - c.batteryShare p b) (c.increment b)
        ss' := by
  obtain ⟨f, hf, hadm⟩ := settled_session p c b
  obtain ⟨a, st, hfs⟩ := hadm ss
  rw [hs, Option.map_some, hfs] at hf
  have hinc : c.increment b = tailOf (c.outlet b).unattributed ss := by
    unfold Controller.increment
    rw [hs]
  have hu := settled_unattributed p c b
  have hsums := attributed_incremented c.measuredTotal (c.solarTotal p) (c.batteryTotal p) (c.outlet b).unattributed
    { ss with admitted := a, startTime := st }
  have hcap := capReached_attributed_iff c.measuredTotal (c.solarTotal p) (c.batteryTotal p) (c.outlet b).unattributed
    { ss with admitted := a, startTime := st }
  have hopen := attributedRound_at_open hf hm
  have hcapped := attributedRound_at_capped hf hm
  rw [hu] at hopen hcapped
  unfold Controller.solarShare Controller.batteryShare
  rw [hinc]
  intro t
  by_cases h : (Session.attributed c.measuredTotal (c.solarTotal p) (c.batteryTotal p) (c.outlet b).unattributed
      { ss with admitted := a, startTime := st }).capReached = true
  · obtain ⟨sm, ⟨hreason, htime, k, i, hsm⟩, hb⟩ := hcapped h
    obtain ⟨v, ch, ho⟩ := brushed_capEnded hb
    have hgone : c.sessionGone t b = true := by
      unfold Controller.sessionGone
      rw [hs, show t.outlet b = _ from ho]
      rfl
    rw [hgone, show t.outlet b = _ from ho]
    refine ⟨rfl, iff_of_true rfl (hcap.mp h), fun _ => ⟨?_, acting_capEnded _ sm⟩, fun ss' hss' => ?_⟩
    · show some (sm.reason, sm.endTime) = _
      rw [hreason, htime]
    · obtain rfl : sm.session = ss' := Option.some.inj hss'
      rw [hsm]
      exact incremented_closeTail hsums k i
  · obtain ⟨k, v, ch, ho⟩ := brushed_holding (hopen h)
    have hgone : c.sessionGone t b = false := by
      unfold Controller.sessionGone
      rw [hs, show t.outlet b = _ from ho]
      rfl
    rw [hgone, show t.outlet b = _ from ho]
    refine ⟨rfl, iff_of_false (by decide) fun e => h (hcap.mpr e), fun e => absurd e (by decide), fun ss' hss' => ?_⟩
    obtain rfl := Option.some.inj hss'
    exact incremented_withSlot hsums k

/-- A bay to which nothing is attributed keeps its count, and its session but for the bound slot and the admission. -/
theorem attributedRound_uncounted (h : (c.outlet b).session = none ∨ c.managed b = false) :
    ((c.attributedRound p).outlet b).unattributed = (c.outlet b).unattributed
    ∧ (((c.attributedRound p).outlet b).session.map fun y => { y with boundSlot := none })
      = ((c.outlet b).session.map fun y => { y with boundSlot := none }) := by
  have hsession : ((c.settled p).outlet b).session = (c.outlet b).session := by
    rcases h with h | h
    · obtain ⟨f, hf, -⟩ := settled_session p c b
      rw [hf, h]
      rfl
    · obtain ⟨v, ch, ho⟩ := settled_outlet p c b
      rw [ho, resultAt_idle (.inl h)]
  obtain ⟨k, v, ch, ho⟩ := attributedRound_at_idle (p := p) (by rw [hsession]; exact h)
  rw [ho]
  dsimp only
  rw [settled_unattributed, hsession, Option.map_map]
  exact ⟨rfl, rfl⟩

end

/-! ### Draws (R110) -/

section
variable (p : Port) (c : Controller)

/-- The draws of a round follow those that waited, in bay order. -/
theorem attributedRound_draws : let t := c.attributedRound p
    t.pool.draws.take c.pool.draws.length = c.pool.draws
    ∧ (t.pool.draws.drop c.pool.draws.length).map Draw.amounts = ((List.finRange 24).filter c.drawsCredit).map
      (c.amountsAt c.measuredTotal (c.solarTotal p) (c.batteryTotal p)) := by
  obtain ⟨formed, hd, hf⟩ := attribution_draws (c.settled p) c.measuredTotal (c.solarTotal p) (c.batteryTotal p)
  have hwaiting : (c.settled p).pool.draws = c.pool.draws := by rw [settled_eq]
  have hdraws : (c.attributedRound p).pool.draws = c.pool.draws ++ formed := by
    unfold Controller.attributedRound
    rw [hd, hwaiting]
  intro t
  rw [show t.pool.draws = _ from hdraws, List.take_left, List.drop_left, hf]
  simp only [funext fun b => (settled_draw p c c.measuredTotal (c.solarTotal p) (c.batteryTotal p) b).1,
    funext fun b => (settled_draw p c c.measuredTotal (c.solarTotal p) (c.batteryTotal p) b).2, and_self]

/-- A draw names the slot of its bay's session, unless the slot went with a session that has ended (R20). -/
theorem attributedRound_draw_slot {d : Draw} (h : d ∈ (c.attributedRound p).pool.draws.drop c.pool.draws.length) :
    d.slot = c.slotOf d.bay ∨ ∃ y, c.sessionGone (c.attributedRound p) y = true ∧ c.slotOf y = c.slotOf d.bay := by
  obtain ⟨formed, hd, hslots⟩ := (attributedRound_attributing p c).draws
  have hwaiting : (c.settled p).pool.draws = c.pool.draws := by rw [settled_eq]
  rw [hd, hwaiting, List.drop_left] at h
  have hkept := hslots d h
  unfold Controller.slotKept at hkept
  simp only [settled_slotOf, settled_sessionGone] at hkept
  exact hkept.imp_right fun hgone => hgone.2

end

/-! ### The round as a row (R64, R66) -/

/-- The controller after a round that is taken: recorded, and the round timer started anew. -/
def Controller.recorded (p : Port) (c : Controller) : Controller :=
  ((c.attributedRound p).recordStep { c.roundFigures p with outcomes := (c.roundAllocation p).1 }).startRoundTimer

section
variable (p : Port) (c : Controller)

/-- The pool after a round (R64, R70, R87, R156). -/
theorem recorded_pool : (c.recorded p).pool =
    { c.pool with
      roundTimer := some (c.inForce.tRound * 1000)
      sPrev := (c.roundFigures p).sEst
      firstRound := c.pool.firstRound && !(c.roundFigures p).normal
      queue := (c.attributedRound p).pool.queue
      computed := (c.attributedRound p).pool.computed
      lastRound := some { c.roundFigures p with outcomes := (c.roundAllocation p).1 }
      roundCount := min 4294967295 (c.pool.roundCount + 1)
      keptBank := some c.lines.bank
      draws := (c.attributedRound p).pool.draws } := by
  unfold Controller.recorded Controller.startRoundTimer Controller.recordStep Controller.inForce
  dsimp only
  rw [attributedRound_settings, attributedRound_pool]
  rfl

/-- The storage of a round, by the freshness of the canopy's reading (R93 to R100). -/
theorem recorded_storage : let r := c.roundFigures p
    let d := c.begun p
    let sumA : Int := ((c.roundAllocation p).2.data.sum : Nat)
    let pPv := r.pPv.value.getD 0
    let setpoint := d.setpointOf sumA r.u r.sEst r.lImp pPv
    let n := r.sEst + sumA + r.u - pPv - setpoint
    let marked := d.batteryMarked (d.needOf sumA r.u r.sEst r.lImp pPv) setpoint
    (r.pPv.fresh = false → (c.recorded p).storage = marked)
    ∧ (r.pPv.fresh = true → (c.recorded p).storage = d.canopyMarked n (d.inForce.capOf n pPv) marked) := by
  intro r d sumA pPv setpoint n marked
  have hfresh : d.freshCanopy.isSome = r.pPv.fresh := freshCanopy_isSome d _
  have hstorage : (c.recorded p).storage = if d.freshCanopy.isSome then d.canopyMarked n (d.inForce.capOf n pPv) marked else marked :=
    (attributedRound_storage p c).trans ((settled_storage p c).trans (storageStep_storage d _ _ _ _ _))
  rw [hstorage, hfresh]
  exact ⟨fun h => if_neg (by rw [h]; decide), fun h => if_pos h⟩

/-- B_off stands after a round as its permission left it (R92). -/
theorem recorded_bOff : (c.recorded p).storage.bOff = c.permitted.bOff := by
  obtain ⟨hstale, hfresh⟩ := recorded_storage p c
  cases h : (c.roundFigures p).pPv.fresh with
  | false => rw [hstale h]; rfl
  | true => rw [hfresh h]; rfl

end

theorem exec_allocationRound_absent {s : State} (h : s.ctl.taking = true) (hr : s.ctl.pool.roundTimer = none) :
    exec .allocationRound s = .next s := by
  show execAllocationRound s = _
  unfold execAllocationRound
  rw [event_taking _ h, hr]
  rfl

theorem exec_allocationRound {s : State} {p : Port} (h : s.ctl.taking = true) (hr : s.ctl.pool.roundTimer.isSome = true)
    (hp : s.ctl.bankStep.permissionStep = s.ctl.begun p) : exec .allocationRound s = .next (s.put (s.ctl.recorded p)) := by
  show execAllocationRound s = _
  unfold execAllocationRound Controller.recorded
  rw [event_taking _ h, if_pos hr, round_eq hp]

/-- Settles O33. -/
theorem roundIsTakenWhole : Obligations.RoundIsTakenWhole := by
  refine ⟨fun c k value stale => ⟨fun a ha => ?_, fun hn => ⟨arrival_of_no_singleton hn, singleton_none hn⟩, use_missing value stale,
    fun arr harr => ⟨fun hf => use_fresh value stale harr ((fresh_iff c arr).mpr hf),
      fun hf => use_stale value stale harr fun e => hf ((fresh_iff c arr).mp e)⟩⟩,
    fun s h hr => exec_allocationRound_absent h hr, fun s h hr => ?_⟩
  · obtain ⟨hknown, hkind⟩ := singleton_node ha
    exact ⟨hknown, hkind, arrival_of_singleton ha⟩
  intro c x sum watts st1
  obtain ⟨p, hp, hbank⟩ := bankStep_permissionStep s.ctl
  have hpool := recorded_pool p c
  refine ⟨_, exec_allocationRound h hr hp, { c.roundFigures p with outcomes := (c.roundAllocation p).1 }, rfl, rfl, rfl, rfl, rfl, rfl,
    rfl, rfl, powerOut_all c, rfl, rfl, rfl, rfl, rfl, rfl, rfl, rfl, roundRecord_safe (c.begun p), roundRecord_normal (c.begun p),
    roundRecord_estimate (c.begun p), rfl, rfl, rfl, rfl, rfl, (recorded_bOff p c).symm, ?_⟩
  intro pPv alloc ended
  refine ⟨rfl, congrArg Pool.roundTimer hpool, congrArg Pool.roundCount hpool, rfl, congrArg Pool.firstRound hpool,
    congrArg Pool.keptBank hpool, fun k hk hne => attributedRound_raised p c (hbank k hk hne), attributedRound_computed p c,
    attributedRound_queue p c, attributedRound_settings p c, attributedRound_lines p c, attributedRound_run p c,
    attributedRound_untouched p c, ?storage, fun b hb => attributedRound_idle p c hb,
    fun b hm hoff hgone => ⟨attributedRound_target hm hoff hgone, attributedRound_outcome hm hoff hgone⟩,
    attributedRound_releases p c, ?attribution⟩
  case storage =>
    have hstorage := recorded_storage p c
    dsimp only [Controller.batteryMarked, Controller.canopyMarked] at hstorage
    have hbattery : (c.begun p).storage.battery.acked = c.storage.battery.acked := congrArg BatteryDelivery.acked (permitted_deliveries c).1
    have hcanopy : (c.begun p).storage.canopy.acked = c.storage.canopy.acked := congrArg CanopyDelivery.acked (permitted_deliveries c).2
    simp only [battery_mark_eq, canopy_mark_eq, hbattery, hcanopy] at hstorage
    exact hstorage
  case attribution =>
    obtain ⟨htake, hdrop⟩ := attributedRound_draws p c
    exact ⟨fun b ss hs hm => attributedRound_increment hs hm, fun b hb => attributedRound_uncounted hb, htake, hdrop,
      fun d hd => attributedRound_draw_slot p c hd⟩

end Sys2Proof.Machine
end

section
/-! SUPPORT. The reserve window of a minute of day (R89), the battery readings that a round judges (R90, R94, R95), and the discharge
permission with the discharge offered after it (R90 to R92). -/

namespace Sys2Proof.Machine

/-! ### The reserve window (R89) -/

theorem latestStart_eq_none_iff (ws : List ReserveWindow) : latestStart ws = none ↔ ws = [] := by
  cases ws with
  | nil => simp [latestStart]
  | cons w ws =>
    unfold latestStart
    split
    · simp
    · split <;> simp

/-- The entry found is one of the list, and none starts later. -/
theorem latestStart_some {ws : List ReserveWindow} {w : ReserveWindow} (h : latestStart ws = some w) :
    w ∈ ws ∧ ∀ v ∈ ws, v.start ≤ w.start := by
  induction ws generalizing w with
  | nil => cases h
  | cons x ws ih =>
    unfold latestStart at h
    split at h
    · next hn =>
      cases h
      rw [(latestStart_eq_none_iff ws).mp hn]
      simp
    · next v hv =>
      obtain ⟨hmem, hmax⟩ := ih hv
      split at h <;> cases h
      · next hlt =>
        exact ⟨List.mem_cons_self, fun u hu => (List.mem_cons.mp hu).elim (fun e => e ▸ le_refl _) fun hu => (hmax u hu).trans hlt.le⟩
      · next hle =>
        exact ⟨List.mem_cons_of_mem _ hmem, fun u hu => (List.mem_cons.mp hu).elim (fun e => e ▸ not_lt.mp hle) (hmax u)⟩

/-- The one entry with the latest start minute is found. -/
theorem latestStart_of_latest {ws : List ReserveWindow} {w : ReserveWindow} (hw : w ∈ ws) (honly : ∀ v ∈ ws, v.start = w.start → v = w)
    (hmax : ∀ v ∈ ws, v.start ≤ w.start) : latestStart ws = some w := by
  cases h : latestStart ws with
  | none => rw [(latestStart_eq_none_iff ws).mp h] at hw; cases hw
  | some v =>
    obtain ⟨hv, hvmax⟩ := latestStart_some h
    rw [honly v hv (le_antisymm (hmax v hv) (hvmax w hw))]

section
variable {ws : List ReserveWindow} {w : ReserveWindow} {minute : Nat} (hw : w ∈ ws) (honly : ∀ v ∈ ws, v.start = w.start → v = w)
include hw honly

/-- The latest entry that has started is in force. -/
theorem windowAt_started (hs : w.start ≤ minute) (hmax : ∀ v ∈ ws, v.start ≤ minute → v.start ≤ w.start) : windowAt minute ws = some w := by
  have hfound : latestStart (ws.filter fun v => decide (v.start ≤ minute)) = some w := by
    refine latestStart_of_latest (List.mem_filter.mpr ⟨hw, decide_eq_true hs⟩) (fun v hv => honly v (List.mem_filter.mp hv).1) fun v hv => ?_
    obtain ⟨hmem, hle⟩ := List.mem_filter.mp hv
    exact hmax v hmem (of_decide_eq_true hle)
  unfold windowAt
  rw [hfound]

/-- Before the first start of the day the latest entry of all is in force, as from the day before. -/
theorem windowAt_before_all (hnone : ∀ v ∈ ws, minute < v.start) (hmax : ∀ v ∈ ws, v.start ≤ w.start) : windowAt minute ws = some w := by
  have hempty : (ws.filter fun v => decide (v.start ≤ minute)) = [] :=
    List.filter_eq_nil_iff.mpr fun v hv => by simpa using hnone v hv
  unfold windowAt
  rw [hempty]
  exact latestStart_of_latest hw honly hmax

end

theorem selectWindow_of_window {st : Storage} {now : Nat} {ws : List ReserveWindow} {w : ReserveWindow}
    (h : windowAt (minuteOfDay now) ws = some w) :
    st.selectWindow true now ws = { st with windowStart := some w.start, floor := w.floor, gridCharge := w.gridCharge } := by
  unfold Storage.selectWindow
  rw [h]

/-- A maximum that is folded up from a start value is the start value or an element, and none of them is above it. -/
theorem foldl_max_greatest (l : List Nat) (m : Nat) :
    m ≤ l.foldl max m ∧ (∀ x ∈ l, x ≤ l.foldl max m) ∧ (l.foldl max m = m ∨ l.foldl max m ∈ l) := by
  induction l generalizing m with
  | nil => simp
  | cons x l ih =>
    obtain ⟨hstart, hall, hfound⟩ := ih (max m x)
    refine ⟨(le_max_left m x).trans hstart, fun y hy => ?_, ?_⟩
    · rcases List.mem_cons.mp hy with rfl | hy
      · exact (le_max_right m y).trans hstart
      · exact hall y hy
    · rcases hfound with h | h
      · rcases max_choice m x with hm | hm
        · exact .inl (h.trans hm)
        · exact .inr (List.mem_cons.mpr (.inl (h.trans hm)))
      · exact .inr (List.mem_cons_of_mem x h)

theorem floor_le_highestFloor {ws : List ReserveWindow} {w : ReserveWindow} (h : w ∈ ws) : w.floor ≤ highestFloor ws :=
  (foldl_max_greatest (ws.map (·.floor)) 0).2.1 _ (List.mem_map_of_mem h)

theorem highestFloor_cases (ws : List ReserveWindow) : highestFloor ws = 0 ∨ ∃ w ∈ ws, w.floor = highestFloor ws :=
  (foldl_max_greatest (ws.map ReserveWindow.floor) 0).2.2.imp_right List.mem_map.mp

/-! ### The battery's reading (R67, R90, R94, R95) -/

theorem battery_eq_some_iff (arr : Arrival) (b : BatteryReading) : arr.battery = some b ↔ arr.body = .battery b := by
  unfold Arrival.battery
  cases arr.body <;> simp

/-- The fresh reading of the battery node. -/
theorem freshBattery_eq_some_iff {c : Controller} {a : Addr} (h : c.singleton .BATTERY = some a) (b : BatteryReading) :
    c.freshBattery = some b ↔ ∃ arr, (c.node a).readings = some arr ∧ arr.body = .battery b
      ∧ c.run.ms - arr.stamp ≤ c.inForce.tStale * 1000 ∧ c.link.state ≠ .DOWN := by
  unfold Controller.freshBattery
  rw [arrival_of_singleton h, Option.bind_eq_some_iff]
  refine exists_congr fun arr => and_congr_right fun _ => ?_
  rw [← fresh_iff, ← battery_eq_some_iff]
  by_cases hf : c.fresh arr = true <;> simp [hf]

/-- The readings that make the evaluation of the permission clear (R90). -/
theorem clearBattery_eq_some_iff (c : Controller) (b : BatteryReading) : c.clearBattery = some b ↔
    ∃ a, c.singleton .BATTERY = some a ∧ (c.node a).state = .PRESENT ∧ c.freshBattery = some b ∧ b.faultCode = 0 ∧ b.empty = false := by
  unfold Controller.clearBattery
  cases c.singleton .BATTERY with
  | none => simp
  | some a =>
    by_cases hp : (c.node a).state = .PRESENT
    · simp [hp, Option.filter_eq_some_iff]
    · simp [hp]

/-- The battery that R94 and R95 apply to. -/
theorem drivenBattery_eq_some_iff (c : Controller) (b : BatteryReading) : c.drivenBattery = some b ↔
    ∃ a, c.singleton .BATTERY = some a ∧ (c.node a).state = .PRESENT ∧ c.lines.stopAll.qualified = false ∧ c.freshBattery = some b
      ∧ b.faultCode = 0 := by
  unfold Controller.drivenBattery
  cases c.singleton .BATTERY with
  | none => simp
  | some a =>
    by_cases hp : (c.node a).state = .PRESENT ∧ c.lines.stopAll.qualified = false
    · simp [hp, Option.filter_eq_some_iff]
    · simp only [if_neg hp, reduceCtorEq, false_iff, Option.some.injEq]
      rintro ⟨x, rfl, hstate, hstop, -⟩
      exact hp ⟨hstate, hstop⟩

/-! ### Permission and offer (R90 to R92) -/

/-- The table of R90. -/
theorem permissionAfter_iff (before : Bool) (e floor hBat : Nat) :
    permissionAfter before e floor hBat = true ↔ (if before then floor < e else floor + hBat ≤ e ∧ floor < e) := by
  cases before <;> simp [permissionAfter]

theorem evaluate_clear (s : Settings) (st : Storage) (b : BatteryReading) :
    st.evaluate s (some b) = { st with
      allowed := permissionAfter st.allowed b.energy st.floor s.hBat, lastClear := some true
      bOff := if permissionAfter st.allowed b.energy st.floor s.hBat then min (s.pDisSet : Int) (max 0 b.dischargeLimit) else 0 } := rfl

theorem evaluate_held (s : Settings) (st : Storage) :
    st.evaluate s none = { st with allowed := false, lastClear := some false, bOff := 0 } := rfl

/-- Whatever the evaluation finds, it never offers a negative discharge. -/
theorem evaluate_bOff_nonneg (s : Settings) (clear : Option BatteryReading) (st : Storage) : 0 ≤ (st.evaluate s clear).bOff := by
  cases clear with
  | none => rw [evaluate_held]
  | some b =>
    rw [evaluate_clear]
    dsimp only
    split
    · exact le_min (Int.natCast_nonneg _) (le_max_left _ _)
    · exact le_refl 0

/-- Settles O36. -/
theorem dischargePermissionAndOffer : Obligations.DischargePermissionAndOffer := by
  refine ⟨fun s st => ⟨fun b => ?clear, rfl, rfl, rfl⟩, fun c b => ?reading, fun st now ws => ?window⟩
  case clear =>
    rw [evaluate_clear]
    exact ⟨permissionAfter_iff _ _ _ _, fun h => if_pos h, fun h => if_neg (Bool.eq_false_iff.mp h), rfl⟩
  case reading =>
    rw [clearBattery_eq_some_iff]
    refine exists_congr fun a => and_congr_right fun ha => and_congr_right fun _ => ?_
    rw [freshBattery_eq_some_iff ha]
    exact ⟨fun ⟨hr, hf, he⟩ => ⟨hf, he, hr⟩, fun ⟨hf, he, hr⟩ => ⟨hr, hf, he⟩⟩
  case window =>
    intro minute at' unsure
    refine ⟨rfl, rfl, fun w hw => floor_le_highestFloor hw, highestFloor_cases ws, fun hn => ?_, fun w hw honly hwhen => ?_⟩
    · subst hn
      exact ⟨rfl, rfl, rfl⟩
    · have hfound : windowAt (minuteOfDay now) ws = some w := by
        rcases hwhen with ⟨hs, hmax⟩ | ⟨hnone, hmax⟩
        · exact windowAt_started hw honly hs hmax
        · exact windowAt_before_all hw honly hnone hmax
      rw [show at' = _ from selectWindow_of_window hfound]
      exact ⟨rfl, rfl, rfl⟩

end Sys2Proof.Machine
end

section
/-! SUPPORT. The battery setpoint of a round: discharge, charge and their bounds (R94, R95), and the battery they are for (R96). -/

namespace Sys2Proof.Machine

section
variable {s : Settings} {st : Storage} {b : BatteryReading} {need forecast : Int}

theorem batterySetpoint_discharges (h : 0 < need) :
    batterySetpoint s st (some b) need forecast = min need (min st.bOff (max 0 forecast)) := if_pos h

theorem batterySetpoint_charges (h : need ≤ 0) :
    batterySetpoint s st (some b) need forecast = -charge s st.gridCharge b need forecast := if_neg h.not_gt

theorem charge_full (g : Bool) (h : b.full = true) : charge s g b need forecast = 0 := if_pos h

theorem charge_from_grid (h : b.full = false) :
    charge s true b need forecast = min (-need) (min (s.pChgSet : Int) (max 0 b.chargeLimit)) := by
  simp [charge, h]

theorem charge_from_canopy (h : b.full = false) : charge s false b need forecast
    = min (min (-need) (min (s.pChgSet : Int) (max 0 b.chargeLimit))) (max 0 (-forecast)) := by
  simp [charge, h]

/-- The charge of a need at or below 0 W lies between 0 W and the charging limits (R95). -/
theorem charge_bounds (g : Bool) (h : need ≤ 0) :
    0 ≤ charge s g b need forecast ∧ charge s g b need forecast ≤ min (s.pChgSet : Int) (max 0 b.chargeLimit) := by
  cases hf : b.full with
  | true => rw [charge_full g hf]; omega
  | false =>
    cases g with
    | true => rw [charge_from_grid hf]; omega
    | false => rw [charge_from_canopy hf]; omega

/-- The setpoint lies between the charging limits, taken as a charge, and the discharge offered (R94, R95). -/
theorem batterySetpoint_bounds (h : 0 ≤ st.bOff) : batterySetpoint s st (some b) need forecast ≤ st.bOff
    ∧ -(min (s.pChgSet : Int) (max 0 b.chargeLimit)) ≤ batterySetpoint s st (some b) need forecast := by
  rcases lt_or_ge 0 need with hneed | hneed
  · rw [batterySetpoint_discharges hneed]; omega
  · rw [batterySetpoint_charges hneed]
    obtain ⟨hlow, hhigh⟩ := charge_bounds (s := s) (b := b) (forecast := forecast) st.gridCharge hneed
    exact ⟨by omega, neg_le_neg hhigh⟩

end

/-- Without what R94 to R96 ask of the battery's node and reading, no battery is driven. -/
theorem drivenBattery_none {c : Controller} (h : ∀ b a, c.singleton .BATTERY = some a → (c.node a).state = .PRESENT →
    c.lines.stopAll.qualified = false → c.freshBattery = some b → b.faultCode ≠ 0) : c.drivenBattery = none := by
  rw [Option.eq_none_iff_forall_ne_some]
  intro b hb
  obtain ⟨a, ha, hstate, hstop, hfresh, hfault⟩ := (drivenBattery_eq_some_iff c b).mp hb
  exact h b a ha hstate hstop hfresh hfault

end Sys2Proof.Machine
end

section
/-! SUPPORT. A discharge offered that is not negative, and what keeps it so (R92): the work of the outlet supervisor and of the credit table
leaves the storage state, and an entry of the link to IDLE or DOWN and a reset take the offer to 0 W (R101, R103). -/

namespace Sys2Proof.Machine

/-- The discharge offered is not negative. -/
def Controller.offerSound (c : Controller) : Prop := 0 ≤ c.storage.bOff

/-- A change of the controller after which the discharge offered is not negative, where it was not before. -/
def OfferKept (f : Controller → Controller) : Prop := ∀ c, c.offerSound → (f c).offerSound

theorem offerSound_of_storage {c d : Controller} (hs : d.storage = c.storage) (h : c.offerSound) : d.offerSound := by
  unfold Controller.offerSound
  rw [hs]
  exact h

theorem offerSound_of_work {c d : Controller} (hw : c.OutletWork d) (h : c.offerSound) : d.offerSound := by
  obtain ⟨hstorage, -, -, -⟩ := hw.quiet
  exact offerSound_of_storage hstorage h

/-! A frame sent, a window changed, an answer and a notice leave the storage state. -/

theorem offerSound_send {c : Controller} (f : Sent) (h : c.offerSound) : (c.send f).offerSound := h

theorem offerSound_updWindow {c : Controller} (f : WindowRecord → WindowRecord) (h : c.offerSound) : (c.updWindow f).offerSound := h

theorem offerSound_ok {c : Controller} (n : Nat) (y : Body) (h : c.offerSound) : (c.ok n y).offerSound := h

theorem offerSound_answerLate {c : Controller} (n : Nat) (x : Status) (y : Body) (h : c.offerSound) : (c.answerLate n x y).offerSound := h

theorem offerSound_raise {c : Controller} (x : Cause) (h : c.offerSound) : (c.raise x).offerSound := h

theorem offerKept_forBays {f : Bay → Controller → Controller} (hf : ∀ b, OfferKept (f b)) : OfferKept (forBays f) :=
  fun _ h => forBays_keeps Controller.offerSound hf h

theorem offerKept_foldl {α : Type} {f : Controller → α → Controller} (hf : ∀ x, OfferKept fun c => f c x) (l : List α) :
    OfferKept fun c => l.foldl f c := by
  induction l with
  | nil => exact fun _ h => h
  | cons x l ih => exact fun c h => ih (f c x) (hf x c h)

/-! ### Outlets, the credit table and draws -/

theorem offerKept_judgeRelease : OfferKept Controller.judgeRelease := fun c => offerSound_of_work (judgeRelease_work c)

theorem offerKept_endSession (b : Bay) (r : EndReason) (st : OutletState) : OfferKept fun c => c.endSession b r st :=
  fun c => offerSound_of_work (endSession_work c b r st)

theorem offerKept_enter (b : Bay) (st : OutletState) : OfferKept fun c => c.enter b st := fun c => offerSound_of_work (enter_work c b st)

theorem offerKept_fault (b : Bay) (x : FaultCause) : OfferKept fun c => c.fault b x := fun c => offerSound_of_work (fault_work c b x)

theorem offerKept_linkLoss : OfferKept Controller.linkLoss := fun c => offerSound_of_work (linkLoss_work c)

theorem offerKept_openSession (b : Bay) (k : FundingKind) (slot : Option SlotNo) (cap : Nat) : OfferKept fun c => c.openSession b k slot cap :=
  fun c => offerSound_of_storage (by simp)

theorem offerKept_nodeFallsSilent (a : Addr) : OfferKept (Controller.nodeFallsSilent a) := by
  refine fun c h => offerKept_judgeRelease _ (offerKept_forBays (fun b d hd => ?_) c h)
  split
  · unfold Controller.bayFallsSilent
    dsimp only
    split
    · exact hd
    · split
      · exact offerSound_of_storage (by simp) hd
      · exact hd
  · exact hd

theorem offerKept_handWithdrawal (b : Bay) (k : SlotNo) : OfferKept (Controller.handWithdrawal b k) := by
  refine fun c => offerSound_of_storage ?_
  unfold Controller.handWithdrawal
  repeat' split
  all_goals simp

theorem offerKept_takeDraw (d : Draw) : OfferKept (Controller.takeDraw d) := by
  refine fun c => offerSound_of_storage ?_
  unfold Controller.takeDraw
  dsimp only
  repeat' split
  all_goals simp

theorem offerKept_takeOldestDraw : OfferKept Controller.takeOldestDraw := by
  intro c h
  unfold Controller.takeOldestDraw
  split
  · exact h
  · exact offerKept_takeDraw _ _ h

theorem offerKept_takeAllDraws : OfferKept Controller.takeAllDraws := fun c h =>
  offerKept_foldl (f := fun c d => c.takeDraw d) offerKept_takeDraw c.pool.draws { c with pool := { c.pool with draws := [] } } h

/-! ### Reports (R19, R38) -/

theorem offerKept_presentCode (b : Bay) (code : Nat) : OfferKept fun c => (c.presentCode b code).2.2.2 := by
  intro c h
  dsimp only
  unfold Controller.presentCode
  split
  · exact h
  · dsimp only
    split
    any_goals exact h
    repeat' split
    · exact h
    · exact h
    · exact h
    · exact offerKept_openSession b _ _ _ _ h

theorem offerKept_presentAt (b : Bay) (code : Nat) : OfferKept fun c => (c.presentAt b code).2.2.2 := by
  intro c h
  dsimp only
  unfold Controller.presentAt
  repeat' split
  any_goals exact h
  exact offerKept_presentCode b code _ (offerKept_takeAllDraws c h)

theorem offerKept_paidAuthAt (b : Bay) (cap : Nat) : OfferKept fun c => (c.paidAuthAt b cap).2 := by
  refine fun c => offerSound_of_storage ?_
  unfold Controller.paidAuthAt Controller.switchToPaid
  dsimp only
  repeat' split
  all_goals simp

theorem offerKept_customerStopAt (b : Bay) : OfferKept fun c => (c.customerStopAt b).2 := by
  refine fun c => offerSound_of_storage ?_
  unfold Controller.customerStopAt
  dsimp only
  repeat' split
  all_goals simp

/-! ### Nodes: entries, STATUS, silence and echoes (R99 to R101, R121, R129, R137) -/

theorem offerKept_forgetAcked (k : Option NodeKind) : OfferKept (Controller.forgetAcked k) := by
  intro c h
  unfold Controller.forgetAcked
  split <;> exact h

theorem offerKept_mapCheck (b : Bay) : OfferKept (Controller.mapCheck b) := by
  intro c h
  unfold Controller.mapCheck
  dsimp only
  split <;> exact h

theorem offerKept_enterNode (a : Addr) (id : Identity) : OfferKept (Controller.enterNode a id) := by
  intro c h
  unfold Controller.enterNode
  dsimp only
  refine offerKept_forBays (fun b d hd => ?_) _ ?_
  · split
    · exact offerKept_mapCheck b d hd
    · exact hd
  · split
    · exact h
    · exact offerKept_forgetAcked _ _ h

theorem offerKept_attached (a : Addr) : OfferKept (Controller.attached a) := by
  intro c h
  unfold Controller.attached
  repeat' split
  all_goals exact h

theorem offerKept_takeStatus (a : Addr) (body : StatusBody) : OfferKept (Controller.takeStatus a body) := by
  intro c h
  unfold Controller.takeStatus
  dsimp only
  generalize hd : (if ((c.node a).state == .SILENT) = true then _ else _ : Controller) = d
  have hsound : d.offerSound := by
    rw [← hd]
    split
    · exact offerKept_forgetAcked _ _ h
    · exact h
  cases body with
  | pedestal es => exact offerSound_of_work (pedestalStatus_work a es _ d) hsound
  | canopy w cap => exact hsound
  | battery r => exact hsound
  | supplyMeter w v => exact offerSound_of_work (supplyStep_work v d) hsound

theorem offerKept_miss (a : Addr) : OfferKept (Controller.miss a) := by
  intro c h
  unfold Controller.miss
  dsimp only
  repeat' split
  · exact offerKept_nodeFallsSilent a _ h
  · exact h
  · exact h

theorem offerKept_outletEcho (b : Bay) (sent echo : Int) : OfferKept (Controller.outletEcho b sent echo) := by
  intro c
  obtain ⟨-, -, -, hstorage, -, -, -⟩ := outletEcho_leaves c b sent echo
  exact offerSound_of_storage hstorage

theorem offerSound_takeAck {a : Addr} {body : AckBody} {c d : Controller} (hd : c.takeAck a body = some d) (h : c.offerSound) :
    d.offerSound := by
  unfold Controller.takeAck Controller.outletAck Controller.batteryAck Controller.canopyAck at hd
  split at hd
  · split at hd
    · obtain ⟨sent, -, rfl⟩ := Option.map_eq_some_iff.mp hd
      dsimp only
      split
      · exact offerKept_outletEcho _ _ _ _ h
      · exact h
    · cases hd
  · split at hd
    · obtain ⟨sent, -, rfl⟩ := Option.map_eq_some_iff.mp hd
      dsimp only
      split <;> exact h
    · cases hd
  · split at hd
    · obtain ⟨sent, -, rfl⟩ := Option.map_eq_some_iff.mp hd
      dsimp only
      split <;> exact h
    · cases hd
  · cases hd

/-! ### Commits, STOP and resets (R103, R173, R197, R201) -/

theorem offerKept_remapBay (before : Settings) (b : Bay) : OfferKept (Controller.remapBay before b) := by
  intro c h
  have hforget : ∀ m, OfferKept (Controller.forgetEntry m) := fun m d hd => by
    unfold Controller.forgetEntry
    split <;> exact hd
  have hremapped := hforget (c.bay b).map _ (hforget (before.bays.get b).map c h)
  unfold Controller.remapBay
  dsimp only
  repeat' split
  · exact h
  · exact offerKept_mapCheck b _ hremapped
  · exact hremapped

theorem offerKept_completeCommit (w : Working) : OfferKept (Controller.completeCommit w) := fun _ h =>
  offerKept_judgeRelease _ (offerKept_forBays (offerKept_remapBay _) _ h)

theorem offerKept_haltSite : OfferKept Controller.haltSite := by
  intro c h
  have hended := offerKept_forBays (f := Controller.endForStop .COMMAND) (fun b d => offerKept_endSession b _ _ d)
    (c.updRun fun r => { r with running := false }) h
  unfold Controller.haltSite
  generalize forBays (Controller.endForStop .COMMAND) (c.updRun fun r => { r with running := false }) = d at hended ⊢
  exact hended

theorem offerKept_placementCheck : OfferKept Controller.placementCheck := by
  refine fun c h => offerKept_foldl (fun n d hd => ?_) _ c h
  dsimp only
  split
  · unfold Controller.relocate
    dsimp only
    split <;> exact hd
  · exact hd

/-- A reset takes the offer to 0 W, whatever it was (R103). -/
theorem offerSound_resetValues (keep : Outlet → Option Summary × Nat) (latch : Bool) (x : ResetCause) (c : Controller) :
    (c.resetValues keep latch x).offerSound := le_refl 0

theorem offerKept_warmReset (x : ResetCause) : OfferKept (Controller.warmReset x) := fun _ _ =>
  offerKept_placementCheck _ (offerSound_resetValues _ _ _ _)

theorem offerKept_powerOnReset : OfferKept Controller.powerOnReset := by
  intro c _
  unfold Controller.powerOnReset
  dsimp only
  split
  · exact offerSound_raise _ (offerKept_placementCheck _ (le_refl 0))
  · exact offerKept_placementCheck _ (le_refl 0)

end Sys2Proof.Machine
end

section
/-! SUPPORT. The operations of the link keep the discharge offered from being negative (R92, R101). -/

namespace Sys2Proof.Machine

/-! ### Entries to the link states (R101, R124, R140) -/

/-- At IDLE the offer is 0 W, whatever it was (R101). -/
theorem offerKept_enterIdle : OfferKept Controller.enterIdle := fun _ _ => le_refl 0

/-- At DOWN the offer is 0 W, whatever it was (R101). -/
theorem offerKept_enterDown : OfferKept Controller.enterDown := fun _ _ => le_refl 0

theorem offerKept_enterDiscovering : OfferKept Controller.enterDiscovering := by
  intro c h
  unfold Controller.enterDiscovering
  dsimp only
  split
  · exact offerSound_send _ (offerKept_linkLoss _ h)
  · exact h

/-! ### The cycle and the visits (R128 to R136) -/

theorem offerKept_probeStep : OfferKept Controller.probeStep := by
  intro c h
  unfold Controller.probeStep
  split <;> exact h

theorem offerKept_visitFrom (start : Nat) : OfferKept (Controller.visitFrom start) := by
  intro c h
  unfold Controller.visitFrom Controller.afterVisits Controller.collapseStep
  dsimp only
  repeat' split
  · exact h
  · exact offerKept_enterIdle c h
  · exact offerKept_enterDown _ h
  · exact offerKept_probeStep _ h

theorem offerKept_beginCycle : OfferKept Controller.beginCycle := offerKept_visitFrom 0

theorem offerKept_endCycle : OfferKept Controller.endCycle := fun _ h => offerKept_beginCycle _ h

theorem offerKept_noticeStep (a : Addr) : OfferKept (Controller.noticeStep a) := by
  intro c h
  unfold Controller.noticeStep
  split
  · exact h
  · exact offerKept_visitFrom _ c h

theorem offerKept_singleStep (a : Addr) : OfferKept (Controller.singleStep a) := by
  intro c h
  have hnotice := offerKept_noticeStep a c h
  unfold Controller.singleStep
  repeat' split
  · exact h
  · exact hnotice
  · exact h
  · exact hnotice
  · exact hnotice

theorem offerKept_raiseStep (a : Addr) (l : List OutIx) : OfferKept fun c => c.raiseStep a l := by
  intro c h
  dsimp only
  rw [raiseStep_eq]
  split
  · exact offerKept_singleStep a c h
  · exact h

theorem offerKept_decreaseStep (a : Addr) (l : List OutIx) : OfferKept fun c => c.decreaseStep a l := by
  intro c h
  dsimp only
  rw [decreaseStep_eq]
  split
  · exact offerKept_raiseStep a _ c h
  · exact h

theorem offerKept_visitNext (a : Addr) : OfferKept (Controller.visitNext a) := by
  intro c h
  unfold Controller.visitNext
  split
  · exact offerKept_decreaseStep a _ c h
  · exact offerKept_decreaseStep a _ c h
  · exact offerKept_raiseStep a _ c h
  · exact offerKept_noticeStep a c h

theorem offerKept_follow (f : Sent) : OfferKept f.follow := by
  intro c h
  unfold Sent.follow
  split
  · exact offerKept_visitNext _ c h
  · unfold Controller.afterWindow
    split
    · exact offerKept_endCycle c h
    · exact h

/-! ### Windows of a pass-through and the end of an exchange (R118, R142, R147, R153) -/

theorem offerKept_freezeAll (frozen : Bool) : OfferKept (forBays fun b c => c.updOutlet b (Outlet.freezeWindow frozen)) :=
  offerKept_forBays fun _ _ h => h

theorem offerKept_grant : OfferKept Controller.grant := fun _ h => offerSound_answerLate _ _ _ (offerKept_freezeAll true _ h)

theorem offerKept_closeWindow : OfferKept Controller.closeWindow := fun _ h => offerKept_freezeAll false _ h

theorem offerKept_startFinalCycle : OfferKept Controller.startFinalCycle := fun _ h => offerKept_beginCycle _ h

theorem offerKept_exchangeDone {go : Controller → Controller} (hgo : OfferKept go) : OfferKept (Controller.exchangeDone go) := by
  intro c h
  unfold Controller.exchangeDone
  dsimp only
  repeat' split
  · exact offerKept_startFinalCycle _ h
  · exact offerKept_enterDiscovering _ h
  · exact offerKept_grant _ h
  · exact hgo _ h

theorem offerKept_rawDone (status : Status) (body : Body) : OfferKept (Controller.rawDone status body) := by
  intro c h
  unfold Controller.rawDone Controller.endAfterRaw
  split
  · exact h
  · exact offerKept_beginCycle _ (offerKept_closeWindow _ h)
  · exact offerKept_beginCycle _ (offerKept_closeWindow _ h)
  · exact offerKept_startFinalCycle _ (offerKept_closeWindow _ h)

theorem offerKept_stopLink : OfferKept Controller.stopLink := by
  intro c h
  unfold Controller.stopLink
  dsimp only
  split
  · split
    · exact offerKept_startFinalCycle _ h
    · exact h
  · split
    · exact offerKept_startFinalCycle _ (offerKept_closeWindow c h)
    · exact h
  all_goals exact offerKept_enterIdle c h

/-! ### Discovery and report windows (R125 to R127, R133 to R136) -/

theorem offerKept_endDiscovery : OfferKept Controller.endDiscovery := by
  intro c h
  unfold Controller.endDiscovery
  extract_lets c1 c2 _ c3
  have h1 : c1.offerSound := offerKept_forBays (fun b d hd => by dsimp only; split <;> exact hd) c h
  have h2 : c2.offerSound := by
    unfold c2
    clear_value c1
    exact h1
  have h3 : c3.offerSound := by
    unfold c3
    clear_value c2
    split <;> exact h2
  clear_value c3
  refine offerKept_beginCycle _ ?_
  split <;> exact h3

theorem offerKept_afterIdent (a : Addr) : OfferKept (Controller.afterIdent a) := by
  intro c h
  unfold Controller.afterIdent
  repeat' split
  · exact h
  · exact offerKept_endDiscovery c h
  · exact h

theorem offerKept_report {f : Bay → Controller → Answered} (hf : ∀ b, OfferKept fun c => (f b c).2.2.2) (a : Addr) (outlet : Nat) :
    OfferKept (Controller.report a outlet f) := by
  intro c h
  unfold Controller.report Controller.answerReport
  repeat' split
  · exact offerKept_exchangeDone offerKept_endCycle _ h
  · exact h
  · exact hf _ _ h
  · exact h

end Sys2Proof.Machine
end

section
/-! SUPPORT. Every step keeps the discharge offered from being negative (R92). -/

namespace Sys2Proof.Machine

/-- A command or event that keeps the discharge offered from being negative. -/
def RowKept (row : State → Host.Outcome State Fault Refusal) : Prop := ∀ s t, s.ctl.offerSound → row s = .next t → t.ctl.offerSound

section
variable {f : Controller → Controller} (hf : OfferKept f)
include hf

theorem rowKept_onController : RowKept (onController f) := by
  intro s t h ht
  cases ht
  exact hf s.ctl h

theorem rowKept_event : RowKept (event f) := by
  intro s t h ht
  cases hk : s.ctl.taking with
  | true => rw [event_taking f hk] at ht; cases ht; exact hf s.ctl h
  | false => rw [event_idle f hk] at ht; cases ht; exact h

theorem rowKept_command (code : Nat) : RowKept (command code f) := by
  intro s t h ht
  cases hk : s.ctl.taking with
  | true => rw [command_taking code f hk] at ht; cases ht; exact hf _ h
  | false => rw [command_idle code f hk] at ht; cases ht; exact h

/-- An event that is taken on a condition: while its timer runs, or while its reply is awaited. -/
theorem rowKept_eventIf (p : Controller → Prop) [DecidablePred p] : RowKept (event fun c => if p c then f c else c) := by
  refine rowKept_event fun c h => ?_
  split
  · exact hf c h
  · exact h

theorem offerKept_qualify (line : LineId) : OfferKept (Controller.qualify line f) := by
  intro c h
  unfold Controller.qualify
  split
  · exact hf _ h
  · exact h

end

/-! ### The commands of the outlets (R56 to R61, R160, R161) -/

theorem rowKept_outletCommand {cmd bay : Nat} {own : Bay → Controller → Except Status (Controller × Body)}
    (h : ∀ b (c d : Controller) y, own b c = .ok (d, y) → c.offerSound → d.offerSound) : RowKept (outletCommand cmd bay own) := by
  refine rowKept_command (fun c hc => ?_) cmd
  repeat' split
  · exact hc
  · exact hc
  · exact hc
  · next hown => exact offerSound_ok _ _ (h _ _ _ _ hown hc)

theorem rowKept_outletEnable (bay : Nat) : RowKept (execOutletEnable bay) := by
  refine rowKept_outletCommand fun b c d y hown h => ?_
  unfold Controller.enableOutlet at hown
  dsimp only at hown
  split at hown
  · cases hown
    exact offerKept_enter b _ c h
  · split at hown <;> cases hown
    exact h

theorem rowKept_outletDisable (bay : Nat) : RowKept (execOutletDisable bay) := by
  refine rowKept_outletCommand fun b c d y hown h => ?_
  unfold Controller.disableOutlet at hown
  split at hown <;> cases hown
  exact offerSound_of_storage (by simp) h

theorem rowKept_outletStop (bay : Nat) : RowKept (execOutletStop bay) := by
  refine rowKept_outletCommand fun b c d y hown h => ?_
  unfold Controller.stopOutlet at hown
  dsimp only at hown
  split at hown <;> cases hown
  exact offerKept_endSession b _ _ c h

theorem rowKept_outletClear (bay : Nat) : RowKept (execOutletClear bay) := by
  refine rowKept_outletCommand fun b c d y hown h => ?_
  unfold Controller.clearOutlet at hown
  dsimp only at hown
  split at hown
  · cases hown
    exact offerKept_enter b _ _ h
  · split at hown <;> cases hown
    exact h

theorem rowKept_outletServiceStart (bay cap : Nat) : RowKept (execOutletServiceStart bay cap) := by
  refine rowKept_outletCommand fun b c d y hown h => ?_
  unfold Controller.serviceStart at hown
  split at hown
  · cases hown
  · split at hown <;> cases hown
    exact offerKept_openSession b _ _ _ c h

theorem rowKept_pauseAll : RowKept execPauseAll :=
  rowKept_command (fun _ h => offerSound_ok _ _
    (offerKept_forBays (fun b d => offerSound_of_work (addReason_work d b .SITE)) (Controller.putSiteHold true _) h)) 0x32

theorem rowKept_resumeAll : RowKept execResumeAll :=
  rowKept_command (fun _ h => offerSound_ok _ _
    (offerKept_forBays (fun b d => offerSound_of_work (removeReason_work d b .SITE)) (Controller.putSiteHold false _) h)) 0x33

/-! ### The commands of the credit table and of the settings block (R11 to R18, R26, R169 to R178) -/

theorem rowKept_issue (code kind till tier credit validity single : Nat) : RowKept (execIssue code kind till tier credit validity single) := by
  refine rowKept_command (fun c h => ?_) 0x10
  unfold Controller.issue
  dsimp only
  repeat' split
  all_goals exact h

theorem rowKept_void (code : Nat) : RowKept (execVoid code) := by
  refine rowKept_command (fun c h => ?_) 0x12
  dsimp only
  repeat' split
  · exact h
  · exact h
  · exact offerKept_handWithdrawal _ _ _ h
  · exact h
  · exact h

theorem rowKept_expirySweep : RowKept execExpirySweep := by
  refine rowKept_event fun c h => ?_
  unfold Controller.sweep
  repeat' split
  all_goals exact h

/-! ### The commands and events of the link (R131, R141, R146 to R153) -/

theorem rowKept_linkRestart : RowKept execLinkRestart := by
  refine rowKept_command (fun c h => ?_) 0x41
  repeat' split
  · exact h
  · exact h
  · exact h
  · exact offerSound_ok _ _ (offerKept_enterDiscovering c h)
  · exact h
  · exact h
  · exact offerSound_ok _ _ (offerKept_enterDiscovering c h)
  · exact h

theorem rowKept_linkRequest : RowKept execLinkRequest := by
  refine rowKept_command (fun c h => ?_) 0x42
  repeat' split
  · exact h
  · exact h
  · exact h
  · exact h
  · exact h
  · exact h
  · exact offerKept_grant c h
  · exact h

theorem rowKept_linkRelease : RowKept execLinkRelease := by
  refine rowKept_command (fun c h => ?_) 0x44
  dsimp only
  repeat' split
  · exact h
  · exact h
  · exact offerSound_ok _ _ (offerKept_beginCycle _ (offerKept_closeWindow c h))
  · exact h

theorem rowKept_ptExpired : RowKept execPtExpired := by
  refine rowKept_event fun c h => ?_
  dsimp only
  repeat' split
  · exact h
  · exact offerKept_beginCycle _ (offerSound_updWindow _ (offerKept_closeWindow _ h))
  · exact h

theorem rowKept_frameSent : RowKept execFrameSent := by
  refine rowKept_event fun c h => ?_
  repeat' split
  · exact h
  · exact offerKept_exchangeDone (offerKept_follow _) c h
  · exact h
  · exact h
  · exact h
  · exact h

theorem rowKept_status (a : Addr) (body : StatusBody) : RowKept (execStatus a body) :=
  rowKept_eventIf (fun c h => offerKept_exchangeDone (offerKept_visitNext a) _ (offerKept_takeStatus a body c h)) _

theorem rowKept_statusTimeout : RowKept execStatusTimeout := by
  refine rowKept_event fun c h => ?_
  split
  · exact offerKept_exchangeDone (offerKept_visitFrom _) _ (offerKept_miss _ c h)
  · exact h

theorem rowKept_setAck (a : Addr) (body : AckBody) : RowKept (execSetAck a body) := by
  refine rowKept_event fun c h => ?_
  split
  · next hack => exact offerKept_exchangeDone (offerKept_visitNext a) _ (offerSound_takeAck hack h)
  · exact h

theorem rowKept_setAckTimeout : RowKept execSetAckTimeout := by
  refine rowKept_event fun c h => ?_
  repeat' split
  · exact offerKept_exchangeDone (offerKept_visitNext _) _ h
  · exact h
  · exact h

theorem rowKept_ident (a : Addr) (kind count : Nat) (rating : Int) (serial : Nat) : RowKept (execIdent a kind count rating serial) :=
  rowKept_eventIf (fun c h => offerKept_exchangeDone (offerKept_afterIdent a) _
    (offerKept_attached a _ (offerKept_enterNode a _ c h))) _

theorem rowKept_identTimeout : RowKept execIdentTimeout := by
  refine rowKept_event fun c h => ?_
  split
  · exact offerKept_exchangeDone (offerKept_afterIdent _) c h
  · exact h

/-! ### Run control, lines and power (R157, R196, R197, R201, R202) -/

theorem rowKept_start : RowKept execStart := by
  refine rowKept_command (fun c h => ?_) 0x60
  repeat' split
  · exact h
  · exact h
  · exact offerKept_enterDiscovering c h

theorem rowKept_stop : RowKept execStop := by
  refine rowKept_command (fun c h => ?_) 0x61
  repeat' split
  · exact offerKept_stopLink _ (offerKept_haltSite c h)
  · exact h
  · exact offerKept_enterIdle c h
  · exact h
  · exact h
  · exact h

theorem rowKept_stopAsserted : RowKept execStopAsserted :=
  rowKept_eventIf (offerKept_qualify (fun c h => offerSound_raise _ (offerKept_forBays (f := Controller.endForStop .STOP_INPUT)
    (fun b d => offerKept_endSession b _ _ d) c h)) _) _

theorem rowKept_stopReleased : RowKept execStopReleased := by
  refine rowKept_event fun c h => ?_
  split
  · exact h
  · exact offerKept_qualify (fun _ hd => offerSound_raise _ hd) _ c h

theorem rowKept_resetLine : RowKept execResetLine := by
  refine rowKept_onController fun c h => ?_
  dsimp only
  split
  · exact offerKept_warmReset _ _ h
  · exact h

theorem rowKept_powerOn : RowKept execPowerOn := by
  refine rowKept_onController fun c h => offerKept_powerOnReset _ ?_
  split <;> exact h

/-! ### The round (R66, R90 to R92) -/

theorem rowKept_allocationRound : RowKept (exec .allocationRound) := by
  intro s t h ht
  cases hk : s.ctl.taking with
  | false =>
    have hidle : exec .allocationRound s = .next s := event_idle _ hk
    cases hidle.symm.trans ht
    exact h
  | true =>
    cases hr : s.ctl.pool.roundTimer with
    | none =>
      cases (exec_allocationRound_absent hk hr).symm.trans ht
      exact h
    | some n =>
      obtain ⟨p, hp, -⟩ := bankStep_permissionStep s.ctl
      cases (exec_allocationRound hk (by rw [hr]; rfl) hp).symm.trans ht
      show 0 ≤ (s.ctl.recorded p).storage.bOff
      rw [recorded_bOff]
      exact evaluate_bOff_nonneg _ _ _

/-! ### Every step -/

/-- Every command and event keeps the discharge offered from being negative. -/
theorem rowKept_exec (i : Instr) : RowKept (exec i) := by
  show RowKept fun s => exec i s
  cases i with dsimp only [exec]
  | issue => exact rowKept_issue _ _ _ _ _ _ _
  | void => exact rowKept_void _
  | outletEnable bay => exact rowKept_outletEnable bay
  | outletDisable bay => exact rowKept_outletDisable bay
  | outletStop bay => exact rowKept_outletStop bay
  | outletClear bay => exact rowKept_outletClear bay
  | outletServiceStart bay cap => exact rowKept_outletServiceStart bay cap
  | pauseAll => exact rowKept_pauseAll
  | resumeAll => exact rowKept_resumeAll
  | linkRestart => exact rowKept_linkRestart
  | linkRequest => exact rowKept_linkRequest
  | linkRelease => exact rowKept_linkRelease
  | start => exact rowKept_start
  | stop => exact rowKept_stop
  | reset => exact rowKept_event (offerKept_warmReset _)
  | resetLine => exact rowKept_resetLine
  | powerOn => exact rowKept_powerOn
  | expirySweep => exact rowKept_expirySweep
  | stopAsserted => exact rowKept_stopAsserted
  | stopReleased => exact rowKept_stopReleased
  | gridLimitQualified line => exact rowKept_event (offerKept_qualify (fun _ hd => hd) _)
  | keylockQualified opened => exact rowKept_eventIf (offerKept_qualify (fun _ hd => offerSound_raise _ hd) _) _
  | allocationRound => exact rowKept_allocationRound
  | draw => exact rowKept_event offerKept_takeOldestDraw
  | overdrawTimerExpiry b => exact rowKept_eventIf (offerKept_fault b _) _
  | startTimerExpiry b => exact rowKept_eventIf (offerKept_fault b _) _
  | fundingWaitExpiry b => exact rowKept_eventIf (offerKept_endSession b _ _) _
  | holdOffExpiry b => exact rowKept_eventIf (fun c h => offerKept_enter b (c.plugState b) (c.updOutlet b _) h) _
  | pauseMinimumExpiry b => exact rowKept_eventIf (f := fun c => c.updOutlet b _) (fun _ h => h) _
  | silenceHoldExpiry b =>
    exact rowKept_eventIf (f := fun c => (c.endSession b _ _).updOutlet b _) (fun c h => offerKept_endSession b _ _ c h) _
  | frameSent => exact rowKept_frameSent
  | status a body => exact rowKept_status a body
  | statusTimeout => exact rowKept_statusTimeout
  | setAck a body => exact rowKept_setAck a body
  | setAckTimeout => exact rowKept_setAckTimeout
  | ident => exact rowKept_ident _ _ _ _ _
  | identTimeout => exact rowKept_identTimeout
  | present a outlet code => exact rowKept_event (offerKept_report (fun b => offerKept_presentAt b code) a outlet)
  | paidAuth a outlet cap => exact rowKept_event (offerKept_report (fun b => offerKept_paidAuthAt b cap) a outlet)
  | customerStop a outlet => exact rowKept_event (offerKept_report offerKept_customerStopAt a outlet)
  | windowTimeout => exact rowKept_eventIf (offerKept_exchangeDone offerKept_endCycle) _
  | rawReply => exact rowKept_eventIf (offerKept_rawDone _ _) _
  | rawReplyTimeout => exact rowKept_eventIf (offerKept_rawDone _ _) _
  | ptExpired => exact rowKept_ptExpired
  | commitComplete =>
    refine rowKept_event fun c h => ?_
    split
    · exact offerKept_completeCommit _ c h
    · exact h
  | siteSecondTick =>
    refine rowKept_onController fun c h => ?_
    split <;> exact h
  | unknownCommand bytes =>
    refine rowKept_event fun c h => ?_
    unfold Controller.badTransfer
    repeat' split
    all_goals exact h
  | discardedFrame => exact rowKept_event fun _ h => h
  | mainSupplyFall | lineChange | backupCellLoss | resetLineAsserted => exact rowKept_onController fun _ h => h
  | poolRead | batteryRead | readTime | identify | noticeRead | noticeClear | noticeEnable | faultsRead | faultsClear =>
    refine rowKept_command (fun c h => ?_) _
    exact h
  | amend | retire =>
    refine rowKept_command (fun c h => ?_) _
    dsimp only
    repeat' split
    all_goals exact h
  | lookup | readSlot | findNext | outletRead | nodeRead | linkFrame | setupBegin | settingWrite | settingRead | setupEnd | setupAbandon
  | lockSet | fuse | setTime =>
    refine rowKept_command (fun c h => ?_) _
    repeat' split
    all_goals exact h

/-- A millisecond leaves the storage state alone. -/
theorem elapse_storage (c : Controller) : c.elapse.storage = c.storage := by
  unfold Controller.elapse
  repeat' split
  all_goals rfl

/-- Every step keeps the discharge offered from being negative. -/
theorem offerSound_invariant : Invariant fun s => s.ctl.offerSound := by
  intro s t h ht
  unfold step at ht
  split at ht
  · cases ht
    exact offerSound_of_storage (elapse_storage s.ctl) h
  · next i rest _ => exact rowKept_exec i { s with pending := rest } t h ht

/-- Settles O37. -/
theorem setpointStaysWithinBounds : Obligations.SetpointStaysWithinBounds := by
  refine ⟨offerSound_invariant, fun s st b need forecast hoff => ?setpoint, fun _ _ _ _ => rfl, fun c => ?driven⟩
  case setpoint =>
    obtain ⟨hdischarge, hcharge⟩ := batterySetpoint_bounds (s := s) (b := b) (need := need) (forecast := forecast) hoff
    refine ⟨hdischarge, hcharge, batterySetpoint_discharges, fun hneed hfull => ?_, fun hneed hfull => ⟨fun hgrid => ?_, fun hgrid => ?_⟩⟩
    · rw [batterySetpoint_charges hneed, charge_full _ hfull, neg_zero]
    · rw [batterySetpoint_charges hneed, hgrid, charge_from_grid hfull]
    · rw [batterySetpoint_charges hneed, hgrid, charge_from_canopy hfull]
  case driven =>
    refine ⟨fun hstop => ?_, fun a ha hstate => ?_, fun hstale => ?_, fun b hfresh hfault => ?_, fun b => ?_⟩
    · exact drivenBattery_none fun b a _ _ hfree _ => absurd (hstop.symm.trans hfree) (by decide)
    · exact drivenBattery_none fun b x hx hpresent _ _ => absurd (Option.some.inj (ha.symm.trans hx) ▸ hpresent) hstate
    · exact drivenBattery_none fun b a _ _ _ hb => absurd (hstale.symm.trans hb) (by simp)
    · exact drivenBattery_none fun x a _ _ _ hx => Option.some.inj (hfresh.symm.trans hx) ▸ hfault
    · rw [drivenBattery_eq_some_iff]
      refine exists_congr fun a => and_congr_right fun ha => and_congr_right fun _ => and_congr_right fun _ => ?_
      rw [freshBattery_eq_some_iff ha, and_comm]

end Sys2Proof.Machine
end

section
/-! SUPPORT. The split of an increment by a round's totals and the draw it comes to (R106, R109). -/

namespace Sys2Proof.Machine

/-! ### The split (R106) -/

section Split

variable {e : Nat} {part m : Int}

theorem share_total_zero (e : Nat) (part : Int) : share e part 0 = 0 := if_pos rfl

theorem share_of_total_pos (hm : 0 < m) : share e part m = ((e : Int) * part / m).toNat := by
  unfold share
  rw [if_neg hm.ne', Int.fdiv_eq_ediv_of_nonneg _ hm.le]

/-- A share is rounded down: at the total it comes to no more than the increment's part. -/
theorem share_mul_total_le (hpart : 0 ≤ part) (hm : 0 < m) : (share e part m : Int) * m ≤ e * part := by
  have hquot : 0 ≤ (e : Int) * part / m := Int.ediv_nonneg (mul_nonneg e.cast_nonneg hpart) hm.le
  rw [share_of_total_pos hm, Int.toNat_of_nonneg hquot]
  exact Int.ediv_mul_le _ hm.ne'

/-- Parts that come to no more than the total share out no more than the increment. -/
theorem share_add_share_le {pv bat : Int} (hpv : 0 ≤ pv) (hbat : 0 ≤ bat) (hsum : pv + bat ≤ m) :
    share e pv m + share e bat m ≤ e := by
  rcases (show 0 ≤ m by omega).eq_or_lt with rfl | hm
  · rw [share_total_zero, share_total_zero]
    exact e.zero_le
  · have hmul : ((share e pv m + share e bat m : Nat) : Int) * m ≤ e * m := calc
      _ = (share e pv m : Int) * m + share e bat m * m := by push_cast; ring
      _ ≤ e * pv + e * bat := add_le_add (share_mul_total_le hpv hm) (share_mul_total_le hbat hm)
      _ = e * (pv + bat) := (mul_add _ _ _).symm
      _ ≤ e * m := mul_le_mul_of_nonneg_left hsum e.cast_nonneg
    exact Int.ofNat_le.mp (le_of_mul_le_mul_right hmul hm)

end Split

/-! ### The draw (R109) -/

section Draw

variable (t : Tariff) (p b g : Nat)

theorem drawOf_eq : drawOf t p b g = (16 * g + t.wBat * b + t.wPv * p + 15) / 16 := rfl

/-- Energy from the grid is drawn whole, whatever the weights of the sun and the battery. -/
theorem grid_le_drawOf : g ≤ drawOf t p b g := by
  rw [drawOf_eq]
  omega

/-- Where no weight exceeds the grid weight, the draw is no more than the increment. -/
theorem drawOf_le_increment (hpv : t.wPv ≤ 16) (hbat : t.wBat ≤ 16) : drawOf t p b g ≤ p + b + g := by
  have hsolar : t.wPv * p ≤ 16 * p := Nat.mul_le_mul_right p hpv
  have hbattery : t.wBat * b ≤ 16 * b := Nat.mul_le_mul_right b hbat
  rw [drawOf_eq]
  omega

end Draw

/-- Settles O38. -/
theorem incrementSplitAndDraw : Obligations.IncrementSplitAndDraw := by
  refine ⟨fun e pv bat m hpv hbat hsum => ⟨share_add_share_le hpv hbat hsum, fun hm => ?positive, fun hm => ?zero⟩,
    fun t p b g => ⟨drawOf_eq t p b g, fun hpv hbat => ⟨grid_le_drawOf t p b g, drawOf_le_increment t p b g hpv hbat⟩⟩⟩
  case positive => exact ⟨share_of_total_pos hm, share_of_total_pos hm⟩
  case zero =>
    subst hm
    exact ⟨share_total_zero e pv, share_total_zero e bat⟩

end Sys2Proof.Machine
end

section
/-! SUPPORT. OUTLET_SERVICE_START (R61), and the answers to PAID_AUTH and CUSTOMER_STOP with what they do (R38, R46). -/

namespace Sys2Proof.Machine

/-! ### OUTLET_SERVICE_START (R61) -/

theorem exec_serviceStart (s : State) (b : Bay) {cap : Nat} (hcap : cap ≤ 4294967295) :
    exec (.outletServiceStart (b.val + 1) cap) s = outletCommand 0x25 (b.val + 1) (Controller.serviceStart cap) s := by
  show execOutletServiceStart (b.val + 1) cap s = _
  rw [execOutletServiceStart, if_pos hcap]

section
variable {c : Controller} {b : Bay} {cap : Nat}

theorem serviceStart_of_busy (hb : c.siteBusy = true) : c.serviceStart cap b = .error .SITE_BUSY := if_pos hb

theorem serviceStart_of_not_plugged (hb : ¬ c.siteBusy = true) (h : (c.outlet b).state ≠ .PLUGGED) :
    c.serviceStart cap b = .error .WRONG_STATE := (if_neg hb).trans (if_pos h)

theorem serviceStart_of_plugged (hb : ¬ c.siteBusy = true) (h : (c.outlet b).state = .PLUGGED) : c.serviceStart cap b =
    .ok (c.openSession b .SERVICE none cap, .outletState ((c.openSession b .SERVICE none cap).outlet b).state) :=
  (if_neg hb).trans (if_neg (not_not.mpr h))

end

/-- Settles O26: the command is refused by the site, refused by the outlet's state, or opens the session. -/
theorem serviceStartOpensSession : Obligations.ServiceStartOpensSession := by
  intro s b cap h hc hcap busy i
  have hbusy : (s.ctl.taken 0x25).siteBusy = true ↔ busy := siteBusy_iff
  have hexec : exec i s = _ := exec_serviceStart s b hcap
  refine ⟨fun hb => ?_, fun hb hp => ?_, fun hb hp => ?_⟩
  · exact hexec.trans (outletCommand_error h 0x25 _ hc (serviceStart_of_busy (hbusy.mpr hb)))
  · exact hexec.trans (outletCommand_error h 0x25 _ hc (serviceStart_of_not_plugged (hb ∘ hbusy.mp) hp))
  · have hstart := outletCommand_ok h 0x25 _ hc (serviceStart_of_plugged (cap := cap) (hb ∘ hbusy.mp) hp)
    have hopened := openSession_openedAt (s.ctl.taken 0x25) b .SERVICE none cap
    have hbut := (openSession_outlets (s.ctl.taken 0x25) b .SERVICE none cap).1
    obtain ⟨hcr, hst, hse, -, hli, hru⟩ := openSession_leaves (s.ctl.taken 0x25) b .SERVICE none cap
    generalize (s.ctl.taken 0x25).openSession b .SERVICE none cap = d at hstart hopened hbut hcr hst hse hli hru
    exact ⟨_, hexec.trans hstart, rfl, hopened, hcr, hbut, hst, hse, hli, hru⟩

/-! ### PAID_AUTH and CUSTOMER_STOP under the mark of a counted REPORT -/

theorem switchToPaid_mark (m : Link → Link) (c : Controller) (b : Bay) (cap : Nat) :
    (c.mark m id).switchToPaid b cap = (c.switchToPaid b cap).mark m id := by
  unfold Controller.switchToPaid
  dsimp only
  rw [mark_outlet]
  cases (c.outlet b).session.bind (·.boundSlot) <;> simp only [unbind_mark, updOutlet_mark, removeReason_mark]

section
variable {m : Link → Link} (hm : Link.Overlooked m) (c : Controller) (b : Bay)
include hm

theorem paidAuthAt_mark (cap : Nat) : bareAnswer ((c.mark m id).paidAuthAt b cap) =
    Controller.markAnswer m id (bareAnswer (c.paidAuthAt b cap)) := by
  have hbusy : (c.mark m id).siteBusy = c.siteBusy := rfl
  unfold Controller.paidAuthAt
  dsimp only
  rw [mark_outlet, hbusy, switchToPaid_mark, openSession_mark hm, mark_run]
  split_ifs <;> rfl

theorem customerStopAt_mark : bareAnswer ((c.mark m id).customerStopAt b) =
    Controller.markAnswer m id (bareAnswer (c.customerStopAt b)) := by
  unfold Controller.customerStopAt
  dsimp only
  rw [mark_outlet, endSession_mark hm]
  split_ifs <;> rfl

end

section
variable (c : Controller) (b : Bay)

theorem switchToPaid_nodesAlone (cap : Nat) : c.nodesAlone (c.switchToPaid b cap) := by
  unfold Controller.switchToPaid
  dsimp only
  have hremove : ∀ d : Controller, (d.removeReason b .FUNDING).link = d.link := fun d => by
    obtain ⟨-, -, hlink, -⟩ := removeReason_leaves d b .FUNDING
    exact hlink
  refine nodesAlone_of_link ((hremove _).trans ?_)
  cases (c.outlet b).session.bind (·.boundSlot) with
  | none => rfl
  | some k =>
    obtain ⟨-, -, hlink, -⟩ := unbind_leaves c k false .receiptUnbind
    exact hlink

theorem paidAuthAt_nodesAlone (cap : Nat) : c.nodesAlone (c.paidAuthAt b cap).2 := by
  unfold Controller.paidAuthAt
  dsimp only
  split
  · rfl
  · split
    · rfl
    · split
      · exact switchToPaid_nodesAlone c b cap
      · split
        · split
          · exact openSession_nodesAlone c b _ _ _
          · rfl
        · split <;> rfl

theorem customerStopAt_nodesAlone : c.nodesAlone (c.customerStopAt b).2 := by
  unfold Controller.customerStopAt
  dsimp only
  split
  · rfl
  · split
    · exact endSession_nodesAlone c b _ _
    · rfl

end

end Sys2Proof.Machine
end

section
/-! SUPPORT. PAID_AUTH and CUSTOMER_STOP line by line (R38), the switch to PAID during a funding wait (R46, R44), and a REPORT that no bay can be
found for (R135). -/

namespace Sys2Proof.Machine

/-! ### The lines of PAID_AUTH and CUSTOMER_STOP (R38) -/

section
variable {c : Controller} {b : Bay} (cap : Nat)

theorem paidAuthAt_of_meter_only (h : (c.outlet b).state = .METER_ONLY) : c.paidAuthAt b cap = (.NOT_MANAGED, c) := if_pos h

theorem paidAuthAt_of_busy (h : (c.outlet b).state ≠ .METER_ONLY) (hb : c.siteBusy = true) : c.paidAuthAt b cap = (.SITE_BUSY, c) :=
  (if_neg h).trans (if_pos hb)

/-- The outlet waits for funding (R46). -/
def Outlet.waitsForFunding (o : Outlet) : Prop := o.state = .PAUSED ∧ o.reasons.funding = true ∧ o.fundingWait.isSome = true

section
variable (hb : ¬ c.siteBusy = true)
include hb

theorem paidAuthAt_of_wait (h : (c.outlet b).waitsForFunding) : c.paidAuthAt b cap = (.ACCEPTED, c.switchToPaid b cap) := by
  obtain ⟨hst, -⟩ := id h
  unfold Controller.paidAuthAt
  dsimp only
  rw [if_neg (by rw [hst]; decide), if_neg hb]
  exact if_pos h

theorem paidAuthAt_of_plugged (h : (c.outlet b).state = .PLUGGED) : c.paidAuthAt b cap =
    if c.run.running then (.ACCEPTED, c.openSession b .PAID none cap) else (.SITE_BUSY, c) := by
  unfold Controller.paidAuthAt
  dsimp only
  rw [h]
  exact if_neg hb

theorem paidAuthAt_of_funded (hw : ¬ (c.outlet b).waitsForFunding) (h : (c.outlet b).state = .QUEUED ∨ (c.outlet b).state = .STARTING
    ∨ (c.outlet b).state = .CHARGING ∨ (c.outlet b).state = .PAUSED) : c.paidAuthAt b cap = (.ALREADY_FUNDED, c) := by
  unfold Controller.paidAuthAt
  dsimp only
  unfold Outlet.waitsForFunding at hw
  rw [if_neg (by rcases h with h | h | h | h <;> rw [h] <;> decide), if_neg hb, if_neg hw]
  rcases h with h | h | h | h <;> rw [h] <;> rfl

theorem paidAuthAt_of_not_ready (h : (c.outlet b).state = .UNMAPPED ∨ (c.outlet b).state = .OFFLINE ∨ (c.outlet b).state = .DISABLED
    ∨ (c.outlet b).state = .IDLE ∨ (c.outlet b).state = .ENDING ∨ (c.outlet b).state = .FAULT ∨ (c.outlet b).state = .HOLDOFF
    ∨ (c.outlet b).state = .LOCKED) : c.paidAuthAt b cap = (.NOT_READY, c) := by
  unfold Controller.paidAuthAt
  dsimp only
  rcases h with h | h | h | h | h | h | h | h <;> rw [h] <;> exact if_neg hb

end

theorem customerStopAt_of_unmanaged (h : (c.outlet b).state = .METER_ONLY ∨ (c.outlet b).state = .UNMAPPED) :
    c.customerStopAt b = (.NOT_MANAGED, c) := if_pos h

theorem customerStopAt_of_session (h : (c.outlet b).state.inSession = true) (hs : (c.outlet b).session.isSome = true) :
    c.customerStopAt b = (.ACCEPTED, c.endSession b .CUSTOMER_STOP .ENDING) := by
  unfold Controller.customerStopAt
  dsimp only
  rw [h, hs]
  refine if_neg ?_
  rintro (e | e) <;> exact absurd (h.symm.trans (congrArg OutletState.inSession e)) (by decide)

theorem customerStopAt_of_not_ready (h : (c.outlet b).state.inSession = false) (hm : (c.outlet b).state ≠ .METER_ONLY)
    (hu : (c.outlet b).state ≠ .UNMAPPED) : c.customerStopAt b = (.NOT_READY, c) := by
  unfold Controller.customerStopAt
  dsimp only
  rw [if_neg (not_or.mpr ⟨hm, hu⟩), h]
  rfl

end

section
variable {s : State} {a : Addr} {ix : OutIx} {b : Bay} (h : s.ctl.taking = true) (hd : s.ctl.reportDue a ix b)
include h hd

theorem exec_paidAuth_due (cap : Nat) : exec (.paidAuth a (ix.val + 1) cap) s =
    .next (s.put (Controller.sendAnswer a (ix.val + 1) (bareAnswer (s.ctl.paidAuthAt b cap)))) := by
  show execPaidAuth a (ix.val + 1) cap s = _
  rw [execPaidAuth, event_taking _ h, report_of_due hd _ (paidAuthAt_mark (overlooked_countReport a) s.ctl b cap)]

theorem exec_customerStop_due : exec (.customerStop a (ix.val + 1)) s =
    .next (s.put (Controller.sendAnswer a (ix.val + 1) (bareAnswer (s.ctl.customerStopAt b)))) := by
  show execCustomerStop a (ix.val + 1) s = _
  rw [execCustomerStop, event_taking _ h, report_of_due hd _ (customerStopAt_mark (overlooked_countReport a) s.ctl b)]

end

/-! ### The switch to PAID (R46, R44) -/

/-- An outlet whose session is paid for by the customer from here on, its funding wait over (R46). -/
def Outlet.payOn (cap : Nat) (o : Outlet) : Outlet :=
  { o with session := o.session.map fun ss => { ss with kind := .PAID, cap := cap, paidEnergy := 0 }, fundingWait := none }

section
variable {c : Controller} {b : Bay} {ss : Session} (hs : (c.outlet b).session = some ss)
include hs

/-- A bound slot is unbound, the wait ends, and FUNDING is removed (R46). -/
theorem switchToPaid_eq (cap : Nat) : c.switchToPaid b cap =
    ((c.releaseSlot ss.boundSlot .FUNDING_ENDED).updOutlet b (Outlet.payOn cap)).removeReason b .FUNDING := by
  unfold Controller.switchToPaid
  dsimp only
  rw [hs, Option.bind_some]
  cases ss.boundSlot <;> rfl

/-- The outlet whose record is released: its session loses at most the slot, and does so where the record is bound to this bay (R20). -/
theorem releaseSlot_session (r : EndReason) : ∃ slot ch,
    (c.releaseSlot ss.boundSlot r).outlet b = { c.outlet b with session := some { ss with boundSlot := slot }, changed := ch }
    ∧ ∀ k, ss.boundSlot = some k → (c.record k).state = .BOUND → (c.record k).boundBay = some b → slot = none := by
  have hdrop : ∀ k, ss.boundSlot = some k → (c.outlet b).session.map (Session.dropSlot k) = some { ss with boundSlot := none } := fun k hk => by
    rw [hs, Option.map_some, Session.dropSlot, if_pos hk]
  have hsame : c.outlet b = { c.outlet b with session := some ss } := by rw [← hs]
  cases hk : ss.boundSlot with
  | none => exact ⟨none, (c.outlet b).changed, hsame.trans (by rw [← hk]), fun k h => nomatch h⟩
  | some k =>
    by_cases hbound : (c.record k).state = .BOUND ∧ (c.record k).boundBay = some b
    · have ho := unbind_outlet_eq hbound.1 hbound.2 (r == .RESET) .receiptUnbind b
      rw [if_pos rfl, Outlet.change, hdrop k hk] at ho
      exact ⟨none, _, ho, fun _ _ _ _ => rfl⟩
    · have hfree : ∀ j, some k = some j → (c.record j).state = .BOUND → (c.record j).boundBay = some b → False := fun j hj hst hbay => by
        cases hj
        exact hbound ⟨hst, hbay⟩
      rcases unbind_outlet c k (r == .RESET) .receiptUnbind b with ho | ho
      · exact ⟨some k, (c.outlet b).changed, (ho.trans hsame).trans (by rw [← hk]), fun j hj hst hbay => (hfree j hj hst hbay).elim⟩
      · rw [Outlet.change, hdrop k hk] at ho
        exact ⟨none, _, ho, fun _ _ _ _ => rfl⟩

end

/-- A reason that is removed leaves the funding wait to its own rule. -/
theorem removeReason_fundingWait (c : Controller) (b : Bay) (r : PauseReason) :
    ((c.removeReason b r).outlet b).fundingWait = (c.outlet b).fundingWait := by
  have hupd : ∀ f : Outlet → Outlet, (f (c.outlet b)).fundingWait = (c.outlet b).fundingWait →
      ((c.updOutlet b f).outlet b).fundingWait = (c.outlet b).fundingWait := fun f hf => by
    rw [updOutlet_outlet_self]
    exact hf
  obtain ⟨x, y, hput⟩ := put_eq (c.outlet b) .QUEUED
  unfold Controller.removeReason
  dsimp only
  split
  · rfl
  · split
    · exact hupd _ rfl
    · split
      · exact hupd _ rfl
      · split
        · exact hupd _ (by rw [hput])
        · obtain ⟨-, p, v, ch, ho⟩ := change_then_target (enqueue_leaves (c.updOutlet b fun o =>
            { o.put .QUEUED with reasons := (c.outlet b).reasons.put r false, overdraw := none }) b).2.1 0
          rw [ho]
          show ((c.outlet b).put .QUEUED).fundingWait = _
          rw [hput]

section
variable {c : Controller} {b : Bay} {ss : Session} (hs : (c.outlet b).session = some ss) (cap : Nat)
include hs

theorem switchToPaid_leaves : (c.switchToPaid b cap).credit = (c.releaseSlot ss.boundSlot .FUNDING_ENDED).credit
    ∧ c.quietBlocks (c.switchToPaid b cap) := by
  obtain ⟨-, -, hse, hst, hli, hru⟩ := releaseSlot_leaves c ss.boundSlot .FUNDING_ENDED
  obtain ⟨hcr, hst', -, hse', -, hli', hru'⟩ :=
    removeReason_leaves ((c.releaseSlot ss.boundSlot .FUNDING_ENDED).updOutlet b (Outlet.payOn cap)) b .FUNDING
  rw [switchToPaid_eq hs]
  exact ⟨hcr, hst'.trans hst, hse'.trans hse, hli'.trans hli, hru'.trans hru⟩

/-- What the switch leaves of the session and the wait (R46). -/
theorem switchToPaid_session : ((c.switchToPaid b cap).outlet b).fundingWait = none
    ∧ ∃ slot, ((c.switchToPaid b cap).outlet b).session = some { ss with kind := .PAID, cap := cap, paidEnergy := 0, boundSlot := slot }
      ∧ ∀ k, ss.boundSlot = some k → (c.record k).state = .BOUND → (c.record k).boundBay = some b → slot = none := by
  obtain ⟨slot, ch, ho, hslot⟩ := releaseSlot_session hs .FUNDING_ENDED
  rw [switchToPaid_eq hs, removeReason_fundingWait, removeReason_session, updOutlet_outlet_self, ho]
  exact ⟨rfl, slot, rfl, hslot⟩

/-- What the switch leaves of the state and the pause reasons of a PAUSED outlet (R44). -/
theorem switchToPaid_resumes (hst : (c.outlet b).state = .PAUSED) (hf : (c.outlet b).reasons.funding = true) :
    let left := { (c.outlet b).reasons with funding := false }
    let o' := (c.switchToPaid b cap).outlet b
    (left ≠ .empty → o'.state = .PAUSED ∧ o'.reasons = left)
    ∧ (left = .empty → ss.admitted = true → o'.state = .PAUSED ∧ o'.reasons = .budgetAlone ∧ o'.pauseMinimum = none)
    ∧ (left = .empty → ss.admitted = false → o'.state = .QUEUED ∧ o'.reasons = .empty ∧ (c.switchToPaid b cap).queuedActive b) := by
  obtain ⟨slot, ch, ho, -⟩ := releaseSlot_session hs .FUNDING_ENDED
  obtain ⟨ch', hpaid⟩ := updOutlet_outlet_eq (c.releaseSlot ss.boundSlot .FUNDING_ENDED) b (Outlet.payOn cap)
  have hresumed := removeReason_resumedAt (c := (c.releaseSlot ss.boundSlot .FUNDING_ENDED).updOutlet b (Outlet.payOn cap)) (b := b)
    (r := .FUNDING) (by rw [hpaid, ho]; exact hf)
  rw [← switchToPaid_eq hs] at hresumed
  unfold Controller.resumedAt at hresumed
  rw [hpaid, ho] at hresumed
  obtain ⟨hoff, hstays, hwaits, hqueues⟩ := hresumed
  have hpaused : (Outlet.payOn cap { c.outlet b with session := some { ss with boundSlot := slot }, changed := ch }).acting = .PAUSED :=
    (if_neg (show (c.outlet b).state ≠ .OFFLINE by rw [hst]; decide)).trans hst
  have hon : ((c.switchToPaid b cap).outlet b).state ≠ .OFFLINE := fun e =>
    absurd (hst.symm.trans (hoff.mp e)) (by decide)
  refine ⟨fun hl => ?_, fun hl ha => ?_, fun hl ha => ?_⟩
  · obtain ⟨hr, hact, -⟩ := hstays fun h => hl h.1
    exact ⟨acting_not_offline hon (hact.trans hpaused), hr⟩
  · obtain ⟨hr, hact, hp⟩ := hwaits ⟨hl, hpaused⟩ (congrArg some ha)
    exact ⟨acting_not_offline hon hact, hr, hp⟩
  · obtain ⟨hr, hact, -, hq⟩ := hqueues ⟨hl, hpaused⟩ (fun h => absurd (ha.symm.trans (Option.some.inj h)) (by decide))
    exact ⟨acting_not_offline hon hact, hr, (hq (by show (c.outlet b).state ≠ .OFFLINE; rw [hst]; decide)).1⟩

end

/-! ### A REPORT that no bay can be found for (R135) -/

theorem report_of_unplaced {c : Controller} {a : Addr} {n : Nat} (hw : c.link.awaited = some .window) (hu : (c.node a).reportUsed = false)
    (hb : c.reportBay a n = none) (f : Bay → Controller → Answered) :
    c.report a n f = Controller.sendAnswer a n (.NOT_MANAGED, 0, 0, c) := by
  have hnode : (c.mark (Link.countReport a) id).node a = { c.node a with reportUsed := true } :=
    (countReport_get a c.link a).trans (if_pos rfl)
  have hbay : (c.mark (Link.countReport a) id).reportBay a n = none := by
    rw [← hb]
    unfold Controller.reportBay
    rw [hnode]
    rfl
  unfold Controller.report
  rw [if_pos hw, hu]
  show (c.mark (Link.countReport a) id).answerReport a n f = _
  unfold Controller.answerReport
  rw [hbay]
  rfl

theorem exec_report_unplaced {s : State} {a : Addr} {n x : Nat} (h : s.ctl.taking = true) (hw : s.ctl.link.awaited = some .window)
    (hu : (s.ctl.node a).reportUsed = false) (hb : s.ctl.reportBay a n = none) {i : Instr}
    (hi : i ∈ [Instr.present a n x, .paidAuth a n x, .customerStop a n]) :
    exec i s = .next (s.put (Controller.sendAnswer a n (.NOT_MANAGED, 0, 0, s.ctl))) := by
  have hevent : ∀ f, event (Controller.report a n f) s = .next (s.put (Controller.sendAnswer a n (.NOT_MANAGED, 0, 0, s.ctl))) := fun f => by
    rw [event_taking _ h, report_of_unplaced hw hu hb]
  simp only [List.mem_cons, List.not_mem_nil, or_false] at hi
  rcases hi with rfl | rfl | rfl
  · exact hevent _
  · exact hevent _
  · exact hevent _

/-! ### O22 -/

section
variable {s : State} {a : Addr} {ix : OutIx} {b : Bay} (h : s.ctl.taking = true) (hd : s.ctl.reportDue a ix b)
include h hd

/-- PAID_AUTH at a PLUGGED bay (R38, R37). -/
theorem paidAuth_opens (cap : Nat) (hp : (s.ctl.outlet b).state = .PLUGGED) (hb : ¬ s.ctl.siteBusy = true) (hrun : s.ctl.run.running = true) :
    ∃ t, exec (.paidAuth a (ix.val + 1) cap) s = .next t ∧ t.ctl.answering a (ix.val + 1) .ACCEPTED 0 0
      ∧ s.ctl.openedAt t.ctl b .PAID none cap ∧ t.ctl.credit = s.ctl.credit ∧ s.ctl.outletsBut b t.ctl ∧ s.ctl.quietBlocks t.ctl := by
  have hexec := exec_paidAuth_due h hd cap
  have hopened := openSession_openedAt s.ctl b .PAID none cap
  have hbut := (openSession_outlets s.ctl b .PAID none cap).1
  obtain ⟨hcr, hst, hse, -, hli, hru⟩ := openSession_leaves s.ctl b .PAID none cap
  rw [paidAuthAt_of_plugged cap hb hp, if_pos hrun] at hexec
  generalize s.ctl.openSession b .PAID none cap = d at hexec hopened hbut hcr hst hse hli hru
  exact ⟨_, hexec, rfl, openedAt_sendAnswer (x := bareAnswer (.ACCEPTED, d)) hopened a _, hcr, hbut, hst, hse, hli, hru⟩

/-- CUSTOMER_STOP of a bay in a session state (R38 to R40). -/
theorem customerStop_ends (hin : (s.ctl.outlet b).state.inSession = true) (hs : (s.ctl.outlet b).session.isSome = true) :
    ∃ t, exec (.customerStop a (ix.val + 1)) s = .next t ∧ t.ctl.answering a (ix.val + 1) .ACCEPTED 0 0
      ∧ t.ctl.endedWith b .CUSTOMER_STOP s.ctl.run.siteTime ∧ (t.ctl.outlet b).state = .ENDING ∧ s.ctl.endFrame b t.ctl := by
  have hexec := exec_customerStop_due h hd
  obtain ⟨ss, hss⟩ := Option.isSome_iff_exists.mp hs
  have hended := endSession_endedWith hss .CUSTOMER_STOP .ENDING
  obtain ⟨-, -, -, -, -, -, -, hstate, -⟩ := endSession_outlet hs .CUSTOMER_STOP .ENDING
  have hframe := endSession_endFrame s.ctl b .CUSTOMER_STOP .ENDING
  have hquiet := hframe.2.2
  have hon : (s.ctl.outlet b).state ≠ .OFFLINE := fun e => by rw [e] at hin; exact absurd hin (by decide)
  rw [put_of_online hon] at hstate
  rw [customerStopAt_of_session hin hs] at hexec
  generalize s.ctl.endSession b .CUSTOMER_STOP .ENDING = d at hexec hended hstate hframe hquiet
  exact ⟨_, hexec, rfl, hended, hstate, endFrame_trans hframe rfl (fun _ _ => rfl) hquiet⟩

/-- PAID_AUTH during a funding wait (R46, R44). -/
theorem paidAuth_switches (cap : Nat) {ss : Session} (hw : (s.ctl.outlet b).waitsForFunding) (hb : ¬ s.ctl.siteBusy = true)
    (hs : (s.ctl.outlet b).session = some ss) :
    let left := { (s.ctl.outlet b).reasons with funding := false }
    ∃ t, exec (.paidAuth a (ix.val + 1) cap) s = .next t ∧ t.ctl.answering a (ix.val + 1) .ACCEPTED 0 0
      ∧ (t.ctl.outlet b).fundingWait = none
      ∧ (∃ ss', (t.ctl.outlet b).session = some ss'
        ∧ ss' = { ss with kind := .PAID, cap := cap, paidEnergy := 0, boundSlot := ss'.boundSlot }
        ∧ ∀ k, ss.boundSlot = some k → (s.ctl.record k).state = .BOUND → (s.ctl.record k).boundBay = some b →
          ss'.boundSlot = none ∧ t.ctl.record k = (s.ctl.record k).unbind s.ctl.run.timeValid s.ctl.run.siteTime false)
      ∧ (left ≠ .empty → (t.ctl.outlet b).state = .PAUSED ∧ (t.ctl.outlet b).reasons = left)
      ∧ (left = .empty → ss.admitted = true → (t.ctl.outlet b).state = .PAUSED ∧ (t.ctl.outlet b).reasons = .budgetAlone
        ∧ (t.ctl.outlet b).pauseMinimum = none)
      ∧ (left = .empty → ss.admitted = false → (t.ctl.outlet b).state = .QUEUED ∧ (t.ctl.outlet b).reasons = .empty
        ∧ t.ctl.queuedActive b)
      ∧ s.ctl.recordsBut ss.boundSlot t.ctl ∧ s.ctl.quietBlocks t.ctl := by
  have hexec := exec_paidAuth_due h hd cap
  rw [paidAuthAt_of_wait cap hb hw] at hexec
  obtain ⟨hcredit, hquiet⟩ := switchToPaid_leaves hs cap
  obtain ⟨hwait, slot, hsession, hslot⟩ := switchToPaid_session hs cap
  obtain ⟨hpaused, hfunding, -⟩ := hw
  obtain ⟨hstays, hpauses, hqueues⟩ := switchToPaid_resumes hs cap hpaused hfunding
  have hrecord : ∀ k, ss.boundSlot = some k → (s.ctl.record k).state = .BOUND →
      (s.ctl.releaseSlot ss.boundSlot .FUNDING_ENDED).record k = (s.ctl.record k).unbind s.ctl.run.timeValid s.ctl.run.siteTime false :=
    fun k hk hst => by
      rw [hk]
      exact (unbind_record hst false .receiptUnbind k).trans (if_pos rfl)
  have hbut := releaseSlot_recordsBut s.ctl ss.boundSlot .FUNDING_ENDED
  generalize s.ctl.switchToPaid b cap = d at hexec hcredit hquiet hwait hsession hstays hpauses hqueues
  refine ⟨_, hexec, rfl, hwait, ⟨_, hsession, rfl, fun k hk hst hbay => ⟨hslot k hk hst hbay, ?_⟩⟩, hstays, hpauses, hqueues, ?_, hquiet⟩
  · exact (record_eq_of_credit hcredit k).trans (hrecord k hk hst)
  · exact fun j hj => (record_eq_of_credit hcredit j).trans (hbut j hj)

end

/-- Settles O22: each answer is a line of the rule, and the accepted ones are followed into the controller that they leave. -/
theorem paidAuthOpensAndCustomerStopEnds : Obligations.PaidAuthOpensAndCustomerStopEnds := by
  refine ⟨fun s a ix b h hd => ?_, fun c b cap => ?_, fun s a n x h hw hu hb i hi => ?_⟩
  · intro busy o
    have hbusy : s.ctl.siteBusy = true ↔ busy := siteBusy_iff
    refine ⟨fun cap => ⟨_, exec_paidAuth_due h hd cap, reported_sendAnswer (paidAuthAt_nodesAlone _ _ _) a _⟩,
      ⟨_, exec_customerStop_due h hd, reported_sendAnswer (customerStopAt_nodesAlone _ _) a _⟩,
      fun cap hp hb => paidAuth_opens h hd cap hp (hb ∘ hbusy.mp), customerStop_ends h hd,
      fun cap ss hst hf hw hb hs => paidAuth_switches h hd cap ⟨hst, hf, hw⟩ (hb ∘ hbusy.mp) hs⟩
  · intro busy o waits answers stops
    have hbusy : c.siteBusy = true ↔ busy := siteBusy_iff
    have hstops : o.state.inSession = false → o.state ≠ .METER_ONLY → o.state ≠ .UNMAPPED → stops .NOT_READY := customerStopAt_of_not_ready
    refine ⟨fun hm => ⟨paidAuthAt_of_meter_only cap hm, customerStopAt_of_unmanaged (.inl hm)⟩,
      fun hu => customerStopAt_of_unmanaged (.inr hu), fun hm hb => paidAuthAt_of_busy cap hm (hbusy.mpr hb),
      fun hb hw hst => paidAuthAt_of_funded cap (hb ∘ hbusy.mp) hw hst,
      fun hst => ⟨fun hb => paidAuthAt_of_not_ready cap (hb ∘ hbusy.mp) hst, hstops ?_ ?_⟩, fun hp => ⟨fun hb hr => ?_, hstops ?_ ?_ ?_⟩⟩
    · rcases hst with e | e | e | e | e | e | e | e <;> rw [e] <;> rfl
    · rcases hst with e | e | e | e | e | e | e | e <;> rw [e] <;> decide
    · exact (paidAuthAt_of_plugged cap (hb ∘ hbusy.mp) hp).trans (if_neg (by rw [hr]; decide))
    all_goals rw [hp]; decide
  · obtain ⟨hans, hnode, hnodes, hreports, -, -, hcredit, houtlets, hpool, hport, hquiet⟩ :=
      reported_sendAnswer (c := s.ctl) (x := (.NOT_MANAGED, 0, 0, s.ctl)) rfl a n
    exact ⟨_, exec_report_unplaced h hw hu hb hi, hans, congrArg Node.reportUsed hnode, hreports, hnodes, houtlets, hcredit, hpool, hport,
      hquiet⟩

end Sys2Proof.Machine
end

section
/-! SUPPORT. How a cycle goes on (R128, R133, R139) and what of the link the frame that follows leaves alone; the ends of a cycle's windows: an
empty window, a chain fault and the fourth ANSWER (R134, R136, R143). -/

namespace Sys2Proof.Machine

/-! ### The frame that follows in a cycle -/

/-- What a frame leaves alone that begins another visit, or follows the last: but for the link every block, of each node all but its
report-used flag, and of the link what is not of the visit, of the windows, of the probe and of the all-silent count. -/
structure Controller.NextFrame (c t : Controller) : Prop where
  flags : c.FlagsFrame t
  link : t.link = { c.link with
    nodes := t.link.nodes, exchange := t.link.exchange, stage := t.link.stage, sentOutlets := t.link.sentOutlets
    windows := t.link.windows, reports := t.link.reports, allSilent := t.link.allSilent, probe := t.link.probe }

theorem nextFrame_blocks {c t : Controller} (h : c.NextFrame t) : t.credit = c.credit ∧ t.outlets = c.outlets ∧ t.pool = c.pool
    ∧ t.port = c.port ∧ c.quietBlocks t := visitFrame_blocks (visitFrame_of_flags h.flags 0)

theorem probeStep_nextFrame (c : Controller) : c.NextFrame c.probeStep where
  flags := probeStep_frame c
  link := by
    unfold Controller.probeStep
    split <;> rfl

section
variable {c : Controller}

theorem lowestKnownFrom_iff {start : Nat} {x : Addr} : (c.link.nodes.lowest fun i n => decide (start ≤ i) && n.known) = some x ↔
    start ≤ x.val ∧ (c.node x).known = true ∧ ∀ y : Addr, start ≤ y.val → y < x → (c.node y).known = false := by
  simp only [lowest_eq_some_iff, Bool.and_eq_true, Bool.and_eq_false_iff, decide_eq_true_eq, decide_eq_false_iff_not, Controller.node]
  refine ⟨fun ⟨⟨hx, hk⟩, hmin⟩ => ⟨hx, hk, fun y hy hyx => (hmin y hyx).resolve_left (not_not.mpr hy)⟩,
    fun ⟨hx, hk, hmin⟩ => ⟨⟨hx, hk⟩, fun y hyx => ?_⟩⟩
  by_cases hy : start ≤ y.val
  · exact .inr (hmin y hy hyx)
  · exact .inl hy

theorem noneKnownFrom_iff {start : Nat} : (c.link.nodes.lowest fun i n => decide (start ≤ i) && n.known) = none ↔
    ∀ x : Addr, start ≤ x.val → (c.node x).known = false := by
  simp only [lowest_eq_none_iff, Bool.and_eq_false_iff, decide_eq_false_iff_not, Controller.node, ← imp_iff_not_or]

/-- The visit to the lowest known node from an address on. -/
theorem visitFrom_lowest {start : Nat} {x : Addr} (hx : start ≤ x.val) (hk : (c.node x).known = true)
    (hmin : ∀ y : Addr, start ≤ y.val → y < x → (c.node y).known = false) :
    c.visitFrom start = (c.updLink fun l => { l with stage := .polled, sentOutlets := [] }).send (.poll x) :=
  visitFrom_poll (lowestKnownFrom_iff.mpr ⟨hx, hk, hmin⟩)

/-- While a later node is known, its visit follows, whatever the states of the others (R128). -/
theorem visitFrom_later {start : Nat} (h : ∃ x : Addr, start ≤ x.val ∧ (c.node x).known = true) (d : Controller) :
    d.visitsGoOn (c.visitFrom start) start ∧ c.NextFrame (c.visitFrom start) := by
  obtain ⟨x, hx, hk⟩ := h
  cases hl : c.link.nodes.lowest fun i n => decide (start ≤ i) && n.known with
  | none => exact absurd (hk.symm.trans (noneKnownFrom_iff.mp hl x hx)) (by decide)
  | some z =>
    obtain ⟨hz, hkz, hmin⟩ := lowestKnownFrom_iff.mp hl
    rw [visitFrom_poll hl]
    refine ⟨⟨fun y hy hky hymin => ?_, fun hnone => absurd (hkz.symm.trans (hnone z hz)) (by decide)⟩,
      flagsFrame_of_send c _ rfl _, rfl⟩
    have hyz : y = z := by
      rcases lt_trichotomy y z with hlt | heq | hlt
      · exact absurd (hky.symm.trans (hmin y hy hlt)) (by decide)
      · exact heq
      · exact absurd (hkz.symm.trans (hymin z hz hlt)) (by decide)
    rw [hyz]
    exact ⟨rfl, rfl, rfl⟩

/-- With no later node known, and the count of silent cycles cleared, the attach probe follows (R133, R139). -/
theorem visitFrom_probes {start : Nat} (hnone : ∀ x : Addr, start ≤ x.val → (c.node x).known = false)
    (hover : c.afterVisits = (c.updLink fun l => { l with allSilent := 0 }).probeStep) {d : Controller} (hd : d.link.probe = c.link.probe) :
    d.visitsGoOn (c.visitFrom start) start ∧ c.NextFrame (c.visitFrom start) := by
  have hprobe := probeStep_probesNext (c.updLink fun l => { l with allSilent := 0 })
  have hsilent := probeStep_allSilent (c.updLink fun l => { l with allSilent := 0 })
  have hframe := probeStep_nextFrame (c.updLink fun l => { l with allSilent := 0 })
  rw [visitFrom_over (noneKnownFrom_iff.mpr hnone), hover]
  refine ⟨⟨fun y hy hky _ => ?_, fun _ _ => ⟨hsilent, probesNext_of_probe hprobe hd⟩⟩,
    ⟨hframe.flags.blocks, hframe.flags.node⟩, hframe.link⟩
  obtain ⟨_, hy'⟩ := hframe.flags.node y
  rw [hy'] at hky
  exact absurd (hky.symm.trans (hnone y hy)) (by decide)

/-- The visits of a cycle go on while a node is PRESENT or a later one is known (R128, R133, R139). -/
theorem visitFrom_next (start : Nat) (hf : c.link.finalCycle = false)
    (h : (∃ x, (c.node x).state = .PRESENT) ∨ ∃ x : Addr, start ≤ x.val ∧ (c.node x).known = true) {d : Controller}
    (hd : d.link.probe = c.link.probe) : d.visitsGoOn (c.visitFrom start) start ∧ c.NextFrame (c.visitFrom start) := by
  by_cases hlater : ∃ x : Addr, start ≤ x.val ∧ (c.node x).known = true
  · exact visitFrom_later hlater d
  · have hnone : ∀ x : Addr, start ≤ x.val → (c.node x).known = false := fun x hx =>
      Bool.not_eq_true _ ▸ fun hk => hlater ⟨x, hx, hk⟩
    exact visitFrom_probes hnone (afterVisits_of_alive ⟨hf, h.resolve_right hlater⟩) hd

/-- A cycle begins with the lowest known node, or without one with the attach probe (R128, R139). -/
theorem beginCycle_goesOn (hf : c.link.finalCycle = false) {d : Controller} (hd : d.link.probe = c.link.probe) :
    d.visitsGoOn c.beginCycle 0 ∧ c.NextFrame c.beginCycle := by
  by_cases hknown : ∃ x, (c.node x).known = true
  · obtain ⟨x, hk⟩ := hknown
    exact visitFrom_later ⟨x, Nat.zero_le _, hk⟩ d
  · have hnone : ∀ x : Addr, 0 ≤ x.val → (c.node x).known = false := fun x _ => Bool.not_eq_true _ ▸ fun hk => hknown ⟨x, hk⟩
    have hover : c.beginCycle = c.afterVisits := visitFrom_over (noneKnownFrom_iff.mpr hnone)
    rcases beginCycle_cases hf with ⟨x, hk, -, -⟩ | ⟨-, hprobes⟩
    · exact absurd ⟨x, hk⟩ hknown
    · exact visitFrom_probes hnone (hover.symm.trans hprobes) hd

end

/-! ### The end of a cycle's windows (R136, R143) -/

/-- A cycle counted, with its windows and REPORTs, its last exchange complete (R143). -/
def Controller.counted (c : Controller) : Controller :=
  c.updLink fun l => { l with exchange := none, cycles := satAdd u32Max l.cycles 1, lastWindows := l.windows, lastReports := l.reports }

/-- A cycle has been counted with so many REPORTs, and the next begins. -/
def Controller.cycleEnds (c t : Controller) (reports : Nat) : Prop :=
  t.link.cycles = min 4294967295 (c.link.cycles + 1) ∧ t.link.lastWindows = c.link.windows ∧ t.link.lastReports = reports ∧ c.visitsGoOn t 0

theorem exchangeDone_endCycle {c : Controller} (hstop : c.link.stopWaiting = false) (hrestart : c.link.restartWaiting = false)
    (hphase : c.link.window.phase = .NONE) : c.exchangeDone Controller.endCycle = c.counted.beginCycle :=
  exchangeDone_goes_on _ hstop hrestart (by rw [hphase]; decide)

theorem counted_cycleEnds {c : Controller} (hf : c.link.finalCycle = false) {d : Controller} (hp : d.link.probe = c.link.probe)
    (hc : d.link.cycles = c.link.cycles) (hw : d.link.windows = c.link.windows) :
    d.cycleEnds c.counted.beginCycle c.link.reports ∧ c.counted.NextFrame c.counted.beginCycle := by
  obtain ⟨hgoes, hframe⟩ := beginCycle_goesOn (c := c.counted) hf (d := d) hp
  refine ⟨⟨?_, ?_, ?_, hgoes⟩, hframe⟩
  · rw [hframe.link, hc]
    rfl
  · rw [hframe.link, hw]
    rfl
  · rw [hframe.link]
    rfl

/-! ### The rows that end a window -/

section
variable {s : State} (htaking : s.ctl.taking = true)
include htaking

theorem exec_windowTimeout (h : s.ctl.link.awaited = some .window) :
    exec .windowTimeout s = .next (s.put (s.ctl.exchangeDone Controller.endCycle)) := by
  show execWindowTimeout s = _
  simp only [execWindowTimeout, event_taking _ htaking, h, if_true, State.put]

/-- A REPORT from a node that has reported in this cycle is a chain fault, whichever report it is (R136). -/
theorem exec_chainFault {a : Addr} {n x : Nat} (h : s.ctl.link.awaited = some .window) (hu : (s.ctl.node a).reportUsed = true) {i : Instr}
    (hi : i ∈ [Instr.present a n x, .paidAuth a n x, .customerStop a n]) : exec i s = .next (s.put s.ctl.chainFault) := by
  have hevent : ∀ f, event (Controller.report a n f) s = .next (s.put s.ctl.chainFault) := fun f => by
    rw [event_taking _ htaking, Controller.report, if_pos h, if_pos hu]
  simp only [List.mem_cons, List.not_mem_nil, or_false] at hi
  rcases hi with rfl | rfl | rfl
  · exact hevent _
  · exact hevent _
  · exact hevent _

/-- A frame that ends its exchange has been sent (R118). -/
theorem exec_unansweredSent {ex : Exchange} (h : s.ctl.link.exchange = some ex) (hw : ex.waiting = none) (hs : ex.sent.unanswered = true) :
    exec .frameSent s = .next (s.put (s.ctl.exchangeDone ex.sent.follow)) := by
  show execFrameSent s = _
  rw [execFrameSent, event_taking _ htaking]
  simp only [h, hw, hs, Option.isSome_none, Bool.false_eq_true, if_false, if_true]

end

/-- A discarded frame changes nothing (R119). -/
theorem exec_discardedFrame (bytes : List Byte) (s : State) : exec (.discardedFrame bytes) s = .next s := by
  show event (fun c => c) s = _
  cases h : s.ctl.taking with
  | true => exact event_taking _ h
  | false => exact event_idle _ h

/-- After an ANSWER: the next window below the fourth, and the end of the cycle at it (R134, R136). -/
theorem afterWindow_cases (c : Controller) :
    (c.link.windows < 4 ∧ c.afterWindow = c.openWindow) ∨ (4 ≤ c.link.windows ∧ c.afterWindow = c.endCycle) := by
  unfold Controller.afterWindow
  rcases Nat.lt_or_ge c.link.windows 4 with h | h
  · exact .inl ⟨h, if_neg (Nat.not_le.mpr h)⟩
  · exact .inr ⟨h, if_pos h⟩

/-! ### O44 -/

section
variable {s : State} (htaking : s.ctl.taking = true)
include htaking

/-- An empty window ends the cycle of whichever kind, and the next polls the lowest known node (R136, R143, R128). -/
theorem windowTimeout_polls {a : Addr} (hw : s.ctl.link.awaited = some .window) (hstop : s.ctl.link.stopWaiting = false)
    (hrestart : s.ctl.link.restartWaiting = false) (hphase : s.ctl.link.window.phase = .NONE) (hk : (s.ctl.node a).known = true)
    (hmin : ∀ x, x < a → (s.ctl.node x).known = false) :
    exec .windowTimeout s =
      .next (s.put ((s.ctl.counted.updLink fun l => { l with stage := .polled, sentOutlets := [] }).send (.poll a))) := by
  rw [exec_windowTimeout htaking hw, exchangeDone_endCycle hstop hrestart hphase]
  exact congrArg (fun c => Host.Outcome.next (s.put c)) (visitFrom_lowest (c := s.ctl.counted) (Nat.zero_le _) hk fun y _ => hmin y)

variable (ho : s.ctl.ordinaryCycle)
include ho

theorem windowTimeout_cycleEnds (hw : s.ctl.link.awaited = some .window) :
    ∃ t, exec .windowTimeout s = .next t ∧ s.ctl.cycleEnds t.ctl s.ctl.link.reports := by
  obtain ⟨-, hstop, hrestart, hphase, hf⟩ := ho
  have hexec := exec_windowTimeout htaking hw
  rw [exchangeDone_endCycle hstop hrestart hphase] at hexec
  exact ⟨_, hexec, (counted_cycleEnds hf rfl rfl rfl).1⟩

theorem chainFault_cycleEnds {a : Addr} {n x : Nat} (hw : s.ctl.link.awaited = some .window) (hu : (s.ctl.node a).reportUsed = true)
    {i : Instr} (hi : i ∈ [Instr.present a n x, .paidAuth a n x, .customerStop a n]) :
    ∃ t, exec i s = .next t ∧ t.ctl.raised .nodeChainFault ∧ s.ctl.cycleEnds t.ctl (s.ctl.link.reports + 1)
      ∧ t.ctl.outlets = s.ctl.outlets ∧ t.ctl.credit = s.ctl.credit ∧ t.ctl.pool = s.ctl.pool ∧ s.ctl.quietBlocks t.ctl := by
  obtain ⟨-, hstop, hrestart, hphase, hf⟩ := ho
  have hexec := exec_chainFault htaking hw hu hi
  have hraised := raised_raise (s.ctl.updLink fun l => { l with reports := l.reports + 1 }) .nodeChainFault
  rw [Controller.chainFault, exchangeDone_endCycle (c := (s.ctl.updLink fun l => { l with reports := l.reports + 1 }).raise .nodeChainFault)
    hstop hrestart hphase] at hexec
  obtain ⟨hends, hframe⟩ := counted_cycleEnds
    (c := (s.ctl.updLink fun l => { l with reports := l.reports + 1 }).raise .nodeChainFault) hf (d := s.ctl) rfl rfl rfl
  obtain ⟨hcr, hou, hpo, hport, hq⟩ := nextFrame_blocks hframe
  exact ⟨_, hexec, (raised_congr hport _).mpr hraised, hends, hou, hcr, hpo, hq⟩

theorem answerSent_goesOn {ex : Exchange} {a : Addr} {n : Nat} {code : Answer} {tier left : Nat} (hex : s.ctl.link.exchange = some ex)
    (hw : ex.waiting = none) (hs : ex.sent = .answer a n code tier left) :
    ∃ t, exec .frameSent s = .next t
      ∧ (s.ctl.link.windows < 4 → t.ctl.sends .window ∧ t.ctl.link.windows = s.ctl.link.windows + 1
        ∧ t.ctl.link.reports = s.ctl.link.reports ∧ t.ctl.link.cycles = s.ctl.link.cycles ∧ ∀ x, t.ctl.node x = s.ctl.node x)
      ∧ (4 ≤ s.ctl.link.windows → s.ctl.cycleEnds t.ctl s.ctl.link.reports)
      ∧ t.ctl.outlets = s.ctl.outlets ∧ t.ctl.credit = s.ctl.credit ∧ t.ctl.pool = s.ctl.pool ∧ t.ctl.port = s.ctl.port
      ∧ s.ctl.quietBlocks t.ctl := by
  obtain ⟨-, hstop, hrestart, hphase, hf⟩ := ho
  have hexec := exec_unansweredSent htaking hex hw (by rw [hs]; rfl)
  have hdone : s.ctl.exchangeDone ex.sent.follow = (s.ctl.updLink fun l => { l with exchange := none }).afterWindow := by
    rw [hs]
    exact exchangeDone_goes_on _ hstop hrestart (by rw [hphase]; decide)
  rw [hdone] at hexec
  rcases afterWindow_cases (s.ctl.updLink fun l => { l with exchange := none }) with ⟨hlt, hopen⟩ | ⟨hge, hend⟩
  · rw [hopen] at hexec
    exact ⟨_, hexec, fun _ => ⟨rfl, rfl, rfl, rfl, fun _ => rfl⟩, fun h => absurd hlt (Nat.not_lt.mpr h), rfl, rfl, rfl, rfl, rfl, rfl,
      rfl, rfl⟩
  · rw [hend] at hexec
    obtain ⟨hends, hframe⟩ := counted_cycleEnds hf (d := s.ctl) rfl rfl rfl
    obtain ⟨hcr, hou, hpo, hport, hq⟩ := nextFrame_blocks hframe
    exact ⟨_, hexec, fun h => absurd h (Nat.not_lt.mpr hge), fun _ => hends, hou, hcr, hpo, hport, hq⟩

end

/-- Settles O44. -/
theorem emptyWindowEndsTheCycle : Obligations.EmptyWindowEndsTheCycle := by
  intro s htaking
  refine ⟨fun a hw hstop hrestart hphase hk hmin => ?_, fun bytes => exec_discardedFrame bytes s, fun ho => ?_⟩
  · exact ⟨_, windowTimeout_polls htaking hw hstop hrestart hphase hk hmin, rfl, rfl, rfl, rfl, fun _ => rfl, rfl, rfl, rfl, rfl,
      rfl, rfl, rfl, rfl⟩
  · exact ⟨windowTimeout_cycleEnds htaking ho, fun a n x hw hu _ i hi => chainFault_cycleEnds htaking ho hw hu hi,
      fun ex a n code tier left hex hw hs _ => answerSent_goesOn htaking ho hex hw hs⟩

end Sys2Proof.Machine
end

section
/-! SUPPORT. The silence of a node at each of its bays (R50), and the loss of the link at each mapped bay (R52): the outlet that each leaves, and
what they leave of queue, notices and fault summary. -/

namespace Sys2Proof.Machine

/-! ### A bay of a node that falls silent (R50) -/

/-- The step of a node's silence at one bay. -/
def Controller.silenceAt (a : Addr) (b : Bay) (c : Controller) : Controller :=
  if (c.bay b).map.valid && (c.bay b).map.node == a then c.bayFallsSilent b else c

theorem nodeFallsSilent_eq (c : Controller) (a : Addr) : c.nodeFallsSilent a = (forBays (Controller.silenceAt a) c).judgeRelease := rfl

/-- A bay that the silence of a node takes OFFLINE: mapped to it, and neither UNMAPPED nor OFFLINE already (R50). -/
def Controller.silences (c : Controller) (a : Addr) (b : Bay) : Prop :=
  ((c.bay b).map.valid = true ∧ (c.bay b).map.node = a) ∧ (c.outlet b).state ≠ .UNMAPPED ∧ (c.outlet b).state ≠ .OFFLINE

/-- A bay's queue entry WITHDRAWN on a condition (R75). -/
def Controller.withdrawIf (p : Prop) [Decidable p] (b : Bay) (c : Controller) : Controller := if p then c.withdraw b else c

theorem withdrawIf_eq (p : Prop) [Decidable p] (b : Bay) (c : Controller) :
    c.withdrawIf p b = { c with pool := { c.pool with queue := (c.withdrawIf p b).pool.queue } } := by
  unfold Controller.withdrawIf
  split <;> rfl

theorem withdrawIf_queue (p : Prop) [Decidable p] (b : Bay) (c : Controller) :
    (c.withdrawIf p b).pool.queue = if p then queueSet b false c.pool.queue else c.pool.queue := by
  unfold Controller.withdrawIf
  split <;> rfl

section
variable {c : Controller} {a : Addr} {b : Bay}

theorem silenceAt_of_silences (h : c.silences a b) : c.silenceAt a b =
    ((c.updOutlet b (Outlet.fallSilent c.inForce.tRes)).depart b).withdrawIf ((c.outlet b).state = .QUEUED) b := by
  obtain ⟨⟨hv, hn⟩, hu, ho⟩ := h
  unfold Controller.silenceAt Controller.bayFallsSilent
  rw [hv, hn, beq_self_eq_true, Bool.and_self, if_pos rfl, if_neg (not_or.mpr ⟨hu, ho⟩)]
  rfl

theorem silenceAt_of_not (h : ¬ c.silences a b) : c.silenceAt a b = c := by
  unfold Controller.silenceAt Controller.bayFallsSilent
  by_cases hm : (c.bay b).map.valid = true ∧ (c.bay b).map.node = a
  · have hst : (c.outlet b).state = .UNMAPPED ∨ (c.outlet b).state = .OFFLINE := by
      by_contra hn
      exact h ⟨hm, not_or.mp hn⟩
    rw [hm.1, hm.2, beq_self_eq_true, Bool.and_self, if_pos rfl, if_pos hst]
  · rw [if_neg]
    simpa using hm

/-- The two things that the step does at a bay: nothing, or the bay goes OFFLINE with its queue entry WITHDRAWN. -/
theorem silenceAt_cases (c : Controller) (a : Addr) (b : Bay) : c.silenceAt a b = c ∨ c.silenceAt a b =
    ((c.updOutlet b (Outlet.fallSilent c.inForce.tRes)).depart b).withdrawIf ((c.outlet b).state = .QUEUED) b := by
  by_cases h : c.silences a b
  · exact .inr (silenceAt_of_silences h)
  · exact .inl (silenceAt_of_not h)

end

/-- An outlet as the silence of its node leaves it, with a T_res in s (R50). -/
def Outlet.silenced (tRes : Nat) (o : Outlet) : Outlet := { o.fallSilent tRes with changed := true }

theorem fallSilent_change {o : Outlet} (h : o.state ≠ .OFFLINE) (tRes : Nat) : o.change (Outlet.fallSilent tRes) = o.silenced tRes := by
  have hmoved : o.moved (o.fallSilent tRes) = true := by
    unfold Outlet.moved
    rw [show (o.state != (o.fallSilent tRes).state) = true from bne_iff_ne.mpr h]
    rfl
  unfold Outlet.change
  rw [hmoved, Bool.or_true]
  rfl

theorem releaseRaise_silenced (o : Outlet) (tRes : Nat) : (o.silenced tRes).releaseRaise = o.silenced tRes := rfl

/-! ### The queue of a node that falls silent -/

/-- Withdrawals keep bays and priorities of the queue in their places, and make no entry ACTIVE (R75). -/
theorem queueSet_bays (b : Bay) (active : Bool) (q : List QueueEntry) :
    (queueSet b active q).map (fun e => (e.bay, e.priority)) = q.map fun e => (e.bay, e.priority) := by
  unfold queueSet
  rw [List.map_map]
  refine List.map_congr_left fun e _ => ?_
  show (QueueEntry.bay (if e.bay = b then _ else e), QueueEntry.priority (if e.bay = b then _ else e)) = _
  split <;> rfl

/-- The bay has no ACTIVE entry. -/
def withdrawn (b : Bay) (q : List QueueEntry) : Prop := ∀ e ∈ q, e.bay = b → e.active = false

theorem withdrawn_queueSet_self (b : Bay) (q : List QueueEntry) : withdrawn b (queueSet b false q) := by
  intro e he hb
  obtain ⟨x, -, rfl⟩ := List.mem_map.mp he
  split
  · rfl
  · next hx => exact absurd (by rwa [if_neg hx] at hb) hx

theorem withdrawn_queueSet {b : Bay} {q : List QueueEntry} (h : withdrawn b q) (y : Bay) : withdrawn b (queueSet y false q) := by
  intro e he hb
  obtain ⟨x, hx, rfl⟩ := List.mem_map.mp he
  split
  · rfl
  · next hxy => exact h x hx (by rwa [if_neg hxy] at hb)

/-! ### The silence of a node, at each bay (R50) -/

section
variable (c : Controller) (a : Addr) (y : Bay)

/-- What the step leaves alone at any bay: every block but outlets and pool. -/
theorem silenceAt_leaves : (c.silenceAt a y).credit = c.credit ∧ (c.silenceAt a y).link = c.link ∧ (c.silenceAt a y).port = c.port
    ∧ c.quietBlocks (c.silenceAt a y) := by
  rcases silenceAt_cases c a y with h | h
  · rw [h]
    exact ⟨rfl, rfl, rfl, rfl, rfl, rfl, rfl⟩
  · rw [h, withdrawIf_eq]
    exact ⟨rfl, rfl, rfl, rfl, rfl, rfl, rfl⟩

theorem silenceAt_roundTimer : (c.silenceAt a y).pool.roundTimer = c.pool.roundTimer := by
  rcases silenceAt_cases c a y with h | h
  · rw [h]
  · rw [h, withdrawIf_eq]
    rfl

theorem silenceAt_queue : (c.silenceAt a y).pool.queue = c.pool.queue ∨ (c.silenceAt a y).pool.queue = queueSet y false c.pool.queue := by
  rcases silenceAt_cases c a y with h | h
  · exact .inl (congrArg (·.pool.queue) h)
  · rw [h, withdrawIf_queue]
    split
    · exact .inr rfl
    · exact .inl rfl

/-- The step of another bay. -/
theorem silenceAt_of_ne {x : Bay} (hx : y ≠ x) :
    (c.silenceAt a y).outlet x = c.outlet x ∧ (c.silenceAt a y).pool.computed.get x = c.pool.computed.get x := by
  rcases silenceAt_cases c a y with h | h
  · rw [h]
    exact ⟨rfl, rfl⟩
  · rw [h, withdrawIf_eq]
    exact ⟨(updOutlet_outlet c y x _).trans (if_neg hx), Table.get_set_of_ne _ _ hx⟩

end

section
variable (c : Controller) (a : Addr)

/-- What the silence of a node leaves alone. -/
theorem nodeFallsSilent_leaves : (c.nodeFallsSilent a).credit = c.credit ∧ (c.nodeFallsSilent a).link = c.link
    ∧ (c.nodeFallsSilent a).port = c.port ∧ c.quietBlocks (c.nodeFallsSilent a)
    ∧ (c.nodeFallsSilent a).pool.roundTimer = c.pool.roundTimer
    ∧ (c.nodeFallsSilent a).pool.queue.map (fun e => (e.bay, e.priority)) = c.pool.queue.map fun e => (e.bay, e.priority) := by
  obtain ⟨hcr, hpo, hst, hli, hse, hport, hln, hru⟩ := judgeRelease_leaves (forBays (Controller.silenceAt a) c)
  rw [nodeFallsSilent_eq, hcr, hpo, hli, hport]
  unfold Controller.quietBlocks
  rw [hst, hse, hln, hru]
  refine forBays_keeps (fun d => d.credit = c.credit ∧ d.link = c.link ∧ d.port = c.port ∧ c.quietBlocks d
    ∧ d.pool.roundTimer = c.pool.roundTimer
    ∧ d.pool.queue.map (fun e => (e.bay, e.priority)) = c.pool.queue.map fun e => (e.bay, e.priority)) (fun b d hd => ?_)
    ⟨rfl, rfl, rfl, ⟨rfl, rfl, rfl, rfl⟩, rfl, rfl⟩
  obtain ⟨hcr, hli, hport, hq, hround, hqueue⟩ := hd
  obtain ⟨hcr', hli', hport', hq'⟩ := silenceAt_leaves d a b
  refine ⟨hcr'.trans hcr, hli'.trans hli, hport'.trans hport, quietBlocks_trans hq hq', (silenceAt_roundTimer d a b).trans hround, ?_⟩
  rcases silenceAt_queue d a b with h | h <;> rw [h]
  · exact hqueue
  · rw [queueSet_bays, hqueue]

variable {c a} {x : Bay}

/-- A bay that the silence takes OFFLINE (R50). -/
theorem nodeFallsSilent_outlet (h : c.silences a x) : (c.nodeFallsSilent a).outlet x = (c.outlet x).silenced c.inForce.tRes
    ∧ (c.nodeFallsSilent a).pool.computed.get x = 0 ∧ ((c.outlet x).state = .QUEUED → withdrawn x (c.nodeFallsSilent a).pool.queue) := by
  have hall : let d := forBays (Controller.silenceAt a) c
      d.outlet x = (c.outlet x).silenced c.inForce.tRes ∧ d.pool.computed.get x = 0
        ∧ ((c.outlet x).state = .QUEUED → withdrawn x d.pool.queue) := by
    refine forBays_at (x := x) (A := fun d => d.outlet x = c.outlet x ∧ d.settings = c.settings)
      (B := fun d => d.outlet x = (c.outlet x).silenced c.inForce.tRes ∧ d.pool.computed.get x = 0
        ∧ ((c.outlet x).state = .QUEUED → withdrawn x d.pool.queue)) (fun y d hy hd => ?_) (fun d hd => ?_) (fun y d hy hd => ?_) ⟨rfl, rfl⟩
    · obtain ⟨-, -, -, -, hset, -⟩ := silenceAt_leaves d a y
      exact ⟨(silenceAt_of_ne d a y hy).1.trans hd.1, hset.trans hd.2⟩
    · obtain ⟨ho, hset⟩ := hd
      have hs : d.silences a x := by
        unfold Controller.silences
        rw [bay_eq_of_settings hset, ho]
        exact h
      have htRes : d.inForce.tRes = c.inForce.tRes := congrArg (·.stored.tRes) hset
      rw [silenceAt_of_silences hs]
      refine ⟨?_, ?_, fun hq => ?_⟩
      · rw [withdrawIf_eq]
        refine (updOutlet_outlet_self d x _).trans ?_
        rw [ho, htRes]
        exact fallSilent_change h.2.2 _
      · rw [withdrawIf_eq]
        exact Table.get_set_self _ _ _
      · rw [withdrawIf_queue, ho, if_pos hq]
        exact withdrawn_queueSet_self x _
    · obtain ⟨ho, hc, hq⟩ := hd
      obtain ⟨ho', hc'⟩ := silenceAt_of_ne d a y hy
      refine ⟨ho'.trans ho, hc'.trans hc, fun hst => ?_⟩
      rcases silenceAt_queue d a y with h' | h' <;> rw [h']
      · exact hq hst
      · exact withdrawn_queueSet (hq hst) y
  obtain ⟨ho, hc, hq⟩ := hall
  rw [nodeFallsSilent_eq, (judgeRelease_leaves _).2.1, judgeRelease_outlet, ho, releaseRaise_silenced, ite_self]
  exact ⟨rfl, hc, hq⟩

/-- Any other bay (R50, R54). -/
theorem nodeFallsSilent_outlet_of_not (h : ¬ c.silences a x) : (c.outlet x).alike ((c.nodeFallsSilent a).outlet x)
    ∧ (c.nodeFallsSilent a).pool.computed.get x = c.pool.computed.get x := by
  have hall : let d := forBays (Controller.silenceAt a) c
      d.outlet x = c.outlet x ∧ d.pool.computed.get x = c.pool.computed.get x ∧ d.settings = c.settings := by
    refine forBays_keeps (fun d => d.outlet x = c.outlet x ∧ d.pool.computed.get x = c.pool.computed.get x ∧ d.settings = c.settings)
      (fun y d hd => ?_) ⟨rfl, rfl, rfl⟩
    obtain ⟨ho, hc, hset⟩ := hd
    by_cases hy : y = x
    · rw [hy, silenceAt_of_not]
      · exact ⟨ho, hc, hset⟩
      · unfold Controller.silences
        rwa [bay_eq_of_settings hset, ho]
    · obtain ⟨ho', hc'⟩ := silenceAt_of_ne d a y hy
      obtain ⟨-, -, -, -, hset', -⟩ := silenceAt_leaves d a y
      exact ⟨ho'.trans ho, hc'.trans hc, hset'.trans hset⟩
  obtain ⟨ho, hc, -⟩ := hall
  rw [nodeFallsSilent_eq, (judgeRelease_leaves _).2.1]
  refine ⟨(alike_iff _ _).mpr ?_, hc⟩
  rw [← ho]
  exact judgeRelease_outlet_eq _ x

end

/-! ### A mapped bay at a link loss (R52) -/

/-- What a link loss makes of an outlet of a mapped bay: dark and without timers, its cause and its state before silence by R52, and a held
session ended with LINK_DOWN. -/
structure Outlet.LostLink (now : Nat) (o o' : Outlet) : Prop where
  dark : o'.dark
  timers : o'.noTimers = o'
  linkCause : o.offlineCause ≠ some .MAP_MISMATCH → o'.offlineCause = some .LINK
  mapCause : o.state = .OFFLINE → o.offlineCause = some .MAP_MISMATCH → o'.offlineCause = some .MAP_MISMATCH
  ended : o.session.isSome = true → (o'.summary.map fun y => (y.reason, y.endTime)) = some (.LINK_DOWN, now)
  kept : o.session = none → o'.beforeSilence = if o.acting = .DISABLED ∨ o.acting = .LOCKED then some o.acting else none

theorem lostLink_of_brushed {now : Nat} {o p o' p' : Outlet} (h : o.brushed p) (hl : p.LostLink now o') (h' : o'.brushed p') :
    o.LostLink now p' := by
  obtain ⟨⟨hst, hin, hpe, hse⟩, htimers, hlink, hmap, hended, hkept⟩ := hl
  obtain ⟨k, v, ch, rfl⟩ := h
  obtain ⟨k', v', ch', rfl⟩ := h'
  refine ⟨⟨hst, hin, hpe, ?_⟩, ?_, hlink, hmap, fun hs => hended ?_, fun hs => hkept ?_⟩
  · show o'.session.map _ = none
    rw [hse]
    rfl
  · have hflags : ∀ q : Outlet, q.noTimers = q → ∀ s v ch, Outlet.noTimers { q with session := s, raiseReleased := v, changed := ch } =
        { q with session := s, raiseReleased := v, changed := ch } := fun q hq s v ch => by
      show { q.noTimers with session := s, raiseReleased := v, changed := ch } = _
      rw [hq]
    exact hflags o' htimers _ _ _
  · show (o.session.map _).isSome = true
    rw [Option.isSome_map]
    exact hs
  · show o.session.map _ = none
    rw [hs]
    rfl

theorem keptBeforeSilence_acting (o : Outlet) : keptBeforeSilence (if o.state = .OFFLINE then o.beforeSilence else some o.state) =
    if o.acting = .DISABLED ∨ o.acting = .LOCKED then some o.acting else none := by
  have hkept : ∀ st : OutletState, keptBeforeSilence (some st) = if st = .DISABLED ∨ st = .LOCKED then some st else none := fun st => by
    cases st <;> rfl
  unfold Outlet.acting
  by_cases h : o.state = .OFFLINE
  · rw [if_pos h, if_pos h]
    cases o.beforeSilence with
    | none => rfl
    | some st => exact hkept st
  · rw [if_neg h, if_neg h]
    exact hkept o.state

theorem bayLosesLink_lost {c : Controller} {x : Bay} (h : (c.bay x).map.valid = true) :
    (c.outlet x).LostLink c.run.siteTime ((c.bayLosesLink x).outlet x) := by
  have hdark := bayLosesLink_dark h
  unfold Controller.bayLosesLink at hdark ⊢
  rw [if_pos h] at hdark ⊢
  cases hs : (c.outlet x).session with
  | none =>
    rw [hs] at hdark
    obtain ⟨ch, ho⟩ := updOutlet_outlet_eq c x Outlet.loseLink
    have ho : (((if (none : Option Session).isSome = true then c.endSession x .LINK_DOWN .OFFLINE else c).updOutlet x
      Outlet.loseLink).depart x).outlet x = { (c.outlet x).loseLink with changed := ch } := ho
    refine ⟨hdark, by rw [ho]; rfl, fun hm => ?_, fun hoff hm => ?_, fun hsome => ?_, fun _ => ?_⟩
    · rw [ho]
      exact if_neg fun e => hm e.2
    · rw [ho]
      exact if_pos ⟨hoff, hm⟩
    · rw [hs] at hsome
      exact absurd hsome (by decide)
    · rw [ho]
      exact keptBeforeSilence_acting _
  | some ss =>
    rw [hs] at hdark
    obtain ⟨sm, v, ch, hover⟩ := endSession_outlet_over hs .LINK_DOWN .OFFLINE
    obtain ⟨slot, -, hsummary⟩ := endSession_summary hs .LINK_DOWN .OFFLINE
    obtain ⟨ch', ho⟩ := updOutlet_outlet_eq (c.endSession x .LINK_DOWN .OFFLINE) x Outlet.loseLink
    have ho : (((if (some ss).isSome = true then c.endSession x .LINK_DOWN .OFFLINE else c).updOutlet x
      Outlet.loseLink).depart x).outlet x = { ((c.endSession x .LINK_DOWN .OFFLINE).outlet x).loseLink with changed := ch' } := ho
    have hoff : ((c.endSession x .LINK_DOWN .OFFLINE).outlet x).state = .OFFLINE := by
      rw [hover]
      exact ite_self _
    have hcause : ((c.endSession x .LINK_DOWN .OFFLINE).outlet x).offlineCause = (c.outlet x).offlineCause := by rw [hover]; rfl
    refine ⟨hdark, by rw [ho]; rfl, fun hm => ?_, fun _ hm => ?_, fun _ => ?_, fun hnone => ?_⟩
    · rw [ho]
      exact if_neg fun e => hm (hcause.symm.trans e.2)
    · rw [ho]
      exact if_pos ⟨hoff, hcause.trans hm⟩
    · rw [ho]
      show (((c.endSession x .LINK_DOWN .OFFLINE).outlet x).summary.map _) = _
      rw [hsummary]
      rfl
    · rw [hs] at hnone
      exact absurd hnone (by simp)

theorem bayLosesLink_brushes {c : Controller} {x y : Bay} (hy : y ≠ x) : (c.outlet x).brushed ((c.bayLosesLink y).outlet x) := by
  unfold Controller.bayLosesLink
  split
  · refine (congrArg (Outlet.brushed (c.outlet x)) ((updOutlet_outlet _ y x _).trans (if_neg hy))).mpr ?_
    split
    · exact endSession_brushes (Ne.symm hy) _ _
    · exact brushed_refl _
  · exact brushed_refl _

theorem judgeRelease_brushes (c : Controller) (x : Bay) : (c.outlet x).brushed (c.judgeRelease.outlet x) := by
  obtain ⟨v, hv⟩ := judgeRelease_outlet_eq c x
  exact brushed_of_flags (v := v) (ch := (c.outlet x).changed) hv

/-- Every mapped bay at a link loss (R52). -/
theorem linkLoss_lost {c : Controller} {x : Bay} (h : (c.bay x).map.valid = true) :
    (c.outlet x).LostLink c.run.siteTime (c.linkLoss.outlet x) := by
  have hall : (c.outlet x).LostLink c.run.siteTime ((forBays Controller.bayLosesLink c).outlet x) := by
    refine forBays_at (x := x) (A := fun d => (c.outlet x).brushed (d.outlet x) ∧ c.quietBlocks d)
      (B := fun d => (c.outlet x).LostLink c.run.siteTime (d.outlet x)) (fun y d hy hd => ?_) (fun d hd => ?_) (fun y d hy hd => ?_)
      ⟨brushed_refl _, rfl, rfl, rfl, rfl⟩
    · exact ⟨brushed_trans hd.1 (bayLosesLink_brushes hy), quietBlocks_trans hd.2 (bayLosesLink_work d y).quiet⟩
    · obtain ⟨hb, -, hset, -, hrun⟩ := hd
      have hlost := bayLosesLink_lost (c := d) (x := x) (by rwa [bay_eq_of_settings hset])
      rw [hrun] at hlost
      exact lostLink_of_brushed hb hlost (brushed_refl _)
    · exact lostLink_of_brushed (brushed_refl _) hd (bayLosesLink_brushes hy)
  exact lostLink_of_brushed (brushed_refl _) hall (judgeRelease_brushes _ x)

/-! ### What a link loss leaves of the site port and of the round timer -/

/-- The site port as the ends of sessions leave it: no fault flag is set, and no notice is raised but of RECEIPT and OUTLET (R21, R39). -/
structure Controller.PortKept (c d : Controller) : Prop where
  faults : d.port.faults = c.port.faults
  raised : ∀ x : Cause, x.source ≠ .RECEIPT → x.source ≠ .OUTLET → c.raised x → d.raised x

theorem portKept_of_port {c d : Controller} (h : d.port = c.port) : c.PortKept d :=
  ⟨by rw [h], fun x _ _ hx => (raised_congr h x).mpr hx⟩

theorem portKept_trans {c d e : Controller} (h : c.PortKept d) (h' : d.PortKept e) : c.PortKept e :=
  ⟨h'.faults.trans h.faults, fun x hr ho hx => h'.raised x hr ho (h.raised x hr ho hx)⟩

theorem sourceIx_injective {x y : Source} (h : x.ix = y.ix) : x = y := by
  revert h
  cases x <;> cases y <;> decide

theorem portKept_raise (c : Controller) {x : Cause} (hx : x.source = .RECEIPT ∨ x.source = .OUTLET) : c.PortKept (c.raise x) :=
  ⟨rfl, fun y hr ho hy => raised_raise_of_ne hy fun e => by
    have hs := sourceIx_injective e
    rcases hx with h | h
    · exact hr (hs.symm.trans h)
    · exact ho (hs.symm.trans h)⟩

theorem releaseSlot_portKept (c : Controller) (slot : Option SlotNo) (r : EndReason) : c.PortKept (c.releaseSlot slot r) := by
  cases slot with
  | none => exact portKept_of_port rfl
  | some k =>
    by_cases hb : (c.record k).state = .BOUND
    · exact portKept_trans (portKept_raise c (.inl rfl)) (portKept_of_port (unbind_port hb _ .receiptUnbind))
    · exact portKept_of_port (congrArg Controller.port (if_neg hb))

theorem endSession_portKept (c : Controller) (b : Bay) (r : EndReason) (st : OutletState) : c.PortKept (c.endSession b r st) := by
  cases hs : (c.outlet b).session with
  | none => exact portKept_of_port (by rw [endSession_none hs])
  | some ss =>
    have hrelease := releaseSlot_portKept (c.updOutlet b Outlet.closeTail) ss.boundSlot r
    refine portKept_trans (portKept_trans (portKept_of_port (d := c.updOutlet b Outlet.closeTail) rfl) hrelease)
      (portKept_trans (portKept_raise _ (x := .outletSessionEnd) (.inr rfl)) (portKept_of_port (endSession_port hs r st)))

theorem linkLoss_portKept (c : Controller) : c.PortKept c.linkLoss := by
  have hrelease : ∀ d : Controller, d.PortKept d.judgeRelease := fun d => by
    obtain ⟨-, -, -, -, -, hport, -⟩ := judgeRelease_leaves d
    exact portKept_of_port hport
  refine portKept_trans (forBays_keeps (fun d => c.PortKept d) (fun b d hd => portKept_trans hd ?_) (portKept_of_port rfl)) (hrelease _)
  unfold Controller.bayLosesLink
  split
  · split
    · exact portKept_trans (endSession_portKept d b _ _) (portKept_of_port rfl)
    · exact portKept_of_port rfl
  · exact portKept_of_port rfl

end Sys2Proof.Machine
end

section
/-! SUPPORT. A missed POLL (R137), and what follows it: the next visit, the attach probe, or the collapse of the link (R128, R133, R139, R140). -/

namespace Sys2Proof.Machine

/-! ### A missed POLL (R137) -/

/-- The third miss of a PRESENT node. -/
def Node.falls (n : Node) : Prop := n.state = .PRESENT ∧ 2 ≤ n.misses

/-- The node's entry after a missed POLL (R137). -/
def Node.missed (n : Node) (st : NodeState) : Node := { n with misses := min 3 (n.misses + 1), state := st }

theorem falls_iff (n : Node) : n.falls ↔ min 3 (n.misses + 1) = 3 ∧ n.state = .PRESENT := by
  have hm : 2 ≤ n.misses ↔ min 3 (n.misses + 1) = 3 := by omega
  rw [Node.falls, hm, and_comm]

/-- The node SILENT with its notice and flag, before its bays are told (R137). -/
def Controller.marksSilent (a : Addr) (c : Controller) : Controller :=
  ((c.updNode a fun n => n.missed .SILENT).raise .nodeSilent).setFault .NODE_SILENT

section
variable {c : Controller} {a : Addr}

theorem miss_of_stays (h : ¬ (c.node a).falls) : c.miss a = c.updNode a fun n => n.missed n.state := by
  unfold Controller.miss
  rw [falls_iff] at h
  exact if_neg h

theorem miss_of_falls (h : (c.node a).falls) : c.miss a =
    if (c.node a).kind = some .PEDESTAL ∧ c.link.finalCycle = false then (c.marksSilent a).nodeFallsSilent a else c.marksSilent a := by
  unfold Controller.miss
  rw [falls_iff] at h
  exact if_pos h

end

/-- What a missed POLL leaves of a controller: of the link all but the node's entry, the record table, and storage, settings, lines and run
part. -/
structure Controller.Missed (c : Controller) (a : Addr) (d : Controller) : Prop where
  link : d.link = { c.link with nodes := d.link.nodes }
  node : d.node a = (c.node a).missed (d.node a).state
  others : ∀ x, x ≠ a → d.node x = c.node x
  credit : d.credit = c.credit
  quiet : c.quietBlocks d
  roundTimer : d.pool.roundTimer = c.pool.roundTimer

section
variable {c : Controller} {a : Addr}

theorem updNode_missed (st : NodeState) : c.Missed a (c.updNode a fun n => n.missed st) where
  link := rfl
  node := by
    have hself : (c.updNode a fun n => n.missed st).node a = (c.node a).missed st := Table.get_set_self _ _ _
    rw [hself]
    rfl
  others x hx := Table.get_set_of_ne _ _ (Ne.symm hx)
  credit := rfl
  quiet := ⟨rfl, rfl, rfl, rfl⟩
  roundTimer := rfl

theorem marksSilent_node : (c.marksSilent a).node a = (c.node a).missed .SILENT := Table.get_set_self _ _ _

theorem marksSilent_raised : (c.marksSilent a).raised .nodeSilent :=
  raised_raise (c.updNode a fun n => n.missed .SILENT) .nodeSilent

theorem marksSilent_flagged : (c.marksSilent a).flagged .NODE_SILENT c.run.siteTime c.run.timeValid :=
  flagged_setFault ((c.updNode a fun n => n.missed .SILENT).raise .nodeSilent) .NODE_SILENT

/-- Whether the node falls silent or not, and whether its bays are told. -/
theorem miss_missed : c.Missed a (c.miss a) := by
  by_cases h : (c.node a).falls
  · have hmarks : c.Missed a (c.marksSilent a) := by
      obtain ⟨hl, hn, ho, hc, hq, hr⟩ := updNode_missed (c := c) (a := a) .SILENT
      exact ⟨hl, hn, ho, hc, hq, hr⟩
    rw [miss_of_falls h]
    split
    · obtain ⟨hcr, hli, -, hq, hround, -⟩ := nodeFallsSilent_leaves (c.marksSilent a) a
      have hnode : ∀ x, ((c.marksSilent a).nodeFallsSilent a).node x = (c.marksSilent a).node x := fun x => node_eq_of_link hli x
      refine ⟨by rw [hli]; exact hmarks.link, ?_, fun x hx => (hnode x).trans (hmarks.others x hx), hcr.trans hmarks.credit,
        quietBlocks_trans hmarks.quiet hq, hround.trans hmarks.roundTimer⟩
      rw [hnode a]
      exact hmarks.node
    · exact hmarks
  · rw [miss_of_stays h]
    exact updNode_missed _

/-- A node that falls silent is known as before, and SILENT (R137). -/
theorem miss_state :
    ((c.node a).falls → ((c.miss a).node a).state = .SILENT) ∧ (¬ (c.node a).falls → ((c.miss a).node a).state = (c.node a).state) := by
  refine ⟨fun h => ?_, fun h => ?_⟩
  · rw [miss_of_falls h]
    split
    · rw [node_eq_of_link (nodeFallsSilent_leaves (c.marksSilent a) a).2.1, marksSilent_node]
      rfl
    · rw [marksSilent_node]
      rfl
  · have hself : (c.updNode a fun n => n.missed n.state).node a = (c.node a).missed (c.node a).state := Table.get_set_self _ _ _
    rw [miss_of_stays h, hself]
    rfl

theorem miss_port_of_stays (h : ¬ (c.node a).falls) : (c.miss a).port = c.port := by
  rw [miss_of_stays h]
  rfl

/-- The NODE notice and the fault flag of a node that falls silent (R137). -/
theorem miss_reports (h : (c.node a).falls) :
    (c.miss a).raised .nodeSilent ∧ (c.miss a).flagged .NODE_SILENT c.run.siteTime c.run.timeValid := by
  have hport : (c.miss a).port = (c.marksSilent a).port := by
    rw [miss_of_falls h]
    split
    · obtain ⟨-, -, hport, -⟩ := nodeFallsSilent_leaves (c.marksSilent a) a
      exact hport
    · rfl
  exact ⟨(raised_congr hport _).mpr marksSilent_raised, (flagged_congr (congrArg Port.faults hport)).mpr marksSilent_flagged⟩

theorem miss_buffer : (c.miss a).port.buffer = c.port.buffer := by
  by_cases h : (c.node a).falls
  · rw [miss_of_falls h]
    split
    · obtain ⟨-, -, hport, -⟩ := nodeFallsSilent_leaves (c.marksSilent a) a
      rw [hport]
      rfl
    · rfl
  · rw [miss_port_of_stays h]

/-- Only the silence of a pedestal reaches outlets and pool. -/
theorem miss_outlets_of_not (h : ¬ ((c.node a).falls ∧ (c.node a).kind = some .PEDESTAL ∧ c.link.finalCycle = false)) :
    (c.miss a).outlets = c.outlets ∧ (c.miss a).pool = c.pool := by
  by_cases hfalls : (c.node a).falls
  · rw [miss_of_falls hfalls, if_neg fun hk => h ⟨hfalls, hk⟩]
    exact ⟨rfl, rfl⟩
  · rw [miss_of_stays hfalls]
    exact ⟨rfl, rfl⟩

theorem miss_pedestal (hf : c.link.finalCycle = false) (h : (c.node a).falls) (hk : (c.node a).kind = some .PEDESTAL) :
    c.miss a = (c.marksSilent a).nodeFallsSilent a := by
  rw [miss_of_falls h, if_pos ⟨hk, hf⟩]

/-- The silence of a pedestal at its bays and at the others (R50). -/
theorem miss_bays (hf : c.link.finalCycle = false) (h : (c.node a).falls) (hk : (c.node a).kind = some .PEDESTAL) :
    (∀ x, c.silences a x → (c.miss a).outlet x = (c.outlet x).silenced c.inForce.tRes ∧ (c.miss a).pool.computed.get x = 0
      ∧ ((c.outlet x).state = .QUEUED → withdrawn x (c.miss a).pool.queue))
    ∧ (∀ x, ¬ c.silences a x → (c.outlet x).alike ((c.miss a).outlet x) ∧ (c.miss a).pool.computed.get x = c.pool.computed.get x)
    ∧ ((c.miss a).pool.queue.map fun e => (e.bay, e.priority)) = c.pool.queue.map fun e => (e.bay, e.priority) := by
  obtain ⟨-, -, -, -, -, hqueue⟩ := nodeFallsSilent_leaves (c.marksSilent a) a
  rw [miss_pedestal hf h hk]
  exact ⟨fun x hx => nodeFallsSilent_outlet (c := c.marksSilent a) hx, fun x hx => nodeFallsSilent_outlet_of_not (c := c.marksSilent a) hx,
    hqueue⟩

/-- Each bay after a missed POLL: gone OFFLINE with the silence of its pedestal, or as before but for the release of a RAISE (R50, R54). -/
theorem miss_outlet (x : Bay) :
    (c.outlet x).alike ((c.miss a).outlet x)
      ∨ (c.outlet x).state ≠ .OFFLINE ∧ (c.miss a).outlet x = (c.outlet x).silenced c.inForce.tRes := by
  by_cases h : (c.node a).falls ∧ (c.node a).kind = some .PEDESTAL ∧ c.link.finalCycle = false
  · obtain ⟨hfalls, hk, hf⟩ := h
    obtain ⟨hsilenced, hothers, -⟩ := miss_bays hf hfalls hk
    by_cases hs : c.silences a x
    · exact .inr ⟨hs.2.2, (hsilenced x hs).1⟩
    · exact .inl (hothers x hs).1
  · left
    rw [outlet_eq_of_outlets (miss_outlets_of_not h).1]
    exact (alike_iff _ _).mpr ⟨_, rfl⟩

end

/-! ### The row (R129, R137) -/

section
variable {s : State} (htaking : s.ctl.taking = true) {a : Addr} (hw : s.ctl.link.awaited = some (.poll a))
include htaking hw

theorem exec_statusTimeout : exec .statusTimeout s = .next (s.put ((s.ctl.miss a).exchangeDone (Controller.visitFrom (a.val + 1)))) := by
  show execStatusTimeout s = _
  simp only [execStatusTimeout, event_taking _ htaking, hw, State.put]

/-- In an ordinary cycle the visits go on from the next address. -/
theorem exec_statusTimeout_ordinary (ho : s.ctl.ordinaryCycle) : exec .statusTimeout s =
    .next (s.put (((s.ctl.miss a).updLink fun l => { l with exchange := none }).visitFrom (a.val + 1))) := by
  obtain ⟨-, hstop, hrestart, hphase, hf⟩ := ho
  have hlink := (miss_missed (c := s.ctl) (a := a)).link
  rw [exec_statusTimeout htaking hw, exchangeDone_goes_on]
  · rw [hlink]
    exact hstop
  · rw [hlink]
    exact hrestart
  · rw [hlink, hphase]
    decide

end

/-! ### The visits that follow a missed POLL (R128, R133) -/

section
variable {c : Controller} {a : Addr} (hf : c.link.finalCycle = false)
include hf

theorem miss_visits (h : (∃ x, x ≠ a ∧ (c.node x).state = .PRESENT) ∨ ((c.node a).state = .PRESENT ∧ ¬ (c.node a).falls)
      ∨ ∃ x, a < x ∧ (c.node x).known = true) :
    let d := (c.miss a).updLink fun l => { l with exchange := none }
    c.visitsGoOn (d.visitFrom (a.val + 1)) (a.val + 1) ∧ d.NextFrame (d.visitFrom (a.val + 1)) := by
  have hm := miss_missed (c := c) (a := a)
  refine visitFrom_next _ ?_ ?_ ?_
  · show (c.miss a).link.finalCycle = false
    rw [hm.link]
    exact hf
  · rcases h with ⟨x, hxa, hx⟩ | ⟨hp, hstays⟩ | ⟨x, hax, hx⟩
    · exact .inl ⟨x, (congrArg Node.state (hm.others x hxa)).trans hx⟩
    · exact .inl ⟨a, (miss_state.2 hstays).trans hp⟩
    · exact .inr ⟨x, hax, (congrArg Node.known (hm.others x (Ne.symm (ne_of_lt hax)))).trans hx⟩
  · show c.link.probe = (c.miss a).link.probe
    rw [hm.link]

end

/-! ### The collapse check (R139, R140) -/

section
variable {c : Controller}

/-- Where no node is PRESENT and one is SILENT, the all-silent count rises (R139). -/
theorem allSilentAfter_of_silent {a : Addr} (hs : (c.node a).state = .SILENT) (hp : ∀ x, (c.node x).state ≠ .PRESENT) :
    c.link.allSilentAfter = c.link.allSilent + 1 := by
  have hknown : c.link.nodes.data.any Node.known = true := (Table.any_data _ _).mpr ⟨a, by
    show (c.node a).known = true
    unfold Node.known
    rw [hs]
    rfl⟩
  have hpresent : (c.link.nodes.data.any fun n => n.state == .PRESENT) = false := by
    rw [← Bool.not_eq_true, Table.any_data]
    rintro ⟨x, hx⟩
    exact hp x (beq_iff_eq.mp hx)
  unfold Link.allSilentAfter
  rw [hknown, hpresent]
  rfl

theorem collapseStep_cases (c : Controller) :
    let d := c.updLink fun l => { l with allSilent := l.allSilentAfter }
    (c.link.allSilentAfter < 3 ∧ c.collapseStep = d.probeStep) ∨ (3 ≤ c.link.allSilentAfter ∧ c.collapseStep = d.enterDown) := by
  rcases Nat.lt_or_ge c.link.allSilentAfter 3 with h | h
  · exact .inl ⟨h, if_neg (Nat.not_le.mpr h)⟩
  · exact .inr ⟨h, if_pos h⟩

/-- The link on its way DOWN, before the outlets lose it (R140). -/
def Controller.downed (c : Controller) : Controller := ((c.updLink (Link.quiet .DOWN)).setFault .LINK_DOWN).raise .linkDown

/-- Pool and storage at the entry to DOWN (R85, R101). -/
def Controller.haltsPool (c : Controller) : Controller := { c with pool := c.pool.halt, storage := c.storage.loseLink }

theorem enterDown_eq (c : Controller) : c.enterDown = c.downed.linkLoss.haltsPool := rfl

/-- The entry to DOWN but for the outlets, read off what a link loss leaves alone. -/
theorem haltsPool_of_work {c d : Controller} (h : c.OutletWork d) : d.haltsPool.pool = d.pool.halt
    ∧ d.haltsPool.storage = c.storage.loseLink ∧ d.haltsPool.settings = c.settings ∧ d.haltsPool.lines = c.lines
    ∧ d.haltsPool.run = c.run := by
  obtain ⟨hst, hse, hli, hru⟩ := h.quiet
  exact ⟨rfl, congrArg Storage.loseLink hst, hse, hli, hru⟩

theorem enterDown_link (c : Controller) : c.enterDown.link = c.link.quiet .DOWN := by
  have hlink := linkLoss_link c.downed
  rw [enterDown_eq]
  generalize c.downed.linkLoss = d at hlink
  exact hlink

theorem enterDown_blocks (c : Controller) : c.enterDown.pool = c.downed.linkLoss.pool.halt ∧ c.enterDown.storage = c.storage.loseLink
    ∧ c.enterDown.settings = c.settings ∧ c.enterDown.lines = c.lines ∧ c.enterDown.run = c.run := by
  rw [enterDown_eq]
  exact haltsPool_of_work (c := c.downed) (linkLoss_work c.downed)

/-- The LINK notice and the fault flag of a link gone DOWN (R140). -/
theorem enterDown_reports (c : Controller) :
    c.enterDown.raised .linkDown ∧ c.enterDown.flagged .LINK_DOWN c.run.siteTime c.run.timeValid := by
  obtain ⟨hfaults, hraised⟩ := linkLoss_portKept c.downed
  have hlinkDown := hraised .linkDown (by decide) (by decide) (raised_raise _ _)
  rw [enterDown_eq]
  generalize c.downed.linkLoss = d at hfaults hlinkDown
  exact ⟨hlinkDown, (flagged_congr hfaults).mpr (flagged_setFault (c.updLink (Link.quiet .DOWN)) .LINK_DOWN)⟩

theorem enterDown_lost {x : Bay} (h : (c.bay x).map.valid = true) : (c.outlet x).LostLink c.run.siteTime (c.enterDown.outlet x) := by
  have hlost := linkLoss_lost (c := c.downed) h
  rw [enterDown_eq]
  generalize c.downed.linkLoss = d at hlost
  exact hlost

end

theorem noTimers_none {o : Outlet} (h : o.noTimers = o) : o.overdraw = none ∧ o.startTimer = none ∧ o.fundingWait = none
    ∧ o.holdOff = none ∧ o.pauseMinimum = none ∧ o.silenceHold = none := by
  rw [← h]
  exact ⟨rfl, rfl, rfl, rfl, rfl, rfl⟩

theorem lostLink_of_alike {now : Nat} {o p o' : Outlet} (h : o.alike p) (hl : p.LostLink now o') : o.LostLink now o' := by
  obtain ⟨v, rfl⟩ := (alike_iff _ _).mp h
  exact lostLink_of_brushed (brushed_of_flags (v := v) (ch := o.changed) rfl) hl (brushed_refl _)

/-- A bay that its node's silence has taken OFFLINE loses the link as it would have done before it (R50, R52). -/
theorem lostLink_of_silenced {now tRes : Nat} {o o' : Outlet} (h : o.state ≠ .OFFLINE) (hl : (o.silenced tRes).LostLink now o') :
    o.LostLink now o' := by
  obtain ⟨hdark, htimers, hlink, -, hended, hkept⟩ := hl
  refine ⟨hdark, htimers, fun _ => hlink (fun e => nomatch e), fun hoff => absurd hoff h, fun hs => hended ?_, fun hs => ?_⟩
  · exact (Option.isSome_map).trans hs
  · have hacting : o.acting = o.state := if_neg h
    rw [hacting]
    exact hkept (congrArg (Option.map _) hs)

/-! ### O42 -/

section
variable {s : State} (htaking : s.ctl.taking = true) (ho : s.ctl.ordinaryCycle) {a : Addr} (hw : s.ctl.link.awaited = some (.poll a))
include htaking ho hw

/-- A missed POLL after which the visits of the cycle go on (R128, R137). -/
theorem statusTimeout_goesOn (h : (∃ x, x ≠ a ∧ (s.ctl.node x).state = .PRESENT) ∨ ((s.ctl.node a).state = .PRESENT ∧ ¬ (s.ctl.node a).falls)
      ∨ ∃ x, a < x ∧ (s.ctl.node x).known = true) :
    ∃ t, exec .statusTimeout s = .next t ∧ (∃ u, t.ctl.node a = { (s.ctl.miss a).node a with reportUsed := u })
      ∧ t.ctl.port = (s.ctl.miss a).port ∧ t.ctl.outlets = (s.ctl.miss a).outlets ∧ t.ctl.pool = (s.ctl.miss a).pool
      ∧ t.ctl.link.state = .RUNNING ∧ s.ctl.visitsGoOn t.ctl (a.val + 1) ∧ t.ctl.credit = s.ctl.credit ∧ s.ctl.quietBlocks t.ctl := by
  have hexec := exec_statusTimeout_ordinary htaking hw ho
  obtain ⟨hrunning, -, -, -, hf⟩ := ho
  have hm := miss_missed (c := s.ctl) (a := a)
  obtain ⟨hgoes, hframe⟩ := miss_visits hf h
  obtain ⟨hcr, hou, hpo, hport, hq⟩ := nextFrame_blocks hframe
  refine ⟨_, hexec, hframe.flags.node a, hport, hou, hpo, ?_, hgoes, hcr.trans hm.credit, quietBlocks_trans hm.quiet hq⟩
  show Link.state (Controller.link (Controller.visitFrom _ _)) = _
  rw [hframe.link]
  show (s.ctl.miss a).link.state = _
  rw [hm.link]
  exact hrunning

/-- A missed POLL that ends the visits of a cycle in which no node is PRESENT (R139). -/
theorem statusTimeout_collapses (hp : ∀ x, x ≠ a → (s.ctl.node x).state ≠ .PRESENT) (hlast : ∀ x, a < x → (s.ctl.node x).known = false)
    (hs : (s.ctl.node a).state = .SILENT ∨ (s.ctl.node a).falls) :
    ((s.ctl.miss a).node a).state = .SILENT
      ∧ exec .statusTimeout s = .next (s.put ((s.ctl.miss a).updLink fun l => { l with exchange := none }).collapseStep)
      ∧ ((s.ctl.miss a).updLink fun l => { l with exchange := none }).link.allSilentAfter = s.ctl.link.allSilent + 1 := by
  have hexec := exec_statusTimeout_ordinary htaking hw ho
  obtain ⟨-, -, -, -, hf⟩ := ho
  have hm := miss_missed (c := s.ctl) (a := a)
  obtain ⟨hfalls, hstays⟩ := miss_state (c := s.ctl) (a := a)
  have hsilent : ((s.ctl.miss a).node a).state = .SILENT := by
    by_cases h : (s.ctl.node a).falls
    · exact hfalls h
    · exact (hstays h).trans (hs.resolve_right h)
  refine ⟨hsilent, ?_, ?_⟩
  · rw [hexec, visitFrom_over (noneKnownFrom_iff.mpr fun x hx => ?_)]
    · refine congrArg (fun c => Host.Outcome.next (s.put c)) (if_neg ?_)
      show ¬ (s.ctl.miss a).link.finalCycle = true
      rw [hm.link, Bool.not_eq_true]
      exact hf
    · exact (congrArg Node.known (hm.others x (Ne.symm (ne_of_lt hx)))).trans (hlast x hx)
  · have hcount : (s.ctl.miss a).link.allSilent = s.ctl.link.allSilent := by rw [hm.link]
    refine (allSilentAfter_of_silent (a := a) hsilent fun x hx => ?_).trans (congrArg (· + 1) hcount)
    by_cases hxa : x = a
    · subst hxa
      exact absurd (hsilent.symm.trans hx) (by decide)
    · exact hp x hxa ((congrArg Node.state (hm.others x hxa)).symm.trans hx)

end

/-- Below three silent cycles the attach probe follows (R133, R139). -/
theorem collapseStep_probes {c : Controller} (h : c.link.allSilentAfter < 3) :
    c.collapseStep.link.allSilent = c.link.allSilentAfter ∧ c.collapseStep.link.exchange.isSome = true
      ∧ (c.updLink fun l => { l with allSilent := l.allSilentAfter }).NextFrame c.collapseStep := by
  rcases collapseStep_cases c with ⟨-, heq⟩ | ⟨hge, -⟩
  · rw [heq]
    refine ⟨probeStep_allSilent _, ?_, probeStep_nextFrame _⟩
    unfold Controller.probeStep
    split <;> rfl
  · exact absurd h (Nat.not_lt.mpr hge)

/-- A pool without a round, a queue and computed allocations (R85). -/
def Pool.empty (p : Pool) : Prop := p.roundTimer = none ∧ p.queue = [] ∧ (∀ b : Bay, p.computed.get b = 0) ∧ p.firstRound = true

theorem halt_empty (p : Pool) : p.halt.empty := ⟨rfl, rfl, fun b => Table.get_replicate 0 b, rfl⟩

/-- At three silent cycles the link goes DOWN (R139, R140). -/
theorem collapseStep_down {c : Controller} (h : 3 ≤ c.link.allSilentAfter) :
    c.collapseStep.link = Link.quiet .DOWN { c.link with allSilent := c.link.allSilentAfter }
      ∧ (c.collapseStep.raised .linkDown ∧ c.collapseStep.flagged .LINK_DOWN c.run.siteTime c.run.timeValid)
      ∧ c.collapseStep.pool.empty ∧ c.collapseStep.storage = c.storage.loseLink ∧ c.collapseStep.settings = c.settings
      ∧ c.collapseStep.lines = c.lines ∧ c.collapseStep.run = c.run
      ∧ ∀ x, (c.bay x).map.valid = true → (c.outlet x).LostLink c.run.siteTime (c.collapseStep.outlet x) := by
  rcases collapseStep_cases c with ⟨hlt, -⟩ | ⟨-, heq⟩
  · exact absurd hlt (Nat.not_lt.mpr h)
  · obtain ⟨hpo, hblocks⟩ := enterDown_blocks (c.updLink fun l => { l with allSilent := l.allSilentAfter })
    rw [heq]
    obtain ⟨hst, hse, hli, hru⟩ := hblocks
    exact ⟨enterDown_link _, enterDown_reports _, hpo ▸ halt_empty _, hst, hse, hli, hru, fun x hx =>
      enterDown_lost (c := c.updLink fun l => { l with allSilent := l.allSilentAfter }) hx⟩

/-- Whether the silence of its node has reached a bay or not, it loses the link alike (R50, R52). -/
theorem miss_lost {c : Controller} {a : Addr} {x : Bay} {now : Nat} {o' : Outlet}
    (h : ((c.miss a).outlet x).LostLink now o') : (c.outlet x).LostLink now o' := by
  rcases miss_outlet (c := c) (a := a) x with halike | ⟨hst, hsilenced⟩
  · exact lostLink_of_alike halike h
  · rw [hsilenced] at h
    exact lostLink_of_silenced hst h

/-- Settles O42: a missed POLL is split by what follows it, the rest of the cycle or the collapse check. -/
theorem missedPollsMakeANodeSilent : Obligations.MissedPollsMakeANodeSilent := by
  intro s a htaking ho hw
  obtain ⟨hstate, -, -, -, hf⟩ := id ho
  have hm := miss_missed (c := s.ctl) (a := a)
  obtain ⟨hfalls, hstays⟩ := miss_state (c := s.ctl) (a := a)
  constructor
  · intro h
    obtain ⟨t, hexec, ⟨u, hn⟩, hport, hou, hpo, hrunning, hgoes, hcr, hq⟩ := statusTimeout_goesOn htaking ho hw h
    have hnode : (t.ctl.node a).state = ((s.ctl.miss a).node a).state := by rw [hn]
    refine ⟨t, hexec, ?_, ?_, fun hf => ⟨hnode.trans (hstays hf), hport.trans (miss_port_of_stays hf)⟩, fun hfl => ?_, fun hnot => ?_,
      fun hfl hk => ?_, hrunning, hgoes, hcr, hq⟩
    · rw [hn, hm.node]
      rfl
    · rw [hn, hm.node]
      rfl
    · obtain ⟨hraised, hflagged⟩ := miss_reports (a := a) hfl
      exact ⟨hnode.trans (hfalls hfl), (raised_congr hport _).mpr hraised, (flagged_congr (congrArg Port.faults hport)).mpr hflagged⟩
    · obtain ⟨hou', hpo'⟩ := miss_outlets_of_not (c := s.ctl) (a := a) fun ⟨hfl, hk, _⟩ => hnot.elim (absurd hfl) (absurd hk)
      exact ⟨hou.trans hou', hpo.trans hpo'⟩
    · obtain ⟨hsilenced, hothers, hqueue⟩ := miss_bays (a := a) hf hfl hk
      simp only [outlet_eq_of_outlets hou, hpo]
      exact ⟨fun b hb hu hoff => hsilenced b ⟨hb, hu, hoff⟩, fun b hb => hothers b fun ⟨hmap, hu, hoff⟩ =>
        hb.elim (absurd hmap) fun h => h.elim hu hoff, hqueue⟩
  · intro hp hlast hs
    obtain ⟨hsilent, hexec, hafter⟩ := statusTimeout_collapses htaking ho hw hp hlast hs
    have hrunning : (s.ctl.miss a).link.state = .RUNNING := by
      rw [hm.link]
      exact hstate
    have hlost : ∀ x now o', ((s.ctl.miss a).outlet x).LostLink now o' → (s.ctl.outlet x).LostLink now o' := fun x now o' => miss_lost
    obtain ⟨hst, hse, hli, hru⟩ := hm.quiet
    have hothers := hm.others
    rw [show s.ctl.storage = (s.ctl.miss a).storage from hst.symm]
    have hbay : ∀ x, s.ctl.bay x = (s.ctl.miss a).bay x := fun x => (bay_eq_of_settings hse x).symm
    generalize s.ctl.miss a = d at *
    rcases Nat.lt_or_ge (s.ctl.link.allSilent + 1) 3 with hlt | hge
    · obtain ⟨hcount, hex, hframe⟩ := collapseStep_probes (hafter ▸ hlt)
      obtain ⟨u, hn⟩ := hframe.flags.node a
      obtain ⟨-, -, -, -, -, hse', hli', hru'⟩ := nextFrame_blocks hframe
      refine ⟨_, hexec, ?_, hru'.trans hru, hse'.trans hse, hli'.trans hli, hcount.trans hafter, fun _ => ⟨?_, hex⟩,
        fun h => absurd hlt (Nat.not_lt.mpr h)⟩
      · rw [show Controller.node _ a = _ from hn]
        exact hsilent
      · rw [show Controller.link _ = _ from hframe.link]
        exact hrunning
    · obtain ⟨hlink, ⟨hraised, hflagged⟩, hpool, hst', hse', hli', hru', houtlets⟩ := collapseStep_down (hafter ▸ hge)
      obtain ⟨hround, hqueue, hcomputed, hfirst⟩ := hpool
      have hnode : ∀ x, Controller.node _ x = d.node x := fun x => congrArg (fun l => l.nodes.get x) hlink
      refine ⟨_, hexec, (congrArg Node.state (hnode a)).trans hsilent, hru'.trans hru, hse'.trans hse, hli'.trans hli, ?_,
        fun h => absurd h (Nat.not_lt.mpr hge), fun _ => ⟨congrArg Link.state hlink, congrArg Link.exchange hlink,
          fun x hx => (hnode x).trans (hothers x hx), hraised, ?_, hround, hqueue, hcomputed, hfirst, hst', fun x hx => ?_⟩⟩
      · exact (congrArg Link.allSilent hlink).trans hafter
      · rw [← hru]
        exact hflagged
      · obtain ⟨⟨hoff, hin, hpe, hsess⟩, htimers, hcause, hmap, hended, hkept⟩ := hlost x _ _ (houtlets x (by rwa [hbay] at hx))
        obtain ⟨hovd, hstart, hwait, hoffHold, hmin, hsilence⟩ := noTimers_none htimers
        refine ⟨hoff, hsess, hin, hpe, hovd, hstart, hwait, hoffHold, hmin, hsilence, hcause, hmap, fun h => ?_, hkept⟩
        rw [← hru]
        exact hended h

end Sys2Proof.Machine
end

section
/-! SUPPORT. The round timer is no part of the work on outlets: it stands over the end of a session, a STATUS, an echo, an entry of a node and a
link loss (R64, R85). -/

namespace Sys2Proof.Machine

section
variable (c : Controller) (b : Bay)

theorem judgeRelease_roundTimer : c.judgeRelease.pool.roundTimer = c.pool.roundTimer := congrArg Pool.roundTimer (judgeRelease_leaves c).2.1
theorem markTarget_roundTimer (w : Nat) : (c.markTarget b w).pool.roundTimer = c.pool.roundTimer :=
  congrArg Pool.roundTimer (markTarget_leaves c b w).2.1

theorem enqueue_roundTimer : (c.enqueue b).pool.roundTimer = c.pool.roundTimer := by
  unfold Controller.enqueue
  split <;> rfl

theorem endSession_roundTimer (r : EndReason) (st : OutletState) : (c.endSession b r st).pool.roundTimer = c.pool.roundTimer := by
  cases hs : (c.outlet b).session with
  | none => rw [endSession_none hs]
  | some ss => rw [endSession_pool hs]

theorem addReason_roundTimer (r : PauseReason) : (c.addReason b r).pool.roundTimer = c.pool.roundTimer := by
  unfold Controller.addReason
  dsimp only
  split
  · rfl
  · split
    · exact (judgeRelease_roundTimer _).trans (markTarget_roundTimer _ b 0)
    · exact (judgeRelease_roundTimer _).trans (markTarget_roundTimer _ b 0)
    · exact (judgeRelease_roundTimer _).trans (markTarget_roundTimer _ b 0)
    · rfl
    · rfl

theorem removeReason_roundTimer (r : PauseReason) : (c.removeReason b r).pool.roundTimer = c.pool.roundTimer := by
  unfold Controller.removeReason
  dsimp only
  split
  · rfl
  · split
    · rfl
    · split
      · rfl
      · split
        · rfl
        · exact (judgeRelease_roundTimer _).trans ((markTarget_roundTimer _ b 0).trans (enqueue_roundTimer _ b))

theorem heard_roundTimer (plugged : Bool) : (c.heard b plugged).pool.roundTimer = c.pool.roundTimer := by
  have hback : ∀ st : OutletState, (if st = .QUEUED then (c.updOutlet b (Outlet.restore st)).enqueue b
      else c.updOutlet b (Outlet.restore st)).pool.roundTimer = c.pool.roundTimer := fun st => by
    split
    · exact enqueue_roundTimer _ b
    · rfl
  unfold Controller.heard
  dsimp only
  split
  · split
    · exact hback _
    · exact (judgeRelease_roundTimer _).trans ((markTarget_roundTimer _ b 0).trans (hback _))
  · rfl

theorem fault_roundTimer (cause : FaultCause) : (c.fault b cause).pool.roundTimer = c.pool.roundTimer := by
  have hraise : ∀ d : Controller, (d.raiseFault b).pool = d.pool := fun d => by
    obtain ⟨-, -, hpool, -⟩ := raiseFault_leaves d b
    exact hpool
  rw [fault_eq, hraise]
  exact (judgeRelease_roundTimer _).trans ((markTarget_roundTimer _ b 0).trans (endSession_roundTimer c b _ _))

theorem meter_roundTimer (reading stamp : Nat) : (c.meter b reading stamp).pool.roundTimer = c.pool.roundTimer :=
  congrArg Pool.roundTimer (meter_leaves c b reading stamp).2.1

theorem enter_roundTimer (st : OutletState) : (c.enter b st).pool.roundTimer = c.pool.roundTimer :=
  congrArg Pool.roundTimer (enter_leaves c b st).2.1

/-! ### A STATUS -/

theorem customerPause_roundTimer (pause : Bool) : (c.customerPause b pause).pool.roundTimer = c.pool.roundTimer := by
  cases pause with
  | true => exact addReason_roundTimer c b .CUSTOMER
  | false => exact removeReason_roundTimer c b .CUSTOMER

theorem vehicleDone_roundTimer (done : Bool) : (c.vehicleDone b done).pool.roundTimer = c.pool.roundTimer := by
  unfold Controller.vehicleDone
  dsimp only
  split
  · exact endSession_roundTimer c b _ _
  · rfl

theorem powerStep_roundTimer (w : Int) : (c.powerStep b w).pool.roundTimer = c.pool.roundTimer := by
  unfold Controller.powerStep Controller.startCheck
  dsimp only
  split
  · split
    · exact fault_roundTimer c b _
    · split <;> rfl
  · rfl
  · rfl
  · rfl
  · rfl

theorem sessionEntry_roundTimer (e : OutletReading) : (c.sessionEntry b e).pool.roundTimer = c.pool.roundTimer := by
  unfold Controller.sessionEntry
  split
  · exact endSession_roundTimer c b _ _
  · exact (powerStep_roundTimer _ b _).trans ((vehicleDone_roundTimer _ b _).trans (customerPause_roundTimer c b _))

theorem heardEntry_roundTimer (e : OutletReading) : (c.heardEntry b e).pool.roundTimer = c.pool.roundTimer := by
  unfold Controller.heardEntry
  refine Eq.trans ?_ (meter_roundTimer c b e.meter c.run.ms)
  dsimp only
  generalize c.meter b e.meter c.run.ms = d
  split
  · exact fault_roundTimer d b _
  · split
    · split
      · exact enter_roundTimer d b _
      · rfl
    · split
      · rfl
      · exact enter_roundTimer d b _
    any_goals exact sessionEntry_roundTimer d b e
    · split
      · exact powerStep_roundTimer d b _
      · exact enter_roundTimer d b _
    · rfl

theorem outletEntry_roundTimer (e : OutletReading) : (c.outletEntry b e).pool.roundTimer = c.pool.roundTimer := by
  unfold Controller.outletEntry
  split
  · rfl
  · rfl
  · exact heardEntry_roundTimer c b e

end

theorem eachEntry_roundTimer {f : Bay → OutletReading → Controller → Controller}
    (h : ∀ b e (c : Controller), (f b e c).pool.roundTimer = c.pool.roundTimer) (a : Addr) (es : List OutletReading) (c : Controller) :
    (c.eachEntry a es f).pool.roundTimer = c.pool.roundTimer := by
  unfold Controller.eachEntry
  generalize List.finRange 4 = l
  induction l generalizing c with
  | nil => rfl
  | cons ix l ih =>
    refine (ih _).trans ?_
    dsimp only
    split
    · exact h _ _ c
    · rfl

theorem forBays_roundTimer {f : Bay → Controller → Controller} (h : ∀ b (c : Controller), (f b c).pool.roundTimer = c.pool.roundTimer)
    (c : Controller) : (forBays f c).pool.roundTimer = c.pool.roundTimer :=
  forBays_keeps (fun d => d.pool.roundTimer = c.pool.roundTimer) (fun b d hd => (h b d).trans hd) rfl

theorem pedestalStatus_roundTimer (a : Addr) (es : List OutletReading) (returned : Bool) (c : Controller) :
    (c.pedestalStatus a es returned).pool.roundTimer = c.pool.roundTimer := by
  unfold Controller.pedestalStatus
  refine (eachEntry_roundTimer (fun b e d => (outletEntry_roundTimer _ b e).trans (heard_roundTimer d b _)) a es _).trans ?_
  split
  · exact eachEntry_roundTimer (fun b e d => heard_roundTimer d b e.plugged) a es c
  · rfl

theorem raise_roundTimer (c : Controller) (x : Cause) : (c.raise x).pool.roundTimer = c.pool.roundTimer := rfl
theorem setFault_roundTimer (c : Controller) (flag : FaultFlag) : (c.setFault flag).pool.roundTimer = c.pool.roundTimer := rfl

theorem supplyStep_roundTimer (v : Nat) (c : Controller) : (c.supplyStep v).pool.roundTimer = c.pool.roundTimer := by
  unfold Controller.supplyStep
  dsimp only
  split
  · rw [raise_roundTimer, setFault_roundTimer, forBays_roundTimer fun b d => addReason_roundTimer d b .SUPPLY]
  · rw [raise_roundTimer, forBays_roundTimer fun b d => removeReason_roundTimer d b .SUPPLY]
  · split <;> rfl
  · rfl

theorem takeStatus_roundTimer (c : Controller) (a : Addr) (body : StatusBody) :
    (c.takeStatus a body).pool.roundTimer = c.pool.roundTimer := by
  have hstored : ∀ body, (c.storeStatus a body).pool.roundTimer = c.pool.roundTimer := fun body =>
    congrArg Pool.roundTimer (storeStatus_leaves c a body).2.2
  cases body with
  | pedestal es =>
    rw [takeStatus_pedestal]
    exact (pedestalStatus_roundTimer a es _ _).trans (hstored _)
  | canopy p cap =>
    rw [takeStatus_canopy]
    exact hstored _
  | battery r =>
    rw [takeStatus_battery]
    exact hstored _
  | supplyMeter p v =>
    rw [takeStatus_supplyMeter]
    exact (supplyStep_roundTimer v _).trans (hstored _)

/-! ### An echo -/

section
variable (c : Controller) (a : Addr)

theorem echoOutlet_roundTimer (ix : OutIx) (sent echo : Int) : (c.echoOutlet a ix sent echo).pool.roundTimer = c.pool.roundTimer := by
  unfold Controller.echoOutlet
  dsimp only
  split
  · exact congrArg Pool.roundTimer (outletEcho_leaves _ _ sent echo).2.1
  · rfl

theorem echoBattery_roundTimer (sent echo : Int) : (c.echoBattery a sent echo).pool.roundTimer = c.pool.roundTimer := by
  unfold Controller.echoBattery
  rw [raiseIf_eq]
  rfl

theorem echoCanopy_roundTimer (sent echo : Cap) : (c.echoCanopy a sent echo).pool.roundTimer = c.pool.roundTimer := by
  unfold Controller.echoCanopy
  rw [raiseIf_eq]
  rfl

end

/-! ### A link loss -/

theorem bayLosesLink_roundTimer (c : Controller) (b : Bay) : (c.bayLosesLink b).pool.roundTimer = c.pool.roundTimer := by
  unfold Controller.bayLosesLink
  split
  · split
    · exact endSession_roundTimer c b _ _
    · rfl
  · rfl

theorem linkLoss_roundTimer (c : Controller) : c.linkLoss.pool.roundTimer = c.pool.roundTimer := by
  unfold Controller.linkLoss
  rw [judgeRelease_roundTimer, forBays_roundTimer fun b d => bayLosesLink_roundTimer d b]

end Sys2Proof.Machine
end

section
/-! SUPPORT. The entry of a node from its IDENT (R121, R126): the entry, its cause and notice, the checks of the bays mapped to it, and ATTACHED
(R133, R139). -/

namespace Sys2Proof.Machine

/-! ### The map checks of a node (R126) -/

/-- The step of the map checks of a node at one bay. -/
def Controller.checkAt (a : Addr) (b : Bay) (c : Controller) : Controller :=
  if (c.bay b).map.valid && (c.bay b).map.node == a then c.mapCheck b else c

/-- What map checks leave alone: every block but outlets and site port, and of the site port the response buffer, the fault flags and every
notice but those of RECEIPT and OUTLET; and a MAP_MISMATCH stays raised. -/
structure Controller.MapChecked (c d : Controller) : Prop where
  blocks : d = { c with outlets := d.outlets, port := d.port }
  port : c.PortKept d
  buffer : d.port.buffer = c.port.buffer
  mismatch : c.raised .outletMapMismatch → d.raised .outletMapMismatch

theorem mapChecked_refl (c : Controller) : c.MapChecked c := ⟨rfl, portKept_of_port rfl, rfl, id⟩

theorem mapChecked_trans {c d e : Controller} (h : c.MapChecked d) (h' : d.MapChecked e) : c.MapChecked e where
  blocks := by rw [h'.blocks, h.blocks]
  port := portKept_trans h.port h'.port
  buffer := h'.buffer.trans h.buffer
  mismatch hc := h'.mismatch (h.mismatch hc)

theorem mapChecked_node {c d : Controller} (h : c.MapChecked d) (x : Addr) : d.node x = c.node x := by
  rw [h.blocks]
  rfl

theorem mapChecked_bay {c d : Controller} (h : c.MapChecked d) (x : Bay) : d.bay x = c.bay x := by
  rw [h.blocks]
  rfl

theorem mapChecked_keeps {c d : Controller} (h : c.MapChecked d) :
    d.credit = c.credit ∧ d.pool = c.pool ∧ d.storage = c.storage ∧ d.link = c.link := by
  rw [h.blocks]
  exact ⟨rfl, rfl, rfl, rfl⟩

theorem cycleKept_of_mapChecked {c d : Controller} (h : c.MapChecked d) : c.CycleKept d :=
  ⟨by rw [h.blocks], by rw [h.blocks], by rw [h.blocks], by rw [h.blocks], h.buffer⟩

theorem mapChecked_updOutlet (c : Controller) (b : Bay) (f : Outlet → Outlet) : c.MapChecked (c.updOutlet b f) :=
  ⟨rfl, portKept_of_port rfl, rfl, id⟩

theorem mapChecked_raise (c : Controller) : c.MapChecked (c.raise .outletMapMismatch) :=
  ⟨rfl, portKept_raise c (.inr rfl), rfl, fun _ => raised_raise c _⟩

section
variable (c : Controller) (b : Bay)

theorem mapCheck_mapChecked : c.MapChecked (c.mapCheck b) := by
  unfold Controller.mapCheck
  dsimp only
  split
  · exact mapChecked_updOutlet c b _
  · exact mapChecked_trans (mapChecked_updOutlet c b _) (mapChecked_raise _)

theorem checkAt_mapChecked (a : Addr) : c.MapChecked (c.checkAt a b) := by
  unfold Controller.checkAt
  split
  · exact mapCheck_mapChecked c b
  · exact mapChecked_refl c

theorem checkAt_outlet_of_ne (a : Addr) {x : Bay} (hx : b ≠ x) : (c.checkAt a b).outlet x = c.outlet x := by
  unfold Controller.checkAt Controller.mapCheck
  dsimp only
  split
  · split
    · exact (updOutlet_outlet c b x _).trans (if_neg hx)
    · exact (updOutlet_outlet c b x _).trans (if_neg hx)
  · rfl

end

/-- The outcome of a map check at its bay: found at the node or not (R126). -/
def Controller.checkedAs (c d : Controller) (found : Prop) (x : Bay) : Prop :=
  (¬ found → (d.outlet x).state = .OFFLINE ∧ (d.outlet x).offlineCause = some .MAP_MISMATCH ∧ d.raised .outletMapMismatch)
    ∧ (found → (c.outlet x).state = .OFFLINE → (c.outlet x).offlineCause = some .MAP_MISMATCH →
      (d.outlet x).offlineCause = some .NOT_SEEN)

theorem mapCheck_checkedAs (c : Controller) (x : Bay) :
    c.checkedAs (c.mapCheck x) ((c.node (c.bay x).map.node).carries (c.bay x).map.outlet = true) x := by
  unfold Controller.mapCheck
  dsimp only
  refine ⟨fun h => ?_, fun h hst hmm => ?_⟩
  · rw [if_neg h]
    have ho : ∀ d : Controller, (d.raise .outletMapMismatch).outlet x = d.outlet x := fun _ => rfl
    rw [ho, updOutlet_outlet_self]
    exact ⟨rfl, rfl, raised_raise _ _⟩
  · rw [if_pos h, updOutlet_outlet_self]
    show (if (c.outlet x).state = .OFFLINE ∧ (c.outlet x).offlineCause = some .MAP_MISMATCH then _ else c.outlet x : Outlet).offlineCause = _
    rw [if_pos ⟨hst, hmm⟩]

/-! ### The entry of a node (R121) -/

/-- The entry in the node table, with the cause that R121 gives. -/
def Node.entered (cause : Option IgnoreCause) (id : Identity) : Node :=
  { Node.absent with state := if cause.isSome then .IGNORED else .PRESENT, ignoreCause := cause, identity := some id }

/-- A node entered, before its bays are checked. -/
def Controller.entered (a : Addr) (id : Identity) (c : Controller) : Controller :=
  let c1 := c.updNode a fun _ => Node.entered (c.link.ignoreCause a id) id
  match c.link.ignoreCause a id with
  | some ic => c1.raise ic.notice
  | none => c1.forgetAcked (kindOfCode id.kindCode)

theorem enterNode_eq (c : Controller) (a : Addr) (id : Identity) : c.enterNode a id = forBays (Controller.checkAt a) (c.entered a id) := rfl

section
variable (c : Controller) (a : Addr) (id : Identity)

/-- An entry is of the node's place in the table, of the site port for a notice, and of the acknowledged value of a battery or canopy. -/
theorem entered_blocks : c.entered a id =
    { c.updNode a fun _ => Node.entered (c.link.ignoreCause a id) id with
      port := (c.entered a id).port, storage := (c.entered a id).storage } := by
  unfold Controller.entered
  dsimp only
  split
  · rfl
  · rw [forgetAcked_eq]

theorem entered_node : (c.entered a id).node a = Node.entered (c.link.ignoreCause a id) id := by
  rw [entered_blocks]
  exact Table.get_set_self _ _ _

theorem entered_node_of_ne {x : Addr} (hx : x ≠ a) : (c.entered a id).node x = c.node x := by
  rw [entered_blocks]
  exact Table.get_set_of_ne _ _ (Ne.symm hx)

theorem entered_outlet (x : Bay) : (c.entered a id).outlet x = c.outlet x := by
  rw [entered_blocks]
  rfl

theorem entered_buffer : (c.entered a id).port.buffer = c.port.buffer := by
  unfold Controller.entered
  dsimp only
  split
  · rfl
  · rw [forgetAcked_eq]
    rfl

theorem cycleKept_entered : c.CycleKept (c.entered a id) where
  link := by rw [entered_blocks]; rfl
  settings := by rw [entered_blocks]; rfl
  lines := by rw [entered_blocks]; rfl
  run := by rw [entered_blocks]; rfl
  buffer := entered_buffer c a id

variable {c a id}

theorem entered_raised {ic : IgnoreCause} (h : c.link.ignoreCause a id = some ic) : (c.entered a id).raised ic.notice := by
  unfold Controller.entered
  rw [h]
  exact raised_raise _ _

theorem entered_storage (h : c.link.ignoreCause a id = none) :
    (id.kindCode = 2 → (c.entered a id).storage.battery.acked = none) ∧ (id.kindCode = 1 → (c.entered a id).storage.canopy.acked = none) := by
  unfold Controller.entered
  rw [h]
  refine ⟨fun hk => ?_, fun hk => ?_⟩
  · rw [hk]
    rfl
  · rw [hk]
    rfl

end

/-! ### A node entered with its bays checked (R121, R126) -/

theorem kindOfCode_pedestal {k : Nat} : kindOfCode k = some .PEDESTAL ↔ k = 0 := by
  unfold kindOfCode
  split <;> simp_all

/-- A bay is found at a node entered as a PEDESTAL with enough outlets (R126). -/
theorem carries_entered (cause : Option IgnoreCause) (id : Identity) (ix : OutIx) :
    (Node.entered cause id).carries ix = true ↔ cause = none ∧ id.kindCode = 0 ∧ ix.val < id.outletCount := by
  have hkind : (Node.entered cause id).kind = kindOfCode id.kindCode := rfl
  have houtlets : (Node.entered cause id).outlets = if kindOfCode id.kindCode = some .PEDESTAL then id.outletCount else 0 := rfl
  have hstate : ((Node.entered cause id).state != .IGNORED) = cause.isNone := by cases cause <;> rfl
  unfold Node.carries
  rw [hkind, houtlets, hstate, Bool.and_eq_true, Bool.and_eq_true, Option.isNone_iff_eq_none, beq_iff_eq, decide_eq_true_eq, and_assoc]
  simp only [kindOfCode_pedestal]
  refine and_congr_right fun _ => and_congr_right fun hk => ?_
  rw [if_pos hk]

section
variable (c : Controller) (a : Addr) (id : Identity)

theorem enterNode_mapChecked : (c.entered a id).MapChecked (c.enterNode a id) := by
  rw [enterNode_eq]
  exact forBays_keeps (fun d => (c.entered a id).MapChecked d) (fun b d hd => mapChecked_trans hd (checkAt_mapChecked d b a)) (mapChecked_refl _)

theorem enterNode_node (x : Addr) : (c.enterNode a id).node x = (c.entered a id).node x := mapChecked_node (enterNode_mapChecked c a id) x

theorem enterNode_keeps : (c.enterNode a id).credit = c.credit ∧ (c.enterNode a id).pool = c.pool
    ∧ (c.enterNode a id).storage = (c.entered a id).storage ∧ (c.enterNode a id).link = (c.entered a id).link := by
  obtain ⟨hcredit, hpool, hstorage, hlink⟩ := mapChecked_keeps (enterNode_mapChecked c a id)
  refine ⟨hcredit.trans ?_, hpool.trans ?_, hstorage, hlink⟩
  · rw [entered_blocks]
    rfl
  · rw [entered_blocks]
    rfl

theorem cycleKept_enterNode : c.CycleKept (c.enterNode a id) :=
  cycleKept_trans (cycleKept_entered c a id) (cycleKept_of_mapChecked (enterNode_mapChecked c a id))

/-- A bay mapped to the node is found at it, or not (R126). -/
theorem enterNode_checkedAs {x : Bay} (hx : (c.bay x).map.valid = true ∧ (c.bay x).map.node = a) :
    c.checkedAs (c.enterNode a id) (c.link.ignoreCause a id = none ∧ id.kindCode = 0 ∧ (c.bay x).map.outlet.val < id.outletCount) x := by
  obtain ⟨hv, hn⟩ := hx
  rw [← carries_entered, ← entered_node]
  have hbays : ∀ d : Controller, (c.entered a id).MapChecked d → d.bay x = c.bay x := fun d hd =>
    (mapChecked_bay hd x).trans (bay_eq_of_settings (cycleKept_entered c a id).settings x)
  refine forBays_at (f := Controller.checkAt a) (x := x) (A := fun d => (c.entered a id).MapChecked d ∧ d.outlet x = c.outlet x)
    (B := fun d => c.checkedAs d (((c.entered a id).node a).carries (c.bay x).map.outlet = true) x) (fun y d hy hd => ?_) (fun d hd => ?_)
    (fun y d hy hd => ?_) ⟨mapChecked_refl _, entered_outlet c a id x⟩
  · exact ⟨mapChecked_trans hd.1 (checkAt_mapChecked d y a), (checkAt_outlet_of_ne d y a hy).trans hd.2⟩
  · obtain ⟨hm, ho⟩ := hd
    have hcheck : d.checkAt a x = d.mapCheck x := by
      unfold Controller.checkAt
      rw [hbays d hm, hv, hn, beq_self_eq_true, Bool.and_self, if_pos rfl]
    have hmap := mapCheck_checkedAs d x
    rw [hbays d hm, hn, mapChecked_node hm] at hmap
    obtain ⟨hmissing, hfound⟩ := hmap
    rw [ho] at hfound
    rw [hcheck]
    exact ⟨hmissing, hfound⟩
  · obtain ⟨hmissing, hfound⟩ := hd
    have ho := checkAt_outlet_of_ne d y a hy
    refine ⟨fun h => ?_, fun h => ?_⟩
    · obtain ⟨hst, hmm, hraised⟩ := hmissing h
      rw [ho]
      exact ⟨hst, hmm, (checkAt_mapChecked d y a).mismatch hraised⟩
    · rw [ho]
      exact hfound h

end

/-- A bay mapped elsewhere is not checked. -/
theorem enterNode_outlet_of_not (c : Controller) (a : Addr) (id : Identity) {x : Bay}
    (hx : ¬ ((c.bay x).map.valid = true ∧ (c.bay x).map.node = a)) : (c.enterNode a id).outlet x = c.outlet x := by
  rw [enterNode_eq]
  refine (forBays_keeps (f := Controller.checkAt a) (fun d => (c.entered a id).MapChecked d ∧ d.outlet x = c.outlet x)
    (fun y d hd => ?_) ⟨mapChecked_refl _, entered_outlet c a id x⟩).2
  obtain ⟨hm, ho⟩ := hd
  refine ⟨mapChecked_trans hm (checkAt_mapChecked d y a), ?_⟩
  by_cases hy : y = x
  · have hbay : d.bay x = c.bay x := (mapChecked_bay hm x).trans (bay_eq_of_settings (cycleKept_entered c a id).settings x)
    unfold Controller.checkAt
    rw [hy, hbay, if_neg (by simpa only [Bool.and_eq_true, beq_iff_eq] using hx)]
    exact ho
  · exact (checkAt_outlet_of_ne d y a hy).trans ho

/-! ### ATTACHED (R133, R139) -/

section
variable (c : Controller) (a : Addr)

/-- What the attachment leaves alone: all but the all-silent count and the NODE notice. -/
theorem attached_blocks : c.attached a =
    { c with link := { c.link with allSilent := (c.attached a).link.allSilent }, port := (c.attached a).port } := by
  unfold Controller.attached
  dsimp only
  split
  · split <;> rfl
  · rfl

theorem attached_node (x : Addr) : (c.attached a).node x = c.node x := by
  rw [attached_blocks]
  rfl

theorem attached_keeps : (c.attached a).credit = c.credit ∧ (c.attached a).pool = c.pool ∧ (c.attached a).outlets = c.outlets
    ∧ (c.attached a).storage = c.storage := by
  rw [attached_blocks]
  exact ⟨rfl, rfl, rfl, rfl⟩

theorem attached_buffer : (c.attached a).port.buffer = c.port.buffer := by
  unfold Controller.attached
  dsimp only
  split
  · split <;> rfl
  · rfl

theorem cycleKept_attached : c.CycleKept (c.attached a) where
  link := by rw [attached_blocks]
  settings := by rw [attached_blocks]
  lines := by rw [attached_blocks]
  run := by rw [attached_blocks]
  buffer := attached_buffer c a

variable {c a}

theorem attached_of_not_present (h : (c.node a).state ≠ .PRESENT) : c.attached a = c := if_neg h

theorem attached_present (h : (c.node a).state = .PRESENT) : (c.attached a).link.allSilent = 0
    ∧ (c.link.state ≠ .DISCOVERING → (c.attached a).raised .nodeAttached) := by
  unfold Controller.attached
  rw [if_pos h]
  refine ⟨?_, fun hst => ?_⟩
  · split <;> rfl
  · rw [if_neg hst]
    exact raised_raise _ _

theorem attached_raised {x : Cause} (hx : x.source ≠ .NODE) (h : c.raised x) : (c.attached a).raised x := by
  unfold Controller.attached
  dsimp only
  split
  · split
    · exact h
    · exact raised_raise_of_ne (c := c.updLink fun l => { l with allSilent := 0 }) h fun e => hx (sourceIx_injective e).symm
  · exact h

end

/-! ### The whole entry -/

/-- A node entered from its IDENT, its bays checked, and ATTACHED judged. -/
def Controller.takeIdent (a : Addr) (id : Identity) (c : Controller) : Controller := (c.enterNode a id).attached a

section
variable (c : Controller) (a : Addr) (id : Identity)

theorem takeIdent_node : (c.takeIdent a id).node a = Node.entered (c.link.ignoreCause a id) id := by
  unfold Controller.takeIdent
  rw [attached_node, enterNode_node, entered_node]

theorem takeIdent_node_of_ne {x : Addr} (hx : x ≠ a) : (c.takeIdent a id).node x = c.node x := by
  unfold Controller.takeIdent
  rw [attached_node, enterNode_node, entered_node_of_ne c a id hx]

theorem cycleKept_takeIdent : c.CycleKept (c.takeIdent a id) := cycleKept_trans (cycleKept_enterNode c a id) (cycleKept_attached _ a)

theorem takeIdent_keeps : (c.takeIdent a id).credit = c.credit ∧ (c.takeIdent a id).pool = c.pool
    ∧ (c.takeIdent a id).outlets = (c.enterNode a id).outlets ∧ (c.takeIdent a id).storage = (c.entered a id).storage := by
  obtain ⟨hcredit, hpool, hstorage, -⟩ := enterNode_keeps c a id
  obtain ⟨hcredit', hpool', houtlets', hstorage'⟩ := attached_keeps (c.enterNode a id) a
  exact ⟨hcredit'.trans hcredit, hpool'.trans hpool, houtlets', hstorage'.trans hstorage⟩

theorem takeIdent_outlet (x : Bay) : (c.takeIdent a id).outlet x = (c.enterNode a id).outlet x := by
  obtain ⟨-, -, houtlets, -⟩ := takeIdent_keeps c a id
  exact outlet_eq_of_outlets houtlets x

theorem enterNode_state : ((c.enterNode a id).node a).state = if c.link.ignoreCause a id = none then .PRESENT else .IGNORED := by
  rw [enterNode_node, entered_node]
  cases c.link.ignoreCause a id <;> rfl

/-- The notice of an IGNORED node stands, for it is not attached (R121, R133). -/
theorem takeIdent_raised {ic : IgnoreCause} (h : c.link.ignoreCause a id = some ic) : (c.takeIdent a id).raised ic.notice := by
  have hstate := enterNode_state c a id
  rw [h, if_neg (by simp)] at hstate
  unfold Controller.takeIdent
  rw [attached_of_not_present (by rw [hstate]; decide)]
  exact (enterNode_mapChecked c a id).port.raised _ (by cases ic <;> decide) (by cases ic <;> decide) (entered_raised h)

theorem takeIdent_allSilent : (c.link.ignoreCause a id = none → (c.takeIdent a id).link.allSilent = 0)
    ∧ (c.link.ignoreCause a id ≠ none → (c.takeIdent a id).link.allSilent = c.link.allSilent) := by
  have hstate := enterNode_state c a id
  obtain ⟨-, -, -, hlink⟩ := enterNode_keeps c a id
  unfold Controller.takeIdent
  refine ⟨fun h => ?_, fun h => ?_⟩
  · rw [if_pos h] at hstate
    exact (attached_present hstate).1
  · rw [if_neg h] at hstate
    rw [attached_of_not_present (by rw [hstate]; decide), hlink, entered_blocks]
    rfl

/-- A node entered PRESENT at an attach probe (R133). -/
theorem takeIdent_attached (h : c.link.ignoreCause a id = none) (hst : c.link.state ≠ .DISCOVERING) :
    (c.takeIdent a id).raised .nodeAttached := by
  have hstate := enterNode_state c a id
  rw [if_pos h] at hstate
  refine (attached_present hstate).2 ?_
  rw [(cycleKept_enterNode c a id).link]
  exact hst

theorem takeIdent_checkedAs {x : Bay} (hx : (c.bay x).map.valid = true ∧ (c.bay x).map.node = a) :
    c.checkedAs (c.takeIdent a id) (c.link.ignoreCause a id = none ∧ id.kindCode = 0 ∧ (c.bay x).map.outlet.val < id.outletCount) x := by
  obtain ⟨hmissing, hfound⟩ := enterNode_checkedAs c a id hx
  have ho := takeIdent_outlet c a id x
  refine ⟨fun h => ?_, fun h => ?_⟩
  · obtain ⟨hst, hmm, hraised⟩ := hmissing h
    rw [ho]
    exact ⟨hst, hmm, attached_raised (by decide) hraised⟩
  · rw [ho]
    exact hfound h

theorem takeIdent_outlet_of_not {x : Bay} (hx : ¬ ((c.bay x).map.valid = true ∧ (c.bay x).map.node = a)) :
    (c.takeIdent a id).outlet x = c.outlet x :=
  (takeIdent_outlet c a id x).trans (enterNode_outlet_of_not c a id hx)

theorem takeIdent_reportUsed : ((c.takeIdent a id).node a).reportUsed = false := by
  rw [takeIdent_node]
  rfl

/-- The entry stands in what follows the exchange, for of the node only the report-used flag can be cleared, and notices of NODE and OUTLET,
acknowledged values and the node's bays are left. -/
theorem enteredAt_of_takeIdent {t : Controller} (hn : t.node a = { (c.takeIdent a id).node a with reportUsed := false })
    (hraised : ∀ x : Cause, x.source = .NODE ∨ x.source = .OUTLET → (c.takeIdent a id).raised x → t.raised x)
    (hsilent : c.link.ignoreCause a id = none → t.link.allSilent = 0) (hstorage : t.storage = (c.takeIdent a id).storage)
    (houtlet : ∀ b, (c.bay b).map.valid = true → (c.bay b).map.node = a → t.outlet b = (c.takeIdent a id).outlet b) :
    c.enteredAt t a id := by
  rw [takeIdent_node] at hn
  have hstate : (t.node a).state = if c.link.ignoreCause a id = none then .PRESENT else .IGNORED := by
    rw [hn]
    cases c.link.ignoreCause a id <;> rfl
  have hnotice : ∀ ic, c.link.ignoreCause a id = some ic → t.raised ic.notice := fun ic hic =>
    hraised _ (.inl (by cases ic <;> rfl)) (takeIdent_raised c a id hic)
  obtain ⟨-, -, -, hentered⟩ := takeIdent_keeps c a id
  rw [hentered] at hstorage
  refine ⟨by rw [hn]; rfl, by rw [hn]; rfl, hstate, hnotice .DUPLICATE_KIND, hnotice .DUPLICATE_SERIAL, hnotice .BAD_IDENT, by rw [hn]; rfl,
    by rw [hn]; rfl, by rw [hn], by rw [hn]; rfl, hsilent, fun h hk => ?_, fun h hk => ?_, fun b hv hb => ?_⟩
  · rw [hstorage]
    exact (entered_storage h).1 hk
  · rw [hstorage]
    exact (entered_storage h).2 hk
  · obtain ⟨hmissing, hfound⟩ := takeIdent_checkedAs c a id ⟨hv, hb⟩
    rw [houtlet b hv hb]
    refine ⟨fun h => ?_, hfound⟩
    obtain ⟨hst, hmm, hr⟩ := hmissing h
    exact ⟨hst, hmm, hraised _ (.inr rfl) hr⟩

end

end Sys2Proof.Machine
end

section
/-! SUPPORT. LINK_RESTART and LINK_REQUEST (R141, R146), the grant of a window (R147), and the end of an exchange that either waits for
(R118, R123). -/

namespace Sys2Proof.Machine

/-! ### The timers of the outlets at a grant (R147) -/

/-- The timers of every outlet frozen, or thawed, for a pass-through window (R147, R153). -/
def Controller.freezeTimers (frozen : Bool) (c : Controller) : Controller := forBays (fun b c => c.updOutlet b (Outlet.freezeWindow frozen)) c

section
variable (frozen : Bool) (c : Controller)

theorem freezeTimers_blocks : c.freezeTimers frozen = { c with outlets := (c.freezeTimers frozen).outlets } :=
  forBays_keeps (fun d => d = { c with outlets := d.outlets }) (fun b d hd => by
    rw [hd]
    rfl) rfl

theorem freezeWindow_change (o : Outlet) : o.change (Outlet.freezeWindow frozen) = o.windowed frozen := change_eq rfl rfl rfl rfl

theorem freezeTimers_outlet (x : Bay) : (c.freezeTimers frozen).outlet x = (c.outlet x).windowed frozen := by
  refine forBays_at (f := fun b c => c.updOutlet b (Outlet.freezeWindow frozen)) (x := x) (A := fun d => d.outlet x = c.outlet x)
    (B := fun d => d.outlet x = (c.outlet x).windowed frozen) (fun y d hy hd => ?_) (fun d hd => ?_) (fun y d hy hd => ?_) rfl
  · exact ((updOutlet_outlet d y x _).trans (if_neg hy)).trans hd
  · rw [updOutlet_outlet_self, hd]
    exact freezeWindow_change frozen _
  · exact ((updOutlet_outlet d y x _).trans (if_neg hy)).trans hd

end

/-! ### The grant (R147) -/

/-- The window record at a grant, with a T_pt in s (R147). -/
def WindowRecord.granted (tPt : Nat) : WindowRecord :=
  { phase := .HELD, timer := some (tPt * 1000), raw := none, frameCount := 0, expired := false, ending := none }

/-- The link at a grant. -/
def Link.grants (tPt : Nat) (l : Link) : Link := { l with state := .PASS_THROUGH, window := .granted tPt }

section
variable (c : Controller)

theorem grant_eq : c.grant =
    ((c.updLink (Link.grants c.inForce.tPt)).freezeTimers true).answerLate 0x42 .GRANTED (.granted c.inForce.tPt) := rfl

theorem grant_blocks : c.grant = { c with
    link := c.link.grants c.inForce.tPt, outlets := c.grant.outlets
    port := c.port.answerLate 0x42 .GRANTED (.granted c.inForce.tPt) } := by
  have hfrozen := freezeTimers_blocks true (c.updLink (Link.grants c.inForce.tPt))
  rw [grant_eq]
  generalize (c.updLink (Link.grants c.inForce.tPt)).freezeTimers true = d at hfrozen
  rw [hfrozen]
  rfl

theorem grant_leaves : c.grant.link = c.link.grants c.inForce.tPt ∧ c.grant.credit = c.credit ∧ c.grant.pool = c.pool
    ∧ c.quietBlocks c.grant := by
  have hblocks := grant_blocks c
  generalize c.grant = t at *
  rw [hblocks]
  exact ⟨rfl, rfl, rfl, rfl, rfl, rfl, rfl⟩

theorem grant_outlet (x : Bay) : c.grant.outlet x = (c.outlet x).windowed true := by
  have houtlet : ∀ (d : Controller) (st : Status) (y : Body), (d.answerLate 0x42 st y).outlet x = d.outlet x := fun _ _ _ => rfl
  rw [grant_eq, houtlet, freezeTimers_outlet]
  rfl

variable {c}

theorem answerLate_pending {p : Port} {n : Nat} (h : p.buffer = .PENDING n) (st : Status) (y : Body) :
    (p.answerLate n st y).buffer = .READY { status := st, command := n, body := y } := by
  unfold Port.answerLate
  rw [if_pos h]
  rfl

theorem grant_holds (h : c.port.buffer = .PENDING 0x42) : c.grant.holds 0x42 .GRANTED (.granted c.inForce.tPt) := by
  unfold Controller.holds
  rw [grant_blocks]
  exact answerLate_pending h _ _

end

/-- A window's freeze stops both timers (R147). -/
theorem windowed_stops (o : Outlet) :
    timerRuns (o.windowed true).overdraw = false ∧ timerRuns (o.windowed true).startTimer = false := by
  have hstop : ∀ x : Option Timer, timerRuns (x.map fun y => { y with frozenByWindow := true }) = false := fun x => by
    cases x with
    | none => rfl
    | some y => simp [timerRuns, Timer.running]
  exact ⟨hstop _, hstop _⟩

/-! ### LINK_RESTART (R141) -/

@[simp] theorem taken_link (c : Controller) (n : Nat) : (c.taken n).link = c.link := rfl

section
variable {s : State} (htaking : s.ctl.taking = true)
include htaking

theorem linkRestart_refused {st : LinkState} (h : s.ctl.link.state = st) {x : Status}
    (hx : (st, x) ∈ [(LinkState.PASS_THROUGH, Status.LINK_HELD), (.DISCOVERING, .BUSY), (.IDLE, .NOT_RUNNING)]) :
    exec .linkRestart s = .next (s.put (s.ctl.answer 0x41 x .none)) := by
  show execLinkRestart s = _
  simp only [List.mem_cons, Prod.mk.injEq, List.not_mem_nil, or_false] at hx
  rcases hx with ⟨rfl, rfl⟩ | ⟨rfl, rfl⟩ | ⟨rfl, rfl⟩
  · simp only [execLinkRestart, command_taken _ _ htaking, taken_link, h, taken_refuse]
  · simp only [execLinkRestart, command_taken _ _ htaking, taken_link, h, taken_refuse]
  · simp only [execLinkRestart, command_taken _ _ htaking, taken_link, h, taken_refuse]

theorem linkRestart_down (h : s.ctl.link.state = .DOWN) :
    exec .linkRestart s = .next (s.put ((s.ctl.taken 0x41).enterDiscovering.ok 0x41 .none)) := by
  show execLinkRestart s = _
  simp only [execLinkRestart, command_taken _ _ htaking, taken_link, h]

theorem linkRestart_running (h : s.ctl.link.state = .RUNNING) :
    (s.ctl.link.window.phase = .GRANT_PENDING → exec .linkRestart s = .next (s.put (s.ctl.answer 0x41 .LINK_HELD .none)))
    ∧ (s.ctl.link.window.phase ≠ .GRANT_PENDING →
      s.ctl.link.restartWaiting = true ∨ s.ctl.link.stopWaiting = true ∨ s.ctl.link.finalCycle = true →
      exec .linkRestart s = .next (s.put (s.ctl.answer 0x41 .BUSY .none)))
    ∧ (s.ctl.link.window.phase ≠ .GRANT_PENDING → s.ctl.link.restartWaiting = false → s.ctl.link.stopWaiting = false →
      s.ctl.link.finalCycle = false → s.ctl.link.exchange.isSome = true →
      exec .linkRestart s = .next (s.put ((s.ctl.updLink fun l => { l with restartWaiting := true }).answer 0x41 .OK .none))) := by
  have hexec : exec .linkRestart s = execLinkRestart s := rfl
  refine ⟨fun hp => ?_, fun hp hbusy => ?_, fun hp hr hs hf hex => ?_⟩
  · simp only [hexec, execLinkRestart, command_taken _ _ htaking, taken_link, h, hp, if_true, taken_refuse]
  · have hbusy : (s.ctl.link.restartWaiting || s.ctl.link.stopWaiting || s.ctl.link.finalCycle) = true := by
      simpa only [Bool.or_eq_true, or_assoc] using hbusy
    simp only [hexec, execLinkRestart, command_taken _ _ htaking, taken_link, h, hp, hbusy, if_true, if_false, taken_refuse]
  · have hex : s.ctl.link.exchange.isNone = false := by rw [← Option.not_isSome, hex]; rfl
    simp only [hexec, execLinkRestart, command_taken _ _ htaking, taken_link, h, hp, hr, hs, hf, hex, Bool.or_self, Bool.false_eq_true,
      if_false]
    rfl

/-! ### LINK_REQUEST (R146) -/

theorem linkRequest_refused {st : LinkState} (h : s.ctl.link.state = st) {x : Status}
    (hx : (st, x) ∈ [(LinkState.PASS_THROUGH, Status.LINK_HELD), (.DISCOVERING, .BUSY), (.IDLE, .NOT_RUNNING), (.DOWN, .NOT_RUNNING)]) :
    exec .linkRequest s = .next (s.put (s.ctl.answer 0x42 x .none)) := by
  show execLinkRequest s = _
  simp only [List.mem_cons, Prod.mk.injEq, List.not_mem_nil, or_false] at hx
  rcases hx with ⟨rfl, rfl⟩ | ⟨rfl, rfl⟩ | ⟨rfl, rfl⟩ | ⟨rfl, rfl⟩
  · simp only [execLinkRequest, command_taken _ _ htaking, taken_link, h, taken_refuse]
  · simp only [execLinkRequest, command_taken _ _ htaking, taken_link, h, taken_refuse]
  · simp only [execLinkRequest, command_taken _ _ htaking, taken_link, h, taken_refuse]
  · simp only [execLinkRequest, command_taken _ _ htaking, taken_link, h, taken_refuse]

theorem linkRequest_running (h : s.ctl.link.state = .RUNNING) :
    (s.ctl.link.window.phase = .GRANT_PENDING → exec .linkRequest s = .next (s.put (s.ctl.answer 0x42 .LINK_HELD .none)))
    ∧ (s.ctl.link.window.phase ≠ .GRANT_PENDING →
      s.ctl.link.restartWaiting = true ∨ s.ctl.link.stopWaiting = true ∨ s.ctl.link.finalCycle = true →
      exec .linkRequest s = .next (s.put (s.ctl.answer 0x42 .BUSY .none)))
    ∧ (s.ctl.link.window.phase ≠ .GRANT_PENDING → s.ctl.link.restartWaiting = false → s.ctl.link.stopWaiting = false →
      s.ctl.link.finalCycle = false →
      (s.ctl.link.exchange.isSome = true →
        exec .linkRequest s = .next (s.put ((s.ctl.taken 0x42).updWindow fun w => { w with phase := .GRANT_PENDING })))
      ∧ (s.ctl.link.exchange = none → exec .linkRequest s = .next (s.put (s.ctl.taken 0x42).grant))) := by
  have hexec : exec .linkRequest s = execLinkRequest s := rfl
  refine ⟨fun hp => ?_, fun hp hbusy => ?_, fun hp hr hs hf => ?_⟩
  · simp only [hexec, execLinkRequest, command_taken _ _ htaking, taken_link, h, hp, if_true, taken_refuse]
  · have hbusy : (s.ctl.link.restartWaiting || s.ctl.link.stopWaiting || s.ctl.link.finalCycle) = true := by
      simpa only [Bool.or_eq_true, or_assoc] using hbusy
    simp only [hexec, execLinkRequest, command_taken _ _ htaking, taken_link, h, hp, hbusy, if_true, if_false, taken_refuse]
  · refine ⟨fun hex => ?_, fun hex => ?_⟩
    · have hex : s.ctl.link.exchange.isNone = false := by rw [← Option.not_isSome, hex]; rfl
      simp only [hexec, execLinkRequest, command_taken _ _ htaking, taken_link, h, hp, hr, hs, hf, hex, Bool.or_self, Bool.false_eq_true,
        if_false]
    · simp only [hexec, execLinkRequest, command_taken _ _ htaking, taken_link, h, hp, hr, hs, hf, hex, Option.isNone_none, Bool.or_self,
        Bool.false_eq_true, if_false, if_true]

end

/-! ### The entry to DISCOVERING (R123, R124) -/

theorem enterDiscovering_of_not_running {c : Controller} (h : c.link.state ≠ .RUNNING) :
    c.enterDiscovering = (c.updLink fun l => (l.quiet .DISCOVERING).emptied).send (.identReq 0) := by
  have hrun : (c.link.state == .RUNNING) = false := beq_false_of_ne h
  unfold Controller.enterDiscovering
  dsimp only
  rw [hrun]
  rfl

theorem enterDiscovering_of_running {c : Controller} (h : c.link.state = .RUNNING) :
    c.enterDiscovering = (c.updLink fun l => (l.quiet .DISCOVERING).emptied).linkLoss.send (.identReq 0) := by
  have hrun : (c.link.state == .RUNNING) = true := beq_iff_eq.mpr h
  unfold Controller.enterDiscovering
  dsimp only
  rw [hrun, if_pos rfl]

/-- What an entry from RUNNING leaves: the link emptied, every mapped bay without the link, and storage, settings, lines, run part and round
timer as they were (R52, R123). -/
structure Controller.Discovers (c t : Controller) : Prop where
  link : ∃ ex, t.link = { (c.link.quiet .DISCOVERING).emptied with exchange := ex }
  sends : t.sends (.identReq 0)
  lost : ∀ x, (c.bay x).map.valid = true → (c.outlet x).LostLink c.run.siteTime (t.outlet x)
  quiet : c.quietBlocks t
  roundTimer : t.pool.roundTimer = c.pool.roundTimer

theorem enterDiscovering_discovers {c : Controller} (h : c.link.state = .RUNNING) : c.Discovers c.enterDiscovering := by
  have hlink := linkLoss_link (c.updLink fun l => (l.quiet .DISCOVERING).emptied)
  have hlost : ∀ x, (c.bay x).map.valid = true → _ := fun x hx =>
    linkLoss_lost (c := c.updLink fun l => (l.quiet .DISCOVERING).emptied) (x := x) hx
  have hround := linkLoss_roundTimer (c.updLink fun l => (l.quiet .DISCOVERING).emptied)
  have hquiet := (linkLoss_work (c.updLink fun l => (l.quiet .DISCOVERING).emptied)).quiet
  rw [enterDiscovering_of_running h]
  generalize (c.updLink fun l => (l.quiet .DISCOVERING).emptied).linkLoss = d at *
  refine ⟨⟨some { sent := .identReq 0, tReply := d.inForce.tReply, waiting := none }, ?_⟩, rfl, hlost, hquiet, hround⟩
  have hsend : (d.send (.identReq 0)).link =
      { d.link with exchange := some { sent := .identReq 0, tReply := d.inForce.tReply, waiting := none } } := rfl
  rw [hsend, hlink]
  rfl

/-! ### The rows that end an exchange -/

/-- What every row that ends an exchange has left when it is complete, whatever follows: of the link all but nodes, all-silent count and the
count of REPORTs, the settings, lines, run part, response buffer and round timer. -/
structure Controller.Completes (c e : Controller) : Prop where
  cycle : ∃ n, (c.updLink fun l => { l with reports := n }).CycleKept e
  roundTimer : e.pool.roundTimer = c.pool.roundTimer

/-- What a row leaves, beyond that, that ends an exchange with no reply to take. -/
structure Controller.Unanswered (c e : Controller) : Prop where
  credit : e.credit = c.credit
  storage : e.storage = c.storage
  allSilent : e.link.allSilent = c.link.allSilent
  session : ∀ x, (e.outlet x).session.isSome = (c.outlet x).session.isSome
  overdraw : ∀ x, (e.outlet x).overdraw.map (·.left) = (c.outlet x).overdraw.map (·.left)
  startTimer : ∀ x, (e.outlet x).startTimer.map (·.left) = (c.outlet x).startTimer.map (·.left)

theorem completes_of_cycleKept {c e : Controller} (h : c.CycleKept e) (hr : e.pool.roundTimer = c.pool.roundTimer) : c.Completes e :=
  ⟨⟨c.link.reports, h⟩, hr⟩

theorem unanswered_of_outlets {c e : Controller} (hc : e.credit = c.credit) (hs : e.storage = c.storage)
    (ha : e.link.allSilent = c.link.allSilent) (ho : e.outlets = c.outlets) : c.Unanswered e :=
  have houtlet := outlet_eq_of_outlets ho
  ⟨hc, hs, ha, fun x => by rw [houtlet x], fun x => by rw [houtlet x], fun x => by rw [houtlet x]⟩

section
variable {c : Controller} {a : Addr}

theorem miss_completes : c.Completes (c.miss a) := by
  obtain ⟨hlink, -, -, -, ⟨-, hset, hlines, hrun⟩, hround⟩ := miss_missed (c := c) (a := a)
  refine completes_of_cycleKept ⟨?_, hset, hlines, hrun, miss_buffer⟩ hround
  rw [hlink]

/-- The silence of a node ends no session, and freezes a timer with what is left of it (R50). -/
theorem miss_unanswered : c.Unanswered (c.miss a) := by
  obtain ⟨hlink, -, -, hcredit, ⟨hstorage, -⟩, -⟩ := miss_missed (c := c) (a := a)
  have hfrozen : ∀ o o' : Outlet, o.alike o' ∨ o.state ≠ .OFFLINE ∧ o' = o.silenced c.inForce.tRes →
      o'.session.isSome = o.session.isSome ∧ o'.overdraw.map (·.left) = o.overdraw.map (·.left)
        ∧ o'.startTimer.map (·.left) = o.startTimer.map (·.left) := fun o o' h => by
    rcases h with h | ⟨-, rfl⟩
    · obtain ⟨v, rfl⟩ := (alike_iff _ _).mp h
      exact ⟨rfl, rfl, rfl⟩
    · exact ⟨Option.isSome_map, Option.map_map .., Option.map_map ..⟩
  have houtlet := fun x => hfrozen _ _ (miss_outlet (c := c) (a := a) x)
  exact ⟨hcredit, hstorage, by rw [hlink], fun x => (houtlet x).1, fun x => (houtlet x).2.1, fun x => (houtlet x).2.2⟩

end

section
variable {s : State} (htaking : s.ctl.taking = true)
include htaking

theorem exec_ident {a : Addr} (h : s.ctl.link.awaited = some (.identReq a)) (kind count : Nat) (rating : Int) (serial : Nat) :
    exec (.ident a kind count rating serial) s = .next (s.put ((s.ctl.takeIdent a
      { kindCode := kind, outletCount := count, rating := rating, serial := serial }).exchangeDone (Controller.afterIdent a))) := by
  show execIdent a kind count rating serial s = _
  simp only [execIdent, event_taking _ htaking, h, if_true, State.put, Controller.takeIdent]

theorem exec_identTimeout {a : Addr} (h : s.ctl.link.awaited = some (.identReq a)) :
    exec .identTimeout s = .next (s.put (s.ctl.exchangeDone (Controller.afterIdent a))) := by
  show execIdentTimeout s = _
  simp only [execIdentTimeout, event_taking _ htaking, h, State.put]

/-- Each row that ends the exchange with no reply to take (R118). -/
theorem endsExchange_row {i : Instr} (h : s.ctl.endsExchange i) : ∃ e go, exec i s = .next (s.put (e.exchangeDone go))
    ∧ s.ctl.Completes e ∧ s.ctl.Unanswered e ∧ (i ≠ .statusTimeout → e.outlets = s.ctl.outlets) := by
  have hsame : s.ctl.Completes s.ctl ∧ s.ctl.Unanswered s.ctl :=
    ⟨completes_of_cycleKept ⟨rfl, rfl, rfl, rfl, rfl⟩ rfl, unanswered_of_outlets rfl rfl rfl rfl⟩
  obtain ⟨hself, hselfEnds⟩ := hsame
  rcases h with ⟨rfl, a, hw⟩ | ⟨rfl, a, hw⟩ | ⟨rfl, f, hw, hf⟩ | ⟨rfl, hw⟩ | ⟨rfl, ex, hex, hw, hu⟩ | ⟨a, n, x, hw, hu, hi⟩
  · exact ⟨_, _, exec_identTimeout htaking hw, hself, hselfEnds, fun _ => rfl⟩
  · exact ⟨_, _, exec_statusTimeout htaking hw, miss_completes, miss_unanswered, fun h => absurd rfl h⟩
  · obtain ⟨a, hf⟩ := Option.isSome_iff_exists.mp hf
    exact ⟨_, _, exec_setAckTimeout htaking hw hf, completes_of_cycleKept (cycleKept_updNode _ _ _) rfl,
      unanswered_of_outlets rfl rfl rfl rfl, fun _ => rfl⟩
  · exact ⟨_, _, exec_windowTimeout htaking hw, hself, hselfEnds, fun _ => rfl⟩
  · exact ⟨_, _, exec_unansweredSent htaking hex hw hu, hself, hselfEnds, fun _ => rfl⟩
  · refine ⟨(s.ctl.updLink fun l => { l with reports := l.reports + 1 }).raise .nodeChainFault, _,
      exec_chainFault htaking (a := a) (n := n) (x := x) hw hu ?_, ⟨⟨_, cycleKept_raise _ _⟩, rfl⟩,
      unanswered_of_outlets rfl rfl rfl rfl, fun _ => rfl⟩
    simpa only [List.mem_cons, List.not_mem_nil, or_false] using hi

/-- Each row that ends the exchange with a good reply (R118, R119). -/
theorem repliesTo_row {i : Instr} (h : s.ctl.repliesTo i) : ∃ e go, exec i s = .next (s.put (e.exchangeDone go)) ∧ s.ctl.Completes e := by
  rcases h with ⟨a, kind, count, rating, serial, rfl, hw⟩ | ⟨a, body, rfl, hw, hacc⟩ | ⟨a, ix, w, echo, rfl, hw, hs⟩
    | ⟨a, w, echo, rfl, hw, hs⟩ | ⟨a, w, echo, rfl, hw, hs⟩
  · exact ⟨_, _, exec_ident htaking hw kind count rating serial, completes_of_cycleKept (cycleKept_takeIdent _ _ _)
      (congrArg Pool.roundTimer (takeIdent_keeps _ _ _).2.1)⟩
  · exact ⟨_, _, exec_status htaking hw hacc, completes_of_cycleKept (cycleKept_takeStatus _ _ _) (takeStatus_roundTimer _ _ _)⟩
  · obtain ⟨sent, hs⟩ := Option.isSome_iff_exists.mp hs
    exact ⟨_, _, exec_setAck htaking (takeAck_outlet hw hs echo), completes_of_cycleKept (cycleKept_echoOutlet _ _ _ _ _)
      (echoOutlet_roundTimer _ _ _ _ _)⟩
  · obtain ⟨sent, hs⟩ := Option.isSome_iff_exists.mp hs
    exact ⟨_, _, exec_setAck htaking (takeAck_battery hw hs echo), completes_of_cycleKept (cycleKept_echoBattery _ _ _ _)
      (echoBattery_roundTimer _ _ _ _)⟩
  · obtain ⟨sent, hs⟩ := Option.isSome_iff_exists.mp hs
    exact ⟨_, _, exec_setAck htaking (takeAck_canopy hw hs echo), completes_of_cycleKept (cycleKept_echoCanopy _ _ _ _)
      (echoCanopy_roundTimer _ _ _ _)⟩

end

/-- No row both replies and ends the exchange without a reply. -/
theorem not_endsExchange_of_repliesTo {c : Controller} {i : Instr} (h : c.repliesTo i) : ¬ c.endsExchange i := by
  have hkinds : (∃ a kind count rating serial, i = .ident a kind count rating serial) ∨ (∃ a body, i = .status a body)
      ∨ ∃ a body, i = .setAck a body := by
    rcases h with ⟨a, kind, count, rating, serial, hi, -⟩ | ⟨a, body, hi, -⟩ | ⟨a, ix, w, echo, hi, -⟩ | ⟨a, w, echo, hi, -⟩
      | ⟨a, w, echo, hi, -⟩
    · exact .inl ⟨_, _, _, _, _, hi⟩
    · exact .inr (.inl ⟨_, _, hi⟩)
    · exact .inr (.inr ⟨_, _, hi⟩)
    · exact .inr (.inr ⟨_, _, hi⟩)
    · exact .inr (.inr ⟨_, _, hi⟩)
  unfold Controller.endsExchange
  rcases hkinds with ⟨_, _, _, _, _, rfl⟩ | ⟨_, _, rfl⟩ | ⟨_, _, rfl⟩
  · simp
  · simp
  · simp

/-! ### What waits for the exchange (R141, R147) -/

section
variable {c : Controller} (go : Controller → Controller) (hstop : c.link.stopWaiting = false)
include hstop

theorem exchangeDone_restarts (hr : c.link.restartWaiting = true) :
    c.exchangeDone go = (c.updLink fun l => { l with exchange := none }).enterDiscovering := by
  have hgo : ¬ c.link.stopWaiting = true := Bool.not_eq_true _ ▸ hstop
  exact (if_neg hgo).trans (if_pos hr)

theorem exchangeDone_grants (hr : c.link.restartWaiting = false) (hp : c.link.window.phase = .GRANT_PENDING) :
    c.exchangeDone go = (c.updLink fun l => { l with exchange := none }).grant := by
  have hgo : ¬ c.link.stopWaiting = true := Bool.not_eq_true _ ▸ hstop
  have hgo' : ¬ c.link.restartWaiting = true := Bool.not_eq_true _ ▸ hr
  exact (if_neg hgo).trans ((if_neg hgo').trans (if_pos hp))

end

/-- What a row has left of the link when its exchange is complete. -/
theorem completes_link {c e : Controller} (h : c.Completes e) : e.link =
    { c.link with nodes := e.link.nodes, allSilent := e.link.allSilent, reports := e.link.reports } := by
  obtain ⟨⟨n, hlink, -⟩, -⟩ := h
  rw [hlink]
  rfl

theorem completes_blocks {c e : Controller} (h : c.Completes e) :
    e.settings = c.settings ∧ e.lines = c.lines ∧ e.run = c.run ∧ e.port.buffer = c.port.buffer := by
  obtain ⟨⟨n, -, hset, hlines, hrun, hbuffer⟩, -⟩ := h
  exact ⟨hset, hlines, hrun, hbuffer⟩

/-- A row that ends the exchange in progress, with a reply or without one. -/
theorem exchangeEnds_row {s : State} {i : Instr} (htaking : s.ctl.taking = true) (h : s.ctl.endsExchange i ∨ s.ctl.repliesTo i) :
    ∃ e go, exec i s = .next (s.put (e.exchangeDone go)) ∧ s.ctl.Completes e
      ∧ (s.ctl.endsExchange i → s.ctl.Unanswered e ∧ (i ≠ .statusTimeout → e.outlets = s.ctl.outlets)) := by
  rcases h with h | h
  · obtain ⟨e, go, hexec, hc, hu, ho⟩ := endsExchange_row htaking h
    exact ⟨e, go, hexec, hc, fun _ => ⟨hu, ho⟩⟩
  · obtain ⟨e, go, hexec, hc⟩ := repliesTo_row htaking h
    exact ⟨e, go, hexec, hc, fun hends => absurd hends (not_endsExchange_of_repliesTo h)⟩

/-! ### O45 -/

section
variable {s : State} (htaking : s.ctl.taking = true)
include htaking

theorem linkRestart_enters (h : s.ctl.link.state = .DOWN) : ∃ t, exec .linkRestart s = .next t ∧ t.ctl.holds 0x41 .OK .none
    ∧ t.ctl.link.state = .DISCOVERING ∧ (∀ a, t.ctl.node a = .absent)
    ∧ t.ctl.link.exchange = some { sent := .identReq 0, tReply := s.ctl.inForce.tReply, waiting := none }
    ∧ t.ctl.outlets = s.ctl.outlets ∧ t.ctl.credit = s.ctl.credit ∧ t.ctl.pool = s.ctl.pool ∧ s.ctl.quietBlocks t.ctl := by
  have hexec := linkRestart_down htaking h
  rw [enterDiscovering_of_not_running (by rw [taken_link, h]; decide)] at hexec
  exact ⟨_, hexec, rfl, rfl, fun a => Table.get_replicate _ a, rfl, rfl, rfl, rfl, rfl, rfl, rfl, rfl⟩

theorem linkRequest_granted (h : s.ctl.link.state = .RUNNING) (hp : s.ctl.link.window.phase ≠ .GRANT_PENDING)
    (hr : s.ctl.link.restartWaiting = false) (hs : s.ctl.link.stopWaiting = false) (hf : s.ctl.link.finalCycle = false)
    (hex : s.ctl.link.exchange = none) : ∃ t, exec .linkRequest s = .next t ∧ t.ctl.link.state = .PASS_THROUGH
      ∧ t.ctl.link.window = .granted s.ctl.inForce.tPt ∧ t.ctl.holds 0x42 .GRANTED (.granted s.ctl.inForce.tPt)
      ∧ (∀ a, t.ctl.node a = s.ctl.node a) ∧ (∀ b, t.ctl.outlet b = (s.ctl.outlet b).windowed true)
      ∧ t.ctl.credit = s.ctl.credit ∧ t.ctl.pool = s.ctl.pool ∧ s.ctl.quietBlocks t.ctl := by
  obtain ⟨-, -, hgrant⟩ := linkRequest_running htaking h
  have hholds := grant_holds (c := s.ctl.taken 0x42) rfl
  have houtlet := grant_outlet (s.ctl.taken 0x42)
  obtain ⟨hlink, hcredit, hpool, hquiet⟩ := grant_leaves (s.ctl.taken 0x42)
  refine ⟨_, (hgrant hp hr hs hf).2 hex, ?_⟩
  generalize (s.ctl.taken 0x42).grant = t at *
  exact ⟨congrArg Link.state hlink, congrArg Link.window hlink, hholds, fun a => congrArg (fun l => l.nodes.get a) hlink, houtlet, hcredit,
    hpool, hquiet⟩

/-- A waiting LINK_RESTART at the end of the exchange in progress (R141, R123, R52). -/
theorem exchangeEnd_restarts {i : Instr} (h : s.ctl.endsExchange i ∨ s.ctl.repliesTo i) (hst : s.ctl.link.state = .RUNNING)
    (hstop : s.ctl.link.stopWaiting = false) (hr : s.ctl.link.restartWaiting = true) : ∃ t, exec i s = .next t
      ∧ t.ctl.link.state = .DISCOVERING ∧ (∀ a, t.ctl.node a = .absent) ∧ t.ctl.sends (.identReq 0)
      ∧ t.ctl.link.restartWaiting = false ∧ t.ctl.link.window.phase = .NONE
      ∧ (∀ b, (s.ctl.bay b).map.valid = true → (t.ctl.outlet b).state = .OFFLINE ∧ (t.ctl.outlet b).session = none
        ∧ (t.ctl.outlet b).inForce = 0 ∧ (t.ctl.outlet b).pending = none
        ∧ (s.ctl.endsExchange i → (s.ctl.outlet b).session.isSome = true →
          ((t.ctl.outlet b).summary.map fun y => (y.reason, y.endTime)) = some (.LINK_DOWN, s.ctl.run.siteTime)))
      ∧ t.ctl.pool.roundTimer = s.ctl.pool.roundTimer ∧ t.ctl.settings = s.ctl.settings ∧ t.ctl.lines = s.ctl.lines
      ∧ t.ctl.run = s.ctl.run ∧ (s.ctl.endsExchange i → t.ctl.storage = s.ctl.storage) := by
  obtain ⟨e, go, hexec, hc, hu⟩ := exchangeEnds_row htaking h
  have hlink := completes_link hc
  obtain ⟨hset, hlines, hrun, -⟩ := completes_blocks hc
  rw [exchangeDone_restarts go (by rw [hlink]; exact hstop) (by rw [hlink]; exact hr)] at hexec
  have hd := enterDiscovering_discovers (c := e.updLink fun l => { l with exchange := none }) (by
    show e.link.state = .RUNNING
    rw [hlink]
    exact hst)
  refine ⟨_, hexec, ?_⟩
  generalize (e.updLink fun l => { l with exchange := none }).enterDiscovering = t at *
  obtain ⟨⟨ex, htlink⟩, hsends, hlost, ⟨hstorage', hset', hlines', hrun'⟩, hround'⟩ := hd
  refine ⟨congrArg Link.state htlink, fun a => ?_, hsends, congrArg Link.restartWaiting htlink,
    congrArg (fun l => l.window.phase) htlink, fun b hb => ?_, hround'.trans hc.roundTimer, hset'.trans hset, hlines'.trans hlines,
    hrun'.trans hrun, fun hends => hstorage'.trans (hu hends).1.storage⟩
  · exact (congrArg (fun l => l.nodes.get a) htlink).trans (Table.get_replicate _ a)
  · obtain ⟨⟨hoff, hin, hpe, hse⟩, -, -, -, hended, -⟩ := hlost b ((congrArg (·.map.valid) (bay_eq_of_settings hset b)).trans hb)
    refine ⟨hoff, hse, hin, hpe, fun hends hs => ?_⟩
    rw [← hrun]
    exact hended (((hu hends).1.session b).trans hs)

/-- A GRANT_PENDING request at the end of the exchange in progress (R147). -/
theorem exchangeEnd_grants {i : Instr} (h : s.ctl.endsExchange i ∨ s.ctl.repliesTo i) (hstop : s.ctl.link.stopWaiting = false)
    (hr : s.ctl.link.restartWaiting = false) (hp : s.ctl.link.window.phase = .GRANT_PENDING) : ∃ t, exec i s = .next t
      ∧ t.ctl.link.state = .PASS_THROUGH ∧ t.ctl.link.exchange = none ∧ t.ctl.link.window = .granted s.ctl.inForce.tPt
      ∧ t.ctl.link.probe = s.ctl.link.probe ∧ t.ctl.link.cycles = s.ctl.link.cycles
      ∧ (s.ctl.port.buffer = .PENDING 0x42 → t.ctl.holds 0x42 .GRANTED (.granted s.ctl.inForce.tPt))
      ∧ (∀ b, timerRuns (t.ctl.outlet b).overdraw = false ∧ timerRuns (t.ctl.outlet b).startTimer = false)
      ∧ (s.ctl.endsExchange i → ∀ b, (i ≠ .statusTimeout → t.ctl.outlet b = (s.ctl.outlet b).windowed true)
        ∧ ((t.ctl.outlet b).overdraw.map (·.left)) = ((s.ctl.outlet b).overdraw.map (·.left))
        ∧ ((t.ctl.outlet b).startTimer.map (·.left)) = ((s.ctl.outlet b).startTimer.map (·.left)))
      ∧ t.ctl.settings = s.ctl.settings ∧ t.ctl.lines = s.ctl.lines ∧ t.ctl.run = s.ctl.run
      ∧ (s.ctl.endsExchange i →
        t.ctl.link.allSilent = s.ctl.link.allSilent ∧ t.ctl.credit = s.ctl.credit ∧ t.ctl.storage = s.ctl.storage) := by
  obtain ⟨e, go, hexec, hc, hu⟩ := exchangeEnds_row htaking h
  have hlink := completes_link hc
  obtain ⟨hset, hlines, hrun, hbuffer⟩ := completes_blocks hc
  rw [exchangeDone_grants go (by rw [hlink]; exact hstop) (by rw [hlink]; exact hr) (by rw [hlink]; exact hp)] at hexec
  have htPt : e.inForce.tPt = s.ctl.inForce.tPt := congrArg (·.stored.tPt) hset
  obtain ⟨htlink, hcredit, -, hstorage, hset', hlines', hrun'⟩ := grant_leaves (e.updLink fun l => { l with exchange := none })
  have houtlet : ∀ x, _ = (e.outlet x).windowed true := grant_outlet (e.updLink fun l => { l with exchange := none })
  have hholds := grant_holds (c := e.updLink fun l => { l with exchange := none })
  refine ⟨_, hexec, ?_⟩
  generalize (e.updLink fun l => { l with exchange := none }).grant = t at *
  have htlink : t.link = Link.grants s.ctl.inForce.tPt { e.link with exchange := none } := by rw [← htPt, htlink]; rfl
  refine ⟨congrArg Link.state htlink, congrArg Link.exchange htlink, congrArg Link.window htlink, ?_, ?_, fun hb => ?_, fun b => ?_,
    fun hends b => ?_, hset'.trans hset, hlines'.trans hlines, hrun'.trans hrun, fun hends => ?_⟩
  · refine (congrArg Link.probe htlink).trans ?_
    show e.link.probe = _
    rw [hlink]
  · refine (congrArg Link.cycles htlink).trans ?_
    show e.link.cycles = _
    rw [hlink]
  · rw [← htPt]
    exact hholds (hbuffer.trans hb)
  · rw [show Controller.outlet _ b = _ from houtlet b]
    exact windowed_stops _
  · obtain ⟨hunanswered, hsame⟩ := hu hends
    rw [show Controller.outlet _ b = _ from houtlet b]
    refine ⟨fun hi => ?_, ?_, ?_⟩
    · rw [outlet_eq_of_outlets (hsame hi)]
    · exact (Option.map_map ..).trans (hunanswered.overdraw b)
    · exact (Option.map_map ..).trans (hunanswered.startTimer b)
  · obtain ⟨hunanswered, -⟩ := hu hends
    exact ⟨(congrArg Link.allSilent htlink).trans hunanswered.allSilent, hcredit.trans hunanswered.credit,
      hstorage.trans hunanswered.storage⟩

end

/-- Settles O45: LINK_RESTART and LINK_REQUEST by the link state, and what the end of the exchange in progress does for either. -/
theorem linkRestartAndRequestByLinkState : Obligations.LinkRestartAndRequestByLinkState := by
  refine ⟨fun s htaking => ?_, fun s htaking => ?_, fun c go hs hr => ?_, fun c go hs hr hp => ?_, fun s i htaking h hst hstop => ?_⟩
  · exact ⟨fun h => linkRestart_refused htaking h (by simp), fun h => linkRestart_refused htaking h (by simp),
      fun h => linkRestart_refused htaking h (by simp), linkRestart_enters htaking, linkRestart_running htaking⟩
  · refine ⟨fun h => ?_, fun h => linkRequest_refused htaking h (by simp), fun h => ?_, fun h => (linkRequest_running htaking h).2.1,
      fun ⟨h, hp, hr, hs, hf⟩ hex => ?_, fun ⟨h, hp, hr, hs, hf⟩ hex => linkRequest_granted htaking h hp hr hs hf hex⟩
    · rcases h with h | ⟨h, hp⟩
      · exact linkRequest_refused htaking h (by simp)
      · exact (linkRequest_running htaking h).1 hp
    · rcases h with h | h
      · exact linkRequest_refused htaking h (by simp)
      · exact linkRequest_refused htaking h (by simp)
    · obtain ⟨-, -, hfree⟩ := linkRequest_running htaking h
      exact (hfree hp hr hs hf).1 hex
  · rw [exchangeDone_restarts go hs hr, exchangeDone_restarts Controller.enterDiscovering hs hr]
  · rw [exchangeDone_grants go hs hr hp, exchangeDone_grants Controller.grant hs hr hp]
  · exact ⟨exchangeEnd_restarts htaking h hst hstop, exchangeEnd_grants htaking h hstop⟩

end Sys2Proof.Machine
end

section
/-! SUPPORT. The first cycle after a discovery (R127, R128, R133). -/

namespace Sys2Proof.Machine

/-! ### The first frame of a cycle -/

/-- Every node of the table is IGNORED. -/
def Controller.allIgnored (c : Controller) : Prop := ∀ x, (c.node x).state = .IGNORED

/-- The first frame of a cycle, from `c` to `t`: the POLL of the lowest known node, without one the IDENT_REQ of the lowest ABSENT address,
and without either the first window, which alone clears the report-used flags (R128, R133). -/
structure Controller.FirstFrame (c t : Controller) : Prop where
  frame : c.NextFrame t
  allSilent : t.link.allSilent = 0
  polls : ∀ x, t.lowestKnown x → t.sends (.poll x) ∧ t.link.probe = 0
  probes : ∀ x, (∀ y, (t.node y).known = false) → (t.node x).state = .ABSENT → (∀ y, y < x → (t.node y).state ≠ .ABSENT) →
    t.sends (.identReq x) ∧ t.link.probe.val = (x.val + 1) % 30
  windows : t.allIgnored → t.windowsBegin ∧ t.link.probe = 0
  nodes : ∀ x, (¬ t.allIgnored → t.node x = c.node x) ∧ (t.allIgnored → t.node x = { c.node x with reportUsed := false })

theorem not_known_iff {n : Node} : n.known = false ↔ n.state = .ABSENT ∨ n.state = .IGNORED := by
  unfold Node.known
  cases n.state <;> decide

section
variable {c : Controller}

theorem firstFrame_poll (hs : c.link.allSilent = 0) (hp : c.link.probe = 0) {x : Addr} (hx : c.lowestKnown x) :
    c.FirstFrame ((c.updLink fun l => { l with stage := .polled, sentOutlets := [] }).send (.poll x)) := by
  obtain ⟨hk, hmin⟩ := hx
  refine ⟨⟨flagsFrame_of_send c _ rfl _, rfl⟩, hs, fun y hy => ?_, fun y hnone => ?_, fun hall => ?_,
    fun y => ⟨fun _ => rfl, fun hall => ?_⟩⟩
  · have hyx : y = x := by
      obtain ⟨hky, hminy⟩ := hy
      rcases lt_trichotomy y x with hlt | heq | hlt
      · exact absurd (hky.symm.trans (hmin y hlt)) (by decide)
      · exact heq
      · exact absurd (hk.symm.trans (hminy x hlt)) (by decide)
    rw [hyx]
    exact ⟨rfl, hp⟩
  · exact absurd (hk.symm.trans (hnone x)) (by decide)
  · exact absurd (hk.symm.trans (not_known_iff.mpr (.inr (hall x)))) (by decide)
  · exact absurd (hk.symm.trans (not_known_iff.mpr (.inr (hall x)))) (by decide)

/-- With probe pointer 1 the first ABSENT address from it upward is the lowest. -/
theorem firstFrame_probe (hp : c.link.probe = 0) (hnone : ∀ y, (c.node y).known = false) {x : Addr} (hx : c.link.probeTarget = some x) :
    c.FirstFrame ((c.updLink fun l => { l with allSilent := 0, probe := probeNext x }).send (.identReq x)) := by
  obtain ⟨habsent, hmin⟩ := probeTarget_some hx
  have hupward : ∀ y, c.link.upward y = y.val := fun y => by
    unfold Link.upward
    rw [hp]
    exact (Nat.add_mod_right y.val 30).trans (Nat.mod_eq_of_lt y.isLt)
  refine ⟨⟨flagsFrame_of_send c _ rfl _, rfl⟩, rfl, fun y hy => absurd (hy.1.symm.trans (hnone y)) (by decide), fun y _ hy hminy => ?_,
    fun hall => absurd (habsent.symm.trans (hall x)) (by decide),
    fun y => ⟨fun _ => rfl, fun hall => absurd (habsent.symm.trans (hall x)) (by decide)⟩⟩
  have hxy := hmin y hy
  rw [hupward, hupward] at hxy
  have hyx : y = x := Fin.ext (le_antisymm (not_lt.mp fun hlt => hminy x hlt habsent) hxy)
  rw [hyx]
  exact ⟨rfl, probeNext_val x⟩

theorem firstFrame_windows (hp : c.link.probe = 0) (hnone : ∀ y, (c.node y).known = false) (hx : c.link.probeTarget = none) :
    c.FirstFrame (c.updLink fun l => { l with allSilent := 0 }).startWindows := by
  have hnode : ∀ y, (c.updLink fun l => { l with allSilent := 0 }).startWindows.node y = { c.node y with reportUsed := false } :=
    fun y => startWindows_node _ y
  have habsent : ∀ y, (c.node y).state ≠ .ABSENT := probeTarget_none hx
  have hall : ∀ y, (c.node y).state = .IGNORED := fun y => (not_known_iff.mp (hnone y)).resolve_left (habsent y)
  have hignored : (c.updLink fun l => { l with allSilent := 0 }).startWindows.allIgnored := fun y => by
    rw [hnode]
    exact hall y
  refine ⟨⟨⟨rfl, fun y => ⟨_, hnode y⟩⟩, rfl⟩, rfl, fun y hy => ?_, fun y _ hy => ?_,
    fun _ => ⟨⟨rfl, rfl, rfl, fun y => ?_⟩, hp⟩,
    fun y => ⟨fun h => absurd hignored h, fun _ => hnode y⟩⟩
  · have hk := hy.1
    rw [hnode] at hk
    exact absurd (hk.symm.trans (hnone y)) (by decide)
  · rw [hnode] at hy
    exact absurd hy (habsent y)
  · rw [hnode]

/-- The first frame of a cycle, whatever the node table is (R128). -/
theorem beginCycle_firstFrame (hf : c.link.finalCycle = false) (hs : c.link.allSilent = 0) (hp : c.link.probe = 0) :
    c.FirstFrame c.beginCycle := by
  rcases beginCycle_cases hf with ⟨x, hk, hmin, heq⟩ | ⟨hnone, heq⟩
  · rw [heq]
    exact firstFrame_poll hs hp ⟨hk, hmin⟩
  · rw [heq]
    unfold Controller.probeStep
    split
    · next x hx => exact firstFrame_probe hp hnone hx
    · next hx => exact firstFrame_windows hp hnone hx

end

/-! ### The end of a discovery (R126, R127, R196) -/

/-- The step at a bay: with MAP_MISMATCH at a node that was not found it is NOT_SEEN (R126). -/
def Controller.seesAt (b : Bay) (c : Controller) : Controller :=
  let m := (c.bay b).map
  if m.valid && (c.outlet b).offlineCause == some .MAP_MISMATCH && (c.node m.node).state == .ABSENT then
    c.updOutlet b fun o => { o with offlineCause := some .NOT_SEEN }
  else c

/-- The link RUNNING, with its counts 0 (R127). -/
def Link.discovered (l : Link) : Link :=
  { l with state := .RUNNING, probe := 0, allSilent := 0, lastWindows := 0, lastReports := 0, cycles := 0 }

/-- The run mode RUNNING, with START's response where it was not (R196). -/
def Controller.startsRunning (c : Controller) : Controller :=
  if c.run.running then c
  else ({ c with run := { c.run with running := true } } : Controller).answerLate 0x60 .OK
    (.nodes (c.link.countNodes .PRESENT) (c.link.countNodes .IGNORED))

/-- The round timer started where it does not run (R64). -/
def Controller.startsRounds (c : Controller) : Controller := if c.pool.roundTimer.isNone then c.startRoundTimer else c

/-- The end of a discovery before its first cycle. -/
def Controller.discovered (c : Controller) : Controller :=
  (((forBays Controller.seesAt c).updLink Link.discovered).raise .linkDiscovered).startsRunning.startsRounds

theorem endDiscovery_eq (c : Controller) : c.endDiscovery = c.discovered.beginCycle := by
  unfold Controller.endDiscovery Controller.discovered Controller.seesAt
  dsimp only
  generalize forBays _ c = d
  rfl

section
variable (c : Controller)

theorem seesAt_blocks (b : Bay) : c.seesAt b = { c with outlets := (c.seesAt b).outlets } := by
  unfold Controller.seesAt
  dsimp only
  split <;> rfl

theorem seesAt_outlet_of_ne {b x : Bay} (hx : b ≠ x) : (c.seesAt b).outlet x = c.outlet x := by
  unfold Controller.seesAt
  dsimp only
  split
  · exact (updOutlet_outlet c b x _).trans (if_neg hx)
  · rfl

theorem seesAt_missing {x : Bay} (hv : (c.bay x).map.valid = true) (hm : (c.outlet x).offlineCause = some .MAP_MISMATCH)
    (ha : (c.node (c.bay x).map.node).state = .ABSENT) : ((c.seesAt x).outlet x).offlineCause = some .NOT_SEEN := by
  unfold Controller.seesAt
  dsimp only
  rw [hv, hm, ha, if_pos (by decide), updOutlet_outlet_self]
  rfl

theorem seesAt_found {x : Bay} (ha : (c.node (c.bay x).map.node).state ≠ .ABSENT) (y : Bay) : (c.seesAt y).outlet x = c.outlet x := by
  by_cases hy : y = x
  · unfold Controller.seesAt
    dsimp only
    rw [hy, beq_false_of_ne ha, Bool.and_false]
    rfl
  · exact seesAt_outlet_of_ne c hy

theorem sees_blocks : forBays Controller.seesAt c = { c with outlets := (forBays Controller.seesAt c).outlets } :=
  forBays_keeps (fun d => d = { c with outlets := d.outlets }) (fun b d hd => by
    rw [seesAt_blocks, hd]) rfl

/-- A bay whose node was not found (R126). -/
theorem sees_missing {x : Bay} (hv : (c.bay x).map.valid = true) (hm : (c.outlet x).offlineCause = some .MAP_MISMATCH)
    (ha : (c.node (c.bay x).map.node).state = .ABSENT) : ((forBays Controller.seesAt c).outlet x).offlineCause = some .NOT_SEEN := by
  refine forBays_at (f := Controller.seesAt) (x := x) (A := fun d => d = { c with outlets := d.outlets } ∧ d.outlet x = c.outlet x)
    (B := fun d => (d.outlet x).offlineCause = some .NOT_SEEN) (fun y d hy hd => ?_) (fun d hd => ?_) (fun y d hy hd => ?_) ⟨rfl, rfl⟩
  · obtain ⟨hblocks, ho⟩ := hd
    exact ⟨by rw [seesAt_blocks, hblocks], (seesAt_outlet_of_ne d hy).trans ho⟩
  · obtain ⟨hblocks, ho⟩ := hd
    have hbay : d.bay x = c.bay x := by rw [hblocks]; rfl
    have hnode : ∀ a, d.node a = c.node a := fun a => by rw [hblocks]; rfl
    exact seesAt_missing d (by rw [hbay]; exact hv) (by rw [ho]; exact hm) (by rw [hbay, hnode]; exact ha)
  · rw [seesAt_outlet_of_ne d hy]
    exact hd

/-- A bay whose node was found (R126). -/
theorem sees_found {x : Bay} (ha : (c.node (c.bay x).map.node).state ≠ .ABSENT) : (forBays Controller.seesAt c).outlet x = c.outlet x := by
  refine (forBays_keeps (f := Controller.seesAt) (fun d => d = { c with outlets := d.outlets } ∧ d.outlet x = c.outlet x)
    (fun y d hd => ?_) ⟨rfl, rfl⟩).2
  obtain ⟨hblocks, ho⟩ := hd
  have hbay : d.bay x = c.bay x := by rw [hblocks]; rfl
  have hnode : ∀ a, d.node a = c.node a := fun a => by rw [hblocks]; rfl
  exact ⟨by rw [seesAt_blocks, hblocks], (seesAt_found d (by rw [hbay, hnode]; exact ha) y).trans ho⟩

end

/-- The counts of nodes that START is answered with, over the addresses (R126). -/
theorem countNodes_eq (l : Link) (st : NodeState) :
    l.countNodes st = ((List.finRange 30).filter fun x => (l.nodes.get x).state == st).length := by
  have hdata : l.nodes.data = (List.finRange 30).map l.nodes.get :=
    List.ext_getElem (by simp [l.nodes.size_eq]) fun i h h' => by simp [Table.get]
  unfold Link.countNodes
  rw [hdata, List.countP_map, List.countP_eq_length_filter]
  rfl

/-- What the end of a discovery leaves before the first cycle. -/
structure Controller.Discovered (c d : Controller) : Prop where
  link : d.link = c.link.discovered
  run : d.run = { c.run with running := true }
  pool : d.pool = { c.pool with roundTimer := some (c.pool.roundTimer.getD (c.inForce.tRound * 1000)) }
  keeps : d.credit = c.credit ∧ d.storage = c.storage ∧ d.settings = c.settings ∧ d.lines = c.lines
  reported : d.raised .linkDiscovered
  raised : ∀ x : Cause, x.source ≠ .LINK → c.raised x → d.raised x
  answered : c.run.running = false → c.port.buffer = .PENDING 0x60 →
    d.holds 0x60 .OK (.nodes (c.link.countNodes .PRESENT) (c.link.countNodes .IGNORED))
  missing : ∀ x, (c.bay x).map.valid = true → (c.outlet x).offlineCause = some .MAP_MISMATCH →
    (c.node (c.bay x).map.node).state = .ABSENT → (d.outlet x).offlineCause = some .NOT_SEEN
  found : ∀ x, (c.node (c.bay x).map.node).state ≠ .ABSENT → d.outlet x = c.outlet x

theorem answerLate_notices (p : Port) (n : Nat) (st : Status) (y : Body) : (p.answerLate n st y).notices = p.notices := by
  unfold Port.answerLate
  split <;> rfl

section
variable (c : Controller)

theorem startsRunning_blocks : c.startsRunning = { c with run := { c.run with running := true }, port := c.startsRunning.port } := by
  unfold Controller.startsRunning
  split
  · next h => rw [← h]
  · rfl

theorem startsRunning_notices : c.startsRunning.port.notices = c.port.notices := by
  unfold Controller.startsRunning
  split
  · rfl
  · exact answerLate_notices _ _ _ _

theorem startsRunning_holds (hr : c.run.running = false) (hb : c.port.buffer = .PENDING 0x60) :
    c.startsRunning.holds 0x60 .OK (.nodes (c.link.countNodes .PRESENT) (c.link.countNodes .IGNORED)) := by
  unfold Controller.startsRunning
  rw [if_neg (by rw [hr]; decide)]
  exact answerLate_pending hb _ _

theorem startsRounds_eq : c.startsRounds =
    { c with pool := { c.pool with roundTimer := some (c.pool.roundTimer.getD (c.inForce.tRound * 1000)) } } := by
  unfold Controller.startsRounds Controller.startRoundTimer
  cases h : c.pool.roundTimer with
  | none => rfl
  | some t =>
    rw [Option.isNone_some, if_neg (by decide), Option.getD_some, ← h]

theorem discovered_discovered : c.Discovered c.discovered := by
  have hblocks := sees_blocks c
  have hmissing := fun x => sees_missing c (x := x)
  have hfound := fun x => sees_found c (x := x)
  unfold Controller.discovered
  generalize forBays Controller.seesAt c = d at *
  have hrunning := startsRunning_blocks ((d.updLink Link.discovered).raise .linkDiscovered)
  have hnotices := startsRunning_notices ((d.updLink Link.discovered).raise .linkDiscovered)
  have hholds := startsRunning_holds ((d.updLink Link.discovered).raise .linkDiscovered)
  generalize ((d.updLink Link.discovered).raise .linkDiscovered).startsRunning = e at *
  rw [startsRounds_eq]
  have hraised : ∀ x, e.raised x ↔ ((d.updLink Link.discovered).raise .linkDiscovered).raised x := fun x => by
    unfold Controller.raised
    rw [hnotices]
  have hport : d.port = c.port := by rw [hblocks]
  have houtlet : ∀ x, e.outlet x = d.outlet x := fun x => by
    rw [hrunning]
    rfl
  refine ⟨?_, ?_, ?_, ?_, (hraised _).mpr (raised_raise _ _), fun x hx h => (hraised x).mpr ?_, fun hr hb => ?_,
    fun x hv hm ha => (congrArg Outlet.offlineCause (houtlet x)).trans (hmissing x hv hm ha), fun x ha => (houtlet x).trans (hfound x ha)⟩
  · show e.link = _
    rw [hrunning, hblocks]
    rfl
  · show e.run = _
    rw [hrunning, hblocks]
    rfl
  · rw [hrunning, hblocks]
    rfl
  · rw [hrunning, hblocks]
    exact ⟨rfl, rfl, rfl, rfl⟩
  · exact raised_raise_of_ne (c := d.updLink Link.discovered) ((raised_congr hport x).mpr h) fun he => hx (sourceIx_injective he).symm
  · have hlink : d.link = c.link := by rw [hblocks]
    have hrun : d.run = c.run := by rw [hblocks]
    have hh := hholds ((congrArg (·.running) hrun).trans hr) ((congrArg (·.buffer) hport).trans hb)
    rw [show ((d.updLink Link.discovered).raise .linkDiscovered).link = d.link.discovered from rfl, hlink] at hh
    exact hh

end

end Sys2Proof.Machine
end

section
/-! SUPPORT. What follows the exchange of an IDENT_REQ: in a discovery the next address or its end (R125, R127), at an attach probe the windows
(R133); and the causes of R121 read off the node table. -/

namespace Sys2Proof.Machine

/-! ### The causes of R121 -/

theorem otherKnown_iff {l : Link} {a : Addr} {p : Node → Bool} :
    l.otherKnown a p = true ↔ ∃ x, x ≠ a ∧ (l.nodes.get x).known = true ∧ p (l.nodes.get x) = true := by
  have hnone : l.otherKnown a p = false ↔ ∀ x, ¬ (x ≠ a ∧ (l.nodes.get x).known = true ∧ p (l.nodes.get x) = true) := by
    unfold Link.otherKnown
    rw [Option.isSome_eq_false_iff, Option.isNone_iff_eq_none, lowest_eq_none_iff]
    refine forall_congr' fun x => ?_
    rw [← Bool.not_eq_true, Bool.and_eq_true, Bool.and_eq_true, decide_eq_true_eq, and_assoc, Ne, Ne, Fin.ext_iff]
  rw [← Bool.not_eq_false, hnone, not_forall_not]

section
variable {l : Link} {a : Addr} {id : Identity}

/-- Another known node, where a node's kind allows one alone (R121). -/
def Link.sameKind (l : Link) (a : Addr) (id : Identity) : Prop :=
  (kindOfCode id.kindCode).isSome = true ∧ kindOfCode id.kindCode ≠ some .PEDESTAL
    ∧ ∃ x, x ≠ a ∧ (l.nodes.get x).known = true ∧ (l.nodes.get x).kind = kindOfCode id.kindCode

/-- Another known node has the serial (R121). -/
def Link.sameSerial (l : Link) (a : Addr) (id : Identity) : Prop :=
  ∃ x, x ≠ a ∧ (l.nodes.get x).known = true ∧ ((l.nodes.get x).identity.map (·.serial)) = some id.serial

/-- An IDENT of no kind, or of a PEDESTAL with an outlet count outside 1 to 4 (R121). -/
def Identity.bad (id : Identity) : Prop :=
  kindOfCode id.kindCode = none ∨ (kindOfCode id.kindCode = some .PEDESTAL ∧ ¬ (1 ≤ id.outletCount ∧ id.outletCount ≤ 4))

/-- The first cause of the table of R121 that applies. -/
theorem ignoreCause_cases (l : Link) (a : Addr) (id : Identity) : (l.sameKind a id → l.ignoreCause a id = some .DUPLICATE_KIND)
    ∧ (¬ l.sameKind a id → l.sameSerial a id → l.ignoreCause a id = some .DUPLICATE_SERIAL)
    ∧ (¬ l.sameKind a id → ¬ l.sameSerial a id → id.bad → l.ignoreCause a id = some .BAD_IDENT)
    ∧ (¬ l.sameKind a id → ¬ l.sameSerial a id → ¬ id.bad → l.ignoreCause a id = none) := by
  have hkind : ((kindOfCode id.kindCode).isSome && kindOfCode id.kindCode != some .PEDESTAL
      && l.otherKnown a fun n => n.kind == kindOfCode id.kindCode) = true ↔ l.sameKind a id := by
    simp only [Bool.and_eq_true, bne_iff_ne, otherKnown_iff, beq_iff_eq, and_assoc, Link.sameKind]
  have hserial : (l.otherKnown a fun n => (n.identity.map (·.serial)) == some id.serial) = true ↔ l.sameSerial a id := by
    simp only [otherKnown_iff, beq_iff_eq, Link.sameSerial]
  have hbad : ((kindOfCode id.kindCode).isNone || (kindOfCode id.kindCode == some .PEDESTAL
      && !(decide (1 ≤ id.outletCount ∧ id.outletCount ≤ 4)))) = true ↔ id.bad := by
    simp only [Bool.or_eq_true, Option.isNone_iff_eq_none, Bool.and_eq_true, beq_iff_eq, Bool.not_eq_true', decide_eq_false_iff_not,
      Identity.bad]
  rw [← hkind, ← hserial, ← hbad]
  exact ⟨fun h => if_pos h, fun h h' => (if_neg h).trans (if_pos h'), fun h h' hb => (if_neg h).trans ((if_neg h').trans (if_pos hb)),
    fun h h' hb => (if_neg h).trans ((if_neg h').trans (if_neg hb))⟩

end

/-! ### What follows in a discovery (R125, R127) -/

/-- What O40 says of the link and of START's answer after an IDENT or its timeout in a discovery. -/
def Controller.discoveryGoesOn (c t : Controller) (a : Addr) : Prop :=
  let asks := fun f : Sent => t.link.exchange = some { sent := f, tReply := c.inForce.tReply, waiting := none }
  let number := fun st : NodeState => ((List.finRange 30).filter fun x => (t.node x).state == st).length
  (∀ next : Addr, next.val = a.val + 1 → asks (.identReq next) ∧ t.link.state = .DISCOVERING ∧ t.pool = c.pool ∧ t.run = c.run)
    ∧ (a.val = 29 →
      t.link.state = .RUNNING ∧ t.link.cycles = 0 ∧ t.link.allSilent = 0 ∧ t.link.lastWindows = 0
      ∧ t.link.lastReports = 0 ∧ t.raised .linkDiscovered
      ∧ t.run = { c.run with running := true }
      ∧ (c.run.running = false → c.port.buffer = .PENDING 0x60 → t.holds 0x60 .OK (.nodes (number .PRESENT) (number .IGNORED)))
      ∧ t.pool = { c.pool with roundTimer := some (c.pool.roundTimer.getD (c.inForce.tRound * 1000)) }
      ∧ (∀ b, (c.bay b).map.valid = true → (c.outlet b).offlineCause = some .MAP_MISMATCH →
        (t.node (c.bay b).map.node).state = .ABSENT → (t.outlet b).offlineCause = some .NOT_SEEN)
      ∧ (∀ x, t.lowestKnown x → asks (.poll x) ∧ t.link.probe = 0)
      ∧ (∀ x, (∀ y, (t.node y).known = false) → (t.node x).state = .ABSENT →
        (∀ y, y < x → (t.node y).state ≠ .ABSENT) → asks (.identReq x) ∧ t.link.probe.val = (x.val + 1) % 30)
      ∧ (t.allIgnored → t.windowsBegin ∧ t.link.probe = 0))

section
variable {c : Controller} {a : Addr} (hst : c.link.state = .DISCOVERING) (hf : c.link.finalCycle = false)
include hst hf

/-- In a discovery the next address is asked, or after address 30 the first cycle begins (R125, R127). -/
theorem afterIdent_cases : (∃ n : Addr, n.val = a.val + 1 ∧ c.afterIdent a = c.send (.identReq n))
    ∨ (a.val = 29 ∧ ∃ d, c.Discovered d ∧ d.FirstFrame (c.afterIdent a)) := by
  unfold Controller.afterIdent
  rw [if_pos hst]
  by_cases h : a.val + 1 < 30
  · rw [dif_pos h]
    exact .inl ⟨_, rfl, rfl⟩
  · rw [dif_neg h, endDiscovery_eq]
    have hd := discovered_discovered c
    generalize c.discovered = d at *
    refine .inr ⟨by omega, d, hd, beginCycle_firstFrame ?_ ?_ ?_⟩
    · rw [hd.link]
      exact hf
    · rw [hd.link]
      rfl
    · rw [hd.link]
      rfl

/-- The nodes after it: their report-used flags are cleared where the windows begin, and nothing else is done to them. -/
theorem afterIdent_nodes (x : Addr) :
    let opens := a.val = 29 ∧ (c.afterIdent a).allIgnored
    (¬ opens → (c.afterIdent a).node x = c.node x) ∧ (opens → (c.afterIdent a).node x = { c.node x with reportUsed := false }) := by
  rcases afterIdent_cases (a := a) hst hf with ⟨n, hn, heq⟩ | ⟨ha, d, hd, hframe⟩
  · have := n.isLt
    rw [heq]
    exact ⟨fun _ => rfl, fun ⟨h, _⟩ => absurd h (by omega)⟩
  · have hnode : d.node x = c.node x := congrArg (fun l => l.nodes.get x) hd.link
    obtain ⟨hsame, hcleared⟩ := hframe.nodes x
    rw [← hnode]
    exact ⟨fun h => hsame fun hall => h ⟨ha, hall⟩, fun ⟨_, hall⟩ => hcleared hall⟩

theorem afterIdent_keeps : (c.afterIdent a).credit = c.credit ∧ (c.afterIdent a).storage = c.storage
    ∧ (c.afterIdent a).settings = c.settings ∧ (c.afterIdent a).lines = c.lines := by
  rcases afterIdent_cases (a := a) hst hf with ⟨n, -, heq⟩ | ⟨-, d, hd, hframe⟩
  · rw [heq]
    exact ⟨rfl, rfl, rfl, rfl⟩
  · obtain ⟨hcr, hst, hse, hli⟩ := hd.keeps
    obtain ⟨hcr', -, -, -, hst', hse', hli', -⟩ := nextFrame_blocks hframe.frame
    exact ⟨hcr'.trans hcr, hst'.trans hst, hse'.trans hse, hli'.trans hli⟩

theorem afterIdent_below (h : a.val < 29) : (c.afterIdent a).outlets = c.outlets ∧ (c.afterIdent a).port = c.port := by
  rcases afterIdent_cases (a := a) hst hf with ⟨n, -, heq⟩ | ⟨ha, -⟩
  · rw [heq]
    exact ⟨rfl, rfl⟩
  · omega

/-- Notices of another source than LINK stand (R127). -/
theorem afterIdent_raised {x : Cause} (hx : x.source ≠ .LINK) (h : c.raised x) : (c.afterIdent a).raised x := by
  rcases afterIdent_cases (a := a) hst hf with ⟨n, -, heq⟩ | ⟨-, d, hd, hframe⟩
  · rw [heq]
    exact h
  · obtain ⟨-, -, -, hport, -⟩ := nextFrame_blocks hframe.frame
    exact (raised_congr hport x).mpr (hd.raised x hx h)

theorem afterIdent_allSilent (h : c.link.allSilent = 0) : (c.afterIdent a).link.allSilent = 0 := by
  rcases afterIdent_cases (a := a) hst hf with ⟨n, -, heq⟩ | ⟨-, d, -, hframe⟩
  · rw [heq]
    exact h
  · exact hframe.allSilent

/-- The bays of a node that was found (R126). -/
theorem afterIdent_found {x : Bay} (h : (c.node (c.bay x).map.node).state ≠ .ABSENT) : (c.afterIdent a).outlet x = c.outlet x := by
  rcases afterIdent_cases (a := a) hst hf with ⟨n, -, heq⟩ | ⟨-, d, hd, hframe⟩
  · rw [heq]
    rfl
  · obtain ⟨-, hou, -⟩ := nextFrame_blocks hframe.frame
    exact (outlet_eq_of_outlets hou x).trans (hd.found x h)

theorem afterIdent_goesOn : c.discoveryGoesOn (c.afterIdent a) a := by
  obtain ⟨-, -, hset, -⟩ := afterIdent_keeps (a := a) hst hf
  have hasks : ∀ f, (c.afterIdent a).sends f →
      (c.afterIdent a).link.exchange = some { sent := f, tReply := c.inForce.tReply, waiting := none } := fun f hf => by
    rw [← show (c.afterIdent a).inForce.tReply = c.inForce.tReply from congrArg (·.stored.tReply) hset]
    exact hf
  rcases afterIdent_cases (a := a) hst hf with ⟨n, hn, heq⟩ | ⟨ha, d, hd, hframe⟩
  · have := n.isLt
    refine ⟨fun next hnext => ?_, fun h => by omega⟩
    obtain rfl : next = n := Fin.ext (hnext.trans hn.symm)
    rw [heq]
    exact ⟨rfl, hst, rfl, rfl⟩
  · have hlink : ∀ x, ((c.afterIdent a).node x).state = (c.node x).state := fun x => by
      obtain ⟨u, hu⟩ := hframe.frame.flags.node x
      rw [hu]
      exact congrArg (fun l => (l.nodes.get x).state) hd.link
    have hcount : ∀ st, c.link.countNodes st = ((List.finRange 30).filter fun x => ((c.afterIdent a).node x).state == st).length := fun st => by
      simp only [hlink]
      exact countNodes_eq c.link st
    obtain ⟨-, hou, hpo, hport, -, -, -, hru⟩ := nextFrame_blocks hframe.frame
    refine ⟨fun next hnext => absurd next.isLt (by omega), fun _ => ⟨?_, ?_, hframe.allSilent, ?_, ?_,
      (raised_congr hport _).mpr hd.reported, hru.trans hd.run, fun hr hb => ?_, hpo.trans hd.pool, fun b hv hm hb => ?_, fun x hx => ?_, fun x hnone hx hmin => ?_, hframe.windows⟩⟩
    · rw [hframe.frame.link, hd.link]
      rfl
    · rw [hframe.frame.link, hd.link]
      rfl
    · rw [hframe.frame.link, hd.link]
      rfl
    · rw [hframe.frame.link, hd.link]
      rfl
    · simp only [← hcount]
      exact (congrArg Port.buffer hport).trans (hd.answered hr hb)
    · rw [outlet_eq_of_outlets hou]
      exact hd.missing b hv hm ((hlink _).symm.trans hb)
    · obtain ⟨hsends, hprobe⟩ := hframe.polls x hx
      exact ⟨hasks _ hsends, hprobe⟩
    · obtain ⟨hsends, hprobe⟩ := hframe.probes x hnone hx hmin
      exact ⟨hasks _ hsends, hprobe⟩

end

/-- The same said of a state that differs from it in nothing that this speaks of. -/
theorem discoveryGoesOn_of {c d t : Controller} {a : Addr} (h : d.discoveryGoesOn t a) (hset : d.settings = c.settings) (hrun : d.run = c.run)
    (hbuffer : d.port.buffer = c.port.buffer) (hpool : d.pool = c.pool)
    (hout : ∀ b, (t.node (c.bay b).map.node).state = .ABSENT → d.outlet b = c.outlet b) : c.discoveryGoesOn t a := by
  unfold Controller.discoveryGoesOn Controller.inForce at *
  simp only [hset, hrun, hbuffer, hpool, bay_eq_of_settings hset] at h
  obtain ⟨hnext, hlast⟩ := h
  refine ⟨hnext, fun ha => ?_⟩
  obtain ⟨hst, hcy, has, hw, hr, hraised, hrun', hholds, hpool', hmissing, hfirst⟩ := hlast ha
  exact ⟨hst, hcy, has, hw, hr, hraised, hrun', hholds, hpool', fun b hv hm hb => hmissing b hv (by rw [hout b hb]; exact hm) hb, hfirst⟩

/-! ### An IDENT or its timeout in a discovery (R125, R126) -/

/-- The exchange in progress removed. -/
def Controller.complete (c : Controller) : Controller := c.updLink fun l => { l with exchange := none }

section
variable (c : Controller)

theorem complete_node (x : Addr) : c.complete.node x = c.node x := rfl
theorem complete_outlet (x : Bay) : c.complete.outlet x = c.outlet x := rfl
theorem complete_bay (x : Bay) : c.complete.bay x = c.bay x := rfl
theorem complete_raised (x : Cause) : c.complete.raised x ↔ c.raised x := Iff.rfl
theorem complete_allSilent : c.complete.link.allSilent = c.link.allSilent := rfl

end

section
variable {c e : Controller} {a : Addr} (hk : c.CycleKept e)
include hk

theorem complete_states : e.complete.link.state = c.link.state ∧ e.complete.link.finalCycle = c.link.finalCycle := by
  have h : e.complete.link = { e.link with exchange := none } := rfl
  rw [h, hk.link]
  exact ⟨rfl, rfl⟩

variable (hst : c.link.state = .DISCOVERING) (hf : c.link.finalCycle = false)
include hst hf

theorem complete_discovers : e.complete.link.state = .DISCOVERING ∧ e.complete.link.finalCycle = false := by
  obtain ⟨hstate, hfinal⟩ := complete_states hk
  exact ⟨hstate.trans hst, hfinal.trans hf⟩

/-- What follows in a discovery, seen from the state before the row. -/
theorem complete_goesOn (hpool : e.pool = c.pool)
    (hout : ∀ b, (e.node (c.bay b).map.node).state = .ABSENT → e.outlet b = c.outlet b) : c.discoveryGoesOn (e.complete.afterIdent a) a := by
  obtain ⟨hstate, hfinal⟩ := complete_discovers hk hst hf
  refine discoveryGoesOn_of (afterIdent_goesOn hstate hfinal) hk.settings hk.run hk.buffer hpool fun b hb => hout b ?_
  obtain ⟨hsame, hcleared⟩ := afterIdent_nodes (a := a) hstate hfinal (c.bay b).map.node
  by_cases hopens : a.val = 29 ∧ (e.complete.afterIdent a).allIgnored
  · rw [hcleared hopens] at hb
    exact hb
  · rw [hsame hopens] at hb
    exact hb

/-- The blocks that a discovery's end leaves alone. -/
theorem complete_keeps : (e.complete.afterIdent a).credit = e.credit ∧ (e.complete.afterIdent a).storage = e.storage
    ∧ (e.complete.afterIdent a).settings = c.settings ∧ (e.complete.afterIdent a).lines = c.lines := by
  obtain ⟨hstate, hfinal⟩ := complete_discovers hk hst hf
  obtain ⟨hcredit, hstorage, hset, hlines⟩ := afterIdent_keeps (a := a) hstate hfinal
  exact ⟨hcredit, hstorage, hset.trans hk.settings, hlines.trans hk.lines⟩

/-- Notices, the all-silent count and the bays of nodes that were found, after an exchange. -/
theorem complete_leaves : (∀ x : Cause, x.source ≠ .LINK → e.raised x → (e.complete.afterIdent a).raised x)
    ∧ (e.link.allSilent = 0 → (e.complete.afterIdent a).link.allSilent = 0)
    ∧ ∀ b, (e.node (c.bay b).map.node).state ≠ .ABSENT → (e.complete.afterIdent a).outlet b = e.outlet b := by
  obtain ⟨hstate, hfinal⟩ := complete_discovers hk hst hf
  refine ⟨fun x hx h => afterIdent_raised hstate hfinal hx ((complete_raised e x).mpr h), fun h => ?_, fun b hb => ?_⟩
  · exact afterIdent_allSilent hstate hfinal ((complete_allSilent e).trans h)
  · rw [← complete_outlet]
    refine afterIdent_found hstate hfinal ?_
    rw [complete_bay, bay_eq_of_settings hk.settings, complete_node]
    exact hb

theorem complete_nodes (x : Addr) (hx : e.node x = c.node x) :
    let opens := a.val = 29 ∧ (e.complete.afterIdent a).allIgnored
    (¬ opens → (e.complete.afterIdent a).node x = c.node x)
      ∧ (opens → (e.complete.afterIdent a).node x = { c.node x with reportUsed := false }) := by
  obtain ⟨hstate, hfinal⟩ := complete_discovers hk hst hf
  rw [← hx]
  exact afterIdent_nodes hstate hfinal x

end

section
variable {c : Controller} {a : Addr} (id : Identity)

theorem entered_found (cause : Option IgnoreCause) : (Node.entered cause id).state ≠ .ABSENT := by
  have hstate : (Node.entered cause id).state = if cause.isSome then .IGNORED else .PRESENT := rfl
  rw [hstate]
  split <;> decide

theorem takeIdent_goesOn (hst : c.link.state = .DISCOVERING) (hf : c.link.finalCycle = false) :
    c.discoveryGoesOn ((c.takeIdent a id).complete.afterIdent a) a := by
  obtain ⟨-, hpool, -, -⟩ := takeIdent_keeps c a id
  refine complete_goesOn (cycleKept_takeIdent c a id) hst hf hpool fun b hb => takeIdent_outlet_of_not c a id fun ⟨_, hn⟩ => ?_
  rw [hn, takeIdent_node] at hb
  exact entered_found id _ hb

theorem takeIdent_entered (hst : c.link.state = .DISCOVERING) (hf : c.link.finalCycle = false) :
    c.enteredAt ((c.takeIdent a id).complete.afterIdent a) a id := by
  have hk := cycleKept_takeIdent c a id
  have hused := takeIdent_reportUsed c a id
  have hnode := takeIdent_node c a id
  have hsilent := (takeIdent_allSilent c a id).1
  obtain ⟨hstate, hfinal⟩ := complete_discovers hk hst hf
  obtain ⟨hraised, hallSilent, hfound⟩ := complete_leaves (a := a) hk hst hf
  obtain ⟨-, hstorage, -, -⟩ := complete_keeps (a := a) hk hst hf
  obtain ⟨hsame, hcleared⟩ := afterIdent_nodes (a := a) hstate hfinal a
  refine enteredAt_of_takeIdent c a id ?_ (fun x hx => hraised x ?_) (fun h => hallSilent (hsilent h)) hstorage fun b _ hb => hfound b ?_
  · rw [complete_node] at hsame hcleared
    by_cases hopens : a.val = 29 ∧ ((c.takeIdent a id).complete.afterIdent a).allIgnored
    · exact hcleared hopens
    · rw [hsame hopens, ← hused]
  · rcases hx with hx | hx
    · rw [hx]
      decide
    · rw [hx]
      decide
  · rw [hb, hnode]
    exact entered_found id _

end

/-! ### An IDENT or its timeout at an attach probe (R133) -/

section
variable {c : Controller} {a : Addr}

theorem afterIdent_attach (hst : c.link.state = .RUNNING) : c.afterIdent a = c.startWindows := if_neg (by rw [hst]; decide)

theorem startWindows_begins (c : Controller) : c.startWindows.windowsBegin :=
  ⟨rfl, rfl, rfl, fun x => congrArg Node.reportUsed (startWindows_node c x)⟩

/-- What the first window leaves after an attach probe. -/
theorem attach_leaves (e : Controller) : (∀ x, e.complete.startWindows.node x = { e.node x with reportUsed := false })
    ∧ (∀ x, e.complete.startWindows.raised x ↔ e.raised x) ∧ e.complete.startWindows.link.allSilent = e.link.allSilent
    ∧ e.complete.startWindows.storage = e.storage ∧ ∀ b, e.complete.startWindows.outlet b = e.outlet b :=
  ⟨fun x => startWindows_node e.complete x, fun _ => Iff.rfl, rfl, rfl, fun _ => rfl⟩

theorem takeIdent_attaches (id : Identity) : c.enteredAt (c.takeIdent a id).complete.startWindows a id := by
  obtain ⟨hnode, hraised, hsilent, hstorage, houtlet⟩ := attach_leaves (c.takeIdent a id)
  exact enteredAt_of_takeIdent c a id (hnode a) (fun x _ => (hraised x).mpr) (fun h => hsilent.trans ((takeIdent_allSilent c a id).1 h))
    hstorage fun b _ _ => houtlet b

end

/-! ### O40 -/

section
variable {s : State} (htaking : s.ctl.taking = true) {a : Addr} (hw : s.ctl.link.awaited = some (.identReq a))
  (hstop : s.ctl.link.stopWaiting = false) (hrestart : s.ctl.link.restartWaiting = false) (hphase : s.ctl.link.window.phase = .NONE)
include htaking hw hstop hrestart hphase

theorem exec_ident_goesOn (id : Identity) : exec (.ident a id.kindCode id.outletCount id.rating id.serial) s =
    .next (s.put ((s.ctl.takeIdent a id).complete.afterIdent a)) := by
  have hlink := (cycleKept_takeIdent s.ctl a id).link
  rw [exec_ident htaking hw, exchangeDone_goes_on]
  · rfl
  · rw [hlink]
    exact hstop
  · rw [hlink]
    exact hrestart
  · rw [hlink, hphase]
    decide

theorem exec_identTimeout_goesOn : exec .identTimeout s = .next (s.put (s.ctl.complete.afterIdent a)) := by
  rw [exec_identTimeout htaking hw, exchangeDone_goes_on _ hstop hrestart (by rw [hphase]; decide)]
  rfl

section
variable (hst : s.ctl.link.state = .DISCOVERING) (hf : s.ctl.link.finalCycle = false)
include hst hf

theorem ident_discovers (id : Identity) : ∃ t, exec (.ident a id.kindCode id.outletCount id.rating id.serial) s = .next t
    ∧ s.ctl.discoveryGoesOn t.ctl a ∧ s.ctl.enteredAt t.ctl a id
    ∧ (∀ x, x ≠ a → (¬ (a.val = 29 ∧ t.ctl.allIgnored) → t.ctl.node x = s.ctl.node x)
      ∧ (a.val = 29 ∧ t.ctl.allIgnored → t.ctl.node x = { s.ctl.node x with reportUsed := false }))
    ∧ t.ctl.credit = s.ctl.credit ∧ t.ctl.settings = s.ctl.settings ∧ t.ctl.lines = s.ctl.lines := by
  have hk := cycleKept_takeIdent s.ctl a id
  obtain ⟨hcredit, -, hset, hlines⟩ := complete_keeps (a := a) hk hst hf
  obtain ⟨hcredit', -⟩ := takeIdent_keeps s.ctl a id
  have hgoes := takeIdent_goesOn (a := a) id hst hf
  have hentered := takeIdent_entered (a := a) id hst hf
  have hnodes := fun x hx => complete_nodes (a := a) hk hst hf x (takeIdent_node_of_ne s.ctl a id hx)
  refine ⟨_, exec_ident_goesOn htaking hw hstop hrestart hphase id, ?_⟩
  generalize (s.ctl.takeIdent a id).complete.afterIdent a = t at *
  exact ⟨hgoes, hentered, hnodes, hcredit.trans hcredit', hset, hlines⟩

theorem identTimeout_discovers : ∃ t, exec .identTimeout s = .next t ∧ s.ctl.discoveryGoesOn t.ctl a
    ∧ (∀ x, (¬ (a.val = 29 ∧ t.ctl.allIgnored) → t.ctl.node x = s.ctl.node x)
      ∧ (a.val = 29 ∧ t.ctl.allIgnored → t.ctl.node x = { s.ctl.node x with reportUsed := false }))
    ∧ (a.val < 29 → t.ctl.outlets = s.ctl.outlets ∧ t.ctl.port = s.ctl.port)
    ∧ t.ctl.credit = s.ctl.credit ∧ t.ctl.storage = s.ctl.storage ∧ t.ctl.settings = s.ctl.settings ∧ t.ctl.lines = s.ctl.lines := by
  have hk : s.ctl.CycleKept s.ctl := ⟨rfl, rfl, rfl, rfl, rfl⟩
  obtain ⟨hstate, hfinal⟩ := complete_discovers hk hst hf
  exact ⟨_, exec_identTimeout_goesOn htaking hw hstop hrestart hphase, complete_goesOn hk hst hf rfl fun _ _ => rfl,
    fun x => complete_nodes hk hst hf x rfl, afterIdent_below hstate hfinal, afterIdent_keeps hstate hfinal⟩

end

section
variable (hst : s.ctl.link.state = .RUNNING)
include hst

theorem ident_attaches (id : Identity) : ∃ t, exec (.ident a id.kindCode id.outletCount id.rating id.serial) s = .next t
    ∧ t.ctl.windowsBegin ∧ s.ctl.enteredAt t.ctl a id ∧ (s.ctl.link.ignoreCause a id = none → t.ctl.raised .nodeAttached)
    ∧ (s.ctl.link.ignoreCause a id ≠ none → t.ctl.link.allSilent = s.ctl.link.allSilent)
    ∧ (∀ x, x ≠ a → t.ctl.node x = { s.ctl.node x with reportUsed := false }) ∧ t.ctl.link.state = .RUNNING
    ∧ t.ctl.link.probe = s.ctl.link.probe ∧ t.ctl.link.cycles = s.ctl.link.cycles ∧ t.ctl.credit = s.ctl.credit
    ∧ t.ctl.pool = s.ctl.pool ∧ t.ctl.settings = s.ctl.settings ∧ t.ctl.lines = s.ctl.lines ∧ t.ctl.run = s.ctl.run := by
  have hexec := exec_ident_goesOn htaking hw hstop hrestart hphase id
  have hk := cycleKept_takeIdent s.ctl a id
  obtain ⟨hcredit, hpool, -, -⟩ := takeIdent_keeps s.ctl a id
  have hattached := takeIdent_attached s.ctl a id
  have hsilent := (takeIdent_allSilent s.ctl a id).2
  have hothers := fun x => takeIdent_node_of_ne s.ctl a id (x := x)
  have hentered := takeIdent_attaches (c := s.ctl) (a := a) id
  rw [afterIdent_attach ((complete_states hk).1.trans hst)] at hexec
  refine ⟨_, hexec, startWindows_begins _, hentered, ?_⟩
  generalize s.ctl.takeIdent a id = e at *
  have hlink : e.complete.startWindows.link.state = e.link.state ∧ e.complete.startWindows.link.probe = e.link.probe
      ∧ e.complete.startWindows.link.cycles = e.link.cycles := ⟨rfl, rfl, rfl⟩
  rw [hk.link] at hlink
  obtain ⟨hstate, hprobe, hcycles⟩ := hlink
  refine ⟨fun h => hattached h (by rw [hst]; decide), hsilent, fun x hx => ?_, hstate.trans hst, hprobe, hcycles, hcredit, hpool, hk.settings,
    hk.lines, hk.run⟩
  rw [← hothers x hx]
  exact startWindows_node _ x

theorem identTimeout_attaches : ∃ t, exec .identTimeout s = .next t ∧ t.ctl.windowsBegin
    ∧ (∀ x, t.ctl.node x = { s.ctl.node x with reportUsed := false }) ∧ t.ctl.link.state = .RUNNING
    ∧ t.ctl.link.allSilent = s.ctl.link.allSilent ∧ t.ctl.link.probe = s.ctl.link.probe ∧ t.ctl.outlets = s.ctl.outlets
    ∧ t.ctl.credit = s.ctl.credit ∧ t.ctl.pool = s.ctl.pool ∧ t.ctl.port = s.ctl.port ∧ s.ctl.quietBlocks t.ctl := by
  have hexec := exec_identTimeout_goesOn htaking hw hstop hrestart hphase
  rw [afterIdent_attach (c := s.ctl.complete) hst] at hexec
  exact ⟨_, hexec, startWindows_begins _, fun x => startWindows_node _ x, hst, rfl, rfl, rfl, rfl, rfl, rfl, rfl, rfl, rfl, rfl⟩

end

end

/-- Settles O40: an IDENT and its timeout, in a discovery and at an attach probe, and the table of R121. -/
theorem discoveryAsksEachAddressInTurn : Obligations.DiscoveryAsksEachAddressInTurn := by
  refine ⟨fun s a htaking hst hw hstop hrestart hphase hf => ?_, fun s a htaking ho hw => ?_, ignoreCause_cases⟩
  · exact ⟨fun kind count rating serial => ident_discovers htaking hw hstop hrestart hphase hst hf
      { kindCode := kind, outletCount := count, rating := rating, serial := serial },
      identTimeout_discovers htaking hw hstop hrestart hphase hst hf⟩
  · obtain ⟨hst, hstop, hrestart, hphase, -⟩ := ho
    exact ⟨fun kind count rating serial => ident_attaches htaking hw hstop hrestart hphase hst
      { kindCode := kind, outletCount := count, rating := rating, serial := serial },
      identTimeout_attaches htaking hw hstop hrestart hphase hst⟩

end Sys2Proof.Machine
end

section
/-! SUPPORT. LINK_FRAME (R148, R184), the frame of a raw exchange once it has been sent, and the end of the exchange at its reply or its
timeout, where nothing else waits for that end (R148). -/

namespace Sys2Proof.Machine

/-! ### The window record -/

theorem addrOf?_val_succ (a : Addr) : addrOf? (a.val + 1) = some a := dif_pos ⟨Nat.le_add_left 1 a.val, a.isLt⟩

theorem usable_iff (w : WindowRecord) : w.usable = true ↔ w.phase = .HELD ∧ w.expired = false := by
  unfold WindowRecord.usable
  rw [Bool.and_eq_true, beq_iff_eq, Bool.not_eq_true']

theorem unusable_iff (w : WindowRecord) : w.usable = false ↔ w.phase ≠ .HELD ∨ w.expired = true := by
  rw [← Bool.not_eq_true, usable_iff, not_and_or, Bool.not_eq_false]

/-- A raw exchange whose frame has been sent awaits the reply of its address (R148). -/
theorem awaiting_of_waiting {w : WindowRecord} {raw : RawExchange} (h : w.raw = some raw) (hwait : raw.waiting.isSome = true) :
    w.awaiting = some raw.address := by
  unfold WindowRecord.awaiting
  rw [h]
  exact if_pos hwait

/-! ### LINK_FRAME (R148, R184) -/

section
variable {s : State} (htaking : s.ctl.taking = true)
include htaking

theorem linkFrame_badParam {n : Nat} {payload : List Byte}
    (h : ¬ (1 ≤ n ∧ n ≤ 30) ∨ payload.length < 1 ∨ 32 < payload.length) :
    exec (.linkFrame n payload) s = .next (s.put (s.ctl.answer 0x43 .BAD_PARAM .none)) := by
  show execLinkFrame n payload s = _
  unfold execLinkFrame
  refine command_answers htaking ?_
  by_cases hn : 1 ≤ n ∧ n ≤ 30
  · obtain ⟨a, -, ha⟩ := addrOf?_eq_some hn
    rw [ha]
    exact if_pos (h.resolve_left (not_not_intro hn))
  · rw [addrOf?_eq_none hn]
    rfl

section
variable (a : Addr) {payload : List Byte} (hpos : 1 ≤ payload.length) (hmax : payload.length ≤ 32)
include hpos hmax

/-- With its parameters in range LINK_FRAME asks for a usable window and no raw exchange in progress, in this order. -/
theorem linkFrame_in_range : exec (.linkFrame (a.val + 1) payload) s = .next (s.put (
    if !s.ctl.link.window.usable then s.ctl.answer 0x43 .NOT_HELD .none
    else if s.ctl.link.window.raw.isSome then s.ctl.answer 0x43 .BUSY .none
    else (s.ctl.taken 0x43).updWindow fun w =>
      { w with raw := some { address := a, bytes := payload, tReply := s.ctl.inForce.tReply, waiting := none }
               frameCount := satAdd u16Max w.frameCount 1 })) := by
  have hlen : ¬ (payload.length < 1 ∨ 32 < payload.length) := by omega
  show execLinkFrame (a.val + 1) payload s = _
  rw [execLinkFrame, command_taken _ _ htaking, addrOf?_val_succ]
  simp only [if_neg hlen, taken_link, taken_refuse]
  rfl

theorem linkFrame_notHeld (h : s.ctl.link.window.usable = false) :
    exec (.linkFrame (a.val + 1) payload) s = .next (s.put (s.ctl.answer 0x43 .NOT_HELD .none)) := by
  rw [linkFrame_in_range htaking a hpos hmax, h]
  rfl

theorem linkFrame_busy (h : s.ctl.link.window.usable = true) (hraw : s.ctl.link.window.raw.isSome = true) :
    exec (.linkFrame (a.val + 1) payload) s = .next (s.put (s.ctl.answer 0x43 .BUSY .none)) := by
  rw [linkFrame_in_range htaking a hpos hmax, h, hraw]
  rfl

/-- The raw exchange is recorded and counted, and the response waits. -/
theorem linkFrame_begins (h : s.ctl.link.window.usable = true) (hraw : s.ctl.link.window.raw = none) :
    exec (.linkFrame (a.val + 1) payload) s = .next (s.put { s.ctl with
      port := s.ctl.port.take 0x43
      link := { s.ctl.link with window := { s.ctl.link.window with
        raw := some { address := a, bytes := payload, tReply := s.ctl.inForce.tReply, waiting := none }
        frameCount := min 65535 (s.ctl.link.window.frameCount + 1) } } }) := by
  rw [linkFrame_in_range htaking a hpos hmax, h, hraw]
  rfl

end

/-! ### The raw exchange, sent and completed (R148) -/

/-- The frame of a raw exchange has been sent: the wait for its reply begins. -/
theorem frameSent_raw {raw : RawExchange} (hex : s.ctl.link.exchange = none) (h : s.ctl.link.window.raw = some raw)
    (hwait : raw.waiting = none) :
    exec .frameSent s = .next (s.put { s.ctl with link := { s.ctl.link with window := { s.ctl.link.window with
      raw := some { raw with waiting := some raw.tReply } } } }) := by
  show execFrameSent s = _
  rw [execFrameSent, event_taking _ htaking]
  simp only [hex, h, hwait, Option.isSome_none, Bool.false_eq_true, if_false, Controller.updLink, State.put]

end

/-- A raw exchange that no end of the window waits for is removed, and LINK_FRAME's response made if its buffer is still there (R184). -/
theorem rawDone_of_not_ending {c : Controller} (h : c.link.window.ending = none) (st : Status) (y : Body) :
    c.rawDone st y = { c with
      port := if c.port.buffer = .PENDING 0x43 then c.port.answer 0x43 st y else c.port
      link := { c.link with window := { c.link.window with raw := none } } } := by
  have hending : ((c.answerLate 0x43 st y).updWindow fun w => { w with raw := none }).link.window.ending = none := h
  unfold Controller.rawDone Controller.endAfterRaw
  rw [hending]
  rfl

section
variable {s : State} (htaking : s.ctl.taking = true) {raw : RawExchange} (h : s.ctl.link.window.raw = some raw)
  (hwait : raw.waiting.isSome = true)
include htaking h hwait

theorem exec_rawReply (bytes : List Byte) :
    exec (.rawReply raw.address bytes) s = .next (s.put (s.ctl.rawDone .OK (.reply bytes))) := by
  show execRawReply raw.address bytes s = _
  rw [execRawReply, event_taking _ htaking, if_pos (awaiting_of_waiting h hwait)]

/-- A reply of another address is discarded. -/
theorem exec_rawReply_other {x : Addr} (hx : x ≠ raw.address) (bytes : List Byte) : exec (.rawReply x bytes) s = .next s := by
  have hother : ¬ s.ctl.link.window.awaiting = some x := by
    rw [awaiting_of_waiting h hwait, Option.some_inj]
    exact hx.symm
  show execRawReply x bytes s = _
  rw [execRawReply, event_taking _ htaking, if_neg hother]

theorem exec_rawReplyTimeout : exec .rawReplyTimeout s = .next (s.put (s.ctl.rawDone .NO_REPLY .none)) := by
  have hawaiting : s.ctl.link.window.awaiting.isSome = true := Option.isSome_of_eq_some (awaiting_of_waiting h hwait)
  show execRawReplyTimeout s = _
  rw [execRawReplyTimeout, event_taking _ htaking, if_pos hawaiting]

end

/-- Settles O46: LINK_FRAME with its refusals, its frame sent, and the reply or the timeout that completes the exchange. -/
theorem rawExchangeIsMadeAndAnswered : Obligations.RawExchangeIsMadeAndAnswered := by
  intro s htaking
  refine ⟨fun a payload hpos hmax => ⟨fun hp => ?phase, fun _ he => ?expired, fun hp he hraw => ?busy, fun hp he hraw => ?begins⟩,
    fun _ _ => linkFrame_badParam htaking, fun _ => frameSent_raw htaking, fun raw h hwait hending => ?completes⟩
  case phase => exact linkFrame_notHeld htaking a hpos hmax ((unusable_iff _).mpr (.inl hp))
  case expired => exact linkFrame_notHeld htaking a hpos hmax ((unusable_iff _).mpr (.inr he))
  case busy => exact linkFrame_busy htaking a hpos hmax ((usable_iff _).mpr ⟨hp, he⟩) hraw
  case begins => exact linkFrame_begins htaking a hpos hmax ((usable_iff _).mpr ⟨hp, he⟩) hraw
  case completes =>
    refine ⟨fun bytes => ?_, ?_, fun x bytes hx => exec_rawReply_other htaking h hwait hx bytes⟩
    · rw [exec_rawReply htaking h hwait, rawDone_of_not_ending hending]
    · rw [exec_rawReplyTimeout htaking h hwait, rawDone_of_not_ending hending]

end Sys2Proof.Machine
end

section
/-! SUPPORT. The site lines (R154, R155, R159, R164): a level on a wire and its qualification, row by row, and O49. -/

namespace Sys2Proof.Machine

/-! ### The bank (R155) -/

theorem bank_eq (l : Lines) :
    l.bank = (if l.gl0.qualified then 1 else 0) + (if l.gl1.qualified then 2 else 0) + if l.gl2.qualified then 4 else 0 := by
  unfold Lines.bank
  cases l.gl0.qualified <;> cases l.gl1.qualified <;> cases l.gl2.qualified <;> rfl

theorem lImp_bank (x : Settings) (i : Fin 8) : x.lImp i.val = x.banks.get i := dif_pos i.isLt

/-! ### LINE_CHANGE (R154, log 8) -/

section
variable {s : State} (line : LineId) (active : Bool)

theorem exec_lineChange_taking (h : s.ctl.taking = true) : exec (.lineChange line active) s = .next (s.put { s.ctl with
    lines := s.ctl.lines.set line ((s.ctl.lines.get line).change active) }) := by
  show execLineChange line active s = _
  rw [execLineChange, onController_eq]
  dsimp only
  rw [if_pos h]

theorem exec_lineChange_idle (h : s.ctl.taking = false) : exec (.lineChange line active) s = .next (s.put { s.ctl with
    lines := s.ctl.lines.set line ((s.ctl.lines.get line).follow active) }) := by
  show execLineChange line active s = _
  rw [execLineChange, onController_eq]
  dsimp only
  rw [if_neg (by rw [h]; decide)]

end

/-! ### Qualification (R154, log 2) -/

theorem differs_iff (l : Line) : l.differs = true ↔ l.wire ≠ l.qualified := bne_iff_ne

/-- A line with a new level is qualified at it, and the effect follows. -/
theorem qualify_of_differs {c : Controller} {line : LineId} (h : (c.lines.get line).wire ≠ (c.lines.get line).qualified)
    (f : Controller → Controller) : c.qualify line f = f { c with lines := c.lines.set line (c.lines.get line).qualify } :=
  if_pos ((differs_iff _).mpr h)

/-- A line whose qualified level is already the wire's is left as it is. -/
theorem qualify_of_settled {c : Controller} {line : LineId} (h : (c.lines.get line).wire = (c.lines.get line).qualified)
    (f : Controller → Controller) : c.qualify line f = c :=
  if_neg fun hd => (differs_iff _).mp hd h

/-- An event whose effect changes nothing. -/
theorem event_still {f : Controller → Controller} {s : State} (htaking : s.ctl.taking = true) (h : f s.ctl = s.ctl) :
    event f s = .next s := by
  rw [event_taking f htaking, h]

section
variable {s : State} (htaking : s.ctl.taking = true)
include htaking

/-! ### The grid-limit lines -/

section
variable {i : Fin 3}

theorem exec_gridLimitQualified (h : (s.ctl.lines.get (gridLine i)).wire ≠ (s.ctl.lines.get (gridLine i)).qualified) :
    exec (.gridLimitQualified i) s = .next (s.put { s.ctl with
      lines := s.ctl.lines.set (gridLine i) (s.ctl.lines.get (gridLine i)).qualify }) := by
  show event (Controller.qualify (gridLine i) id) s = _
  rw [event_taking _ htaking, qualify_of_differs h]
  rfl

theorem exec_gridLimitQualified_still (h : (s.ctl.lines.get (gridLine i)).wire = (s.ctl.lines.get (gridLine i)).qualified) :
    exec (.gridLimitQualified i) s = .next s :=
  event_still htaking (qualify_of_settled h id)

end

/-! ### STOP_ALL (R157, R159) -/

/-- STOP_ALL asserted: the line is qualified, every session ends, and the notice is raised. -/
theorem exec_stopAsserted (hwire : s.ctl.lines.stopAll.wire = true) (hqualified : s.ctl.lines.stopAll.qualified = false) :
    exec .stopAsserted s = .next (s.put ((forBays (Controller.endForStop .STOP_INPUT)
      { s.ctl with lines := s.ctl.lines.set .stopAll s.ctl.lines.stopAll.qualify }).raise .inputStopAsserted)) := by
  have hdiffers : (s.ctl.lines.get .stopAll).wire ≠ (s.ctl.lines.get .stopAll).qualified := fun h =>
    nomatch hwire.symm.trans (h.trans hqualified)
  show execStopAsserted s = _
  rw [execStopAsserted, event_taking _ htaking, if_pos hwire, qualify_of_differs hdiffers]
  rfl

theorem exec_stopAsserted_still (h : s.ctl.lines.stopAll.wire = false ∨ s.ctl.lines.stopAll.qualified = true) :
    exec .stopAsserted s = .next s := by
  refine event_still htaking ?_
  cases hwire : s.ctl.lines.stopAll.wire with
  | false => exact if_neg Bool.false_ne_true
  | true =>
    have hqualified : s.ctl.lines.stopAll.qualified = true := h.resolve_left (by rw [hwire]; decide)
    exact (if_pos rfl).trans (qualify_of_settled (line := .stopAll) (hwire.trans hqualified.symm) _)

theorem exec_stopReleased (hwire : s.ctl.lines.stopAll.wire = false) (hqualified : s.ctl.lines.stopAll.qualified = true) :
    exec .stopReleased s = .next (s.put { s.ctl with
      lines := s.ctl.lines.set .stopAll s.ctl.lines.stopAll.qualify, port := s.ctl.port.raise .inputStopReleased }) := by
  have hdiffers : (s.ctl.lines.get .stopAll).wire ≠ (s.ctl.lines.get .stopAll).qualified := fun h =>
    nomatch hwire.symm.trans (h.trans hqualified)
  show execStopReleased s = _
  rw [execStopReleased, event_taking _ htaking, if_neg (by rw [hwire]; decide), qualify_of_differs hdiffers]
  rfl

theorem exec_stopReleased_still (h : s.ctl.lines.stopAll.wire = true ∨ s.ctl.lines.stopAll.qualified = false) :
    exec .stopReleased s = .next s := by
  refine event_still htaking ?_
  cases hwire : s.ctl.lines.stopAll.wire with
  | true => exact if_pos rfl
  | false =>
    have hqualified : s.ctl.lines.stopAll.qualified = false := h.resolve_left (by rw [hwire]; decide)
    exact (if_neg Bool.false_ne_true).trans (qualify_of_settled (line := .stopAll) (hwire.trans hqualified.symm) _)

/-! ### KEYLOCK (R164) -/

theorem exec_keylockQualified {opened : Bool} (hwire : s.ctl.lines.keylock.wire = opened)
    (hqualified : s.ctl.lines.keylock.qualified ≠ opened) : exec (.keylockQualified opened) s = .next (s.put { s.ctl with
      lines := s.ctl.lines.set .keylock s.ctl.lines.keylock.qualify
      port := s.ctl.port.raise (if opened then .inputKeyOpened else .inputKeyClosed) }) := by
  have hdiffers : (s.ctl.lines.get .keylock).wire ≠ (s.ctl.lines.get .keylock).qualified := fun h => hqualified (h.symm.trans hwire)
  show execKeylockQualified opened s = _
  rw [execKeylockQualified, event_taking _ htaking, if_pos hwire, qualify_of_differs hdiffers]
  rfl

theorem exec_keylockQualified_still {opened : Bool}
    (h : s.ctl.lines.keylock.wire ≠ opened ∨ s.ctl.lines.keylock.qualified = s.ctl.lines.keylock.wire) :
    exec (.keylockQualified opened) s = .next s := by
  refine event_still htaking ?_
  by_cases hwire : s.ctl.lines.keylock.wire = opened
  · have hqualified := h.resolve_left (not_not.mpr hwire)
    exact (if_pos hwire).trans (qualify_of_settled (line := .keylock) hqualified.symm _)
  · exact if_neg hwire

end

/-- Settles O49: the bank and its stored value, LINE_CHANGE by whether events are taken, and each qualification row by its line. -/
theorem linesQualifyAndAct : Obligations.LinesQualifyAndAct := by
  refine ⟨bank_eq, lImp_bank, fun s => ⟨fun line active => ⟨?taking, ?idle⟩, fun htaking => ⟨?grid, ?gridStill, ?asserted,
    ?released, ?keyStill, ?releases, ?opens, ?closes⟩⟩⟩
  case taking => exact exec_lineChange_taking line active
  case idle => exact exec_lineChange_idle line active
  case grid => exact fun i h => exec_gridLimitQualified htaking h
  case gridStill => exact fun i h => exec_gridLimitQualified_still htaking h
  case asserted => exact exec_stopAsserted_still htaking
  case released => exact exec_stopReleased_still htaking
  case keyStill => exact fun opened h => exec_keylockQualified_still htaking h
  case releases => exact exec_stopReleased htaking
  case opens => exact fun hwire hqualified => exec_keylockQualified htaking hwire (by rw [hqualified]; decide)
  case closes => exact fun hwire hqualified => exec_keylockQualified htaking hwire (by rw [hqualified]; decide)

end Sys2Proof.Machine
end

section
/-! SUPPORT. The end of every session at STOP_ALL or STOP (R40, R157, R197): what it makes of each outlet, what it leaves of the queue, and
what it leaves alone; and O50. -/

namespace Sys2Proof.Machine

/-! ### The end of a session for a stop, at its outlet (R40) -/

/-- What a stop makes of an outlet: no session stands, and a held one is summarised with the reason; the outlet goes to ENDING for an
admitted session and to PLUGGED for another, in its state before silence where it is OFFLINE (R39, R40). -/
structure Outlet.Stopped (reason : EndReason) (o o' : Outlet) : Prop where
  session : o'.session = none
  summary : ∀ ss, o.session = some ss → (o'.summary.map (·.reason)) = some reason
  online : ∀ ss, o.session = some ss → o.state ≠ .OFFLINE → o'.state = if ss.admitted then .ENDING else .PLUGGED
  offline : ∀ ss, o.session = some ss → o.state = .OFFLINE →
    o'.state = .OFFLINE ∧ o'.beforeSilence = some (if ss.admitted then .ENDING else .PLUGGED)

theorem endingOrPlugged_of_session {o : Outlet} {ss : Session} (h : o.session = some ss) :
    o.endingOrPlugged = if ss.admitted then .ENDING else .PLUGGED := by
  unfold Outlet.endingOrPlugged
  rw [h]
  rfl

theorem endForStop_of_no_session {c : Controller} {b : Bay} (h : (c.outlet b).session = none) (r : EndReason) : c.endForStop r b = c :=
  endSession_none h _ _

theorem endForStop_of_session {c : Controller} {b : Bay} {ss : Session} (h : (c.outlet b).session = some ss) (r : EndReason) :
    c.endForStop r b = c.endSession b r (if ss.admitted then .ENDING else .PLUGGED) := by
  unfold Controller.endForStop
  rw [endingOrPlugged_of_session h]

theorem endForStop_stopped (c : Controller) (b : Bay) (r : EndReason) : (c.outlet b).Stopped r ((c.endForStop r b).outlet b) := by
  cases hs : (c.outlet b).session with
  | none =>
    rw [endForStop_of_no_session hs]
    have hheld : ∀ ss, (c.outlet b).session ≠ some ss := fun _ h => nomatch hs.symm.trans h
    exact ⟨hs, fun ss h => absurd h (hheld ss), fun ss h => absurd h (hheld ss), fun ss h => absurd h (hheld ss)⟩
  | some ss =>
    obtain ⟨-, -, -, -, -, -, -, hstate, hbefore⟩ := endSession_outlet (c := c) (b := b) (by rw [hs]; rfl) r
      (if ss.admitted then .ENDING else .PLUGGED)
    obtain ⟨hsession, -, sm, hsummary, hreason, -⟩ := endSession_endedWith hs r (if ss.admitted then .ENDING else .PLUGGED)
    rw [endForStop_of_session hs]
    refine ⟨hsession, fun _ _ => by rw [hsummary, Option.map_some, hreason], fun x hx hon => ?_, fun x hx hoff => ?_⟩
    · cases hs.symm.trans hx
      rw [hstate, put_of_online hon]
    · cases hs.symm.trans hx
      rw [hstate, hbefore, put_of_offline hoff]
      exact ⟨hoff, rfl⟩

/-- The work at other bays, before and after, does not change what a stop makes of an outlet. -/
theorem stopped_of_brushed {r : EndReason} {o p o' p' : Outlet} (h : o.brushed p) (hstop : p.Stopped r o') (h' : o'.brushed p') :
    o.Stopped r p' := by
  obtain ⟨hsession, hsummary, honline, hoffline⟩ := hstop
  obtain ⟨k, v, ch, rfl⟩ := h
  obtain ⟨k', v', ch', rfl⟩ := h'
  have hheld : ∀ {ss : Session}, o.session = some ss → o.session.map (Session.withSlot k) = some (ss.withSlot k) := fun hs => by
    rw [hs]
    rfl
  refine ⟨?_, fun ss hs => hsummary (ss.withSlot k) (hheld hs), fun ss hs => honline (ss.withSlot k) (hheld hs),
    fun ss hs => hoffline (ss.withSlot k) (hheld hs)⟩
  show o'.session.map _ = none
  rw [hsession]
  rfl

/-! ### Every session ends (R157, R197) -/

section
variable (c : Controller) (r : EndReason)

theorem endForStop_brushes {x y : Bay} (hx : x ≠ y) : (c.outlet x).brushed ((c.endForStop r y).outlet x) := endSession_brushes hx _ _

theorem endAllForStop_stopped (b : Bay) : (c.outlet b).Stopped r ((forBays (Controller.endForStop r) c).outlet b) :=
  forBays_at (x := b) (A := fun d => (c.outlet b).brushed (d.outlet b)) (B := fun d => (c.outlet b).Stopped r (d.outlet b))
    (fun _ d hy hd => brushed_trans hd (endForStop_brushes d r hy.symm))
    (fun d hd => stopped_of_brushed hd (endForStop_stopped d b r) (brushed_refl _))
    (fun _ d hy hd => stopped_of_brushed (brushed_refl _) hd (endForStop_brushes d r hy.symm)) (brushed_refl _)

/-! ### The queue (R76) -/

theorem endForStop_queue {b : Bay} {ss : Session} (h : (c.outlet b).session = some ss) :
    (c.endForStop r b).pool.queue = c.pool.queue.filter fun e => e.bay != b := by
  rw [endForStop_of_session h, endSession_pool h]

variable {c r}

theorem mem_of_mem_endForStop_queue {b : Bay} {e : QueueEntry} (he : e ∈ (c.endForStop r b).pool.queue) : e ∈ c.pool.queue := by
  cases hs : (c.outlet b).session with
  | none =>
    rwa [endForStop_of_no_session hs] at he
  | some ss =>
    rw [endForStop_queue c r hs] at he
    exact List.mem_of_mem_filter he

/-- A stop leaves entries of the queue alone, and of those the ones of bays without a session. -/
theorem mem_endAllForStop_queue {e : QueueEntry} (he : e ∈ (forBays (Controller.endForStop r) c).pool.queue) :
    e ∈ c.pool.queue ∧ (c.outlet e.bay).session = none := by
  have hqueue : ∀ e ∈ (forBays (Controller.endForStop r) c).pool.queue, e ∈ c.pool.queue :=
    forBays_keeps (f := Controller.endForStop r) (fun d => ∀ e ∈ d.pool.queue, e ∈ c.pool.queue)
      (fun _ _ hd e he => hd e (mem_of_mem_endForStop_queue he)) fun _ he => he
  refine ⟨hqueue e he, ?_⟩
  cases hs : (c.outlet e.bay).session with
  | none => rfl
  | some ss =>
    have hgone : ∀ e' ∈ (forBays (Controller.endForStop r) c).pool.queue, e'.bay ≠ e.bay := by
      refine forBays_at (f := Controller.endForStop r) (x := e.bay) (A := fun d => (c.outlet e.bay).brushed (d.outlet e.bay))
        (B := fun d => ∀ e' ∈ d.pool.queue, e'.bay ≠ e.bay)
        (fun _ d hy hd => brushed_trans hd (endForStop_brushes d r hy.symm)) (fun d hd e' he' => ?_)
        (fun _ _ _ hd e' he' => hd e' (mem_of_mem_endForStop_queue he')) (brushed_refl _)
      obtain ⟨k, v, ch, hbrushed⟩ := hd
      have hheld : (d.outlet e.bay).session = some (ss.withSlot k) := by rw [hbrushed, hs]; rfl
      rw [endForStop_queue d r hheld] at he'
      exact bne_iff_ne.mp (List.mem_filter.mp he').2
    exact absurd rfl (hgone e he)

/-! ### What a stop leaves alone -/

variable (c r)

theorem endAllForStop_work : c.OutletWork (forBays (Controller.endForStop r) c) := forBays_work (fun b d => endSession_work d b r _) c

theorem sameSupply_of_outlets {d : Controller} (h : d.outlets = c.outlets) : c.sameSupply d := by
  unfold Controller.sameSupply
  rw [h]

theorem unbind_sameSupply (k : SlotNo) (atReset : Bool) (x : Cause) : c.sameSupply (c.unbind k atReset x) := by
  unfold Controller.unbind
  split
  · cases (c.record k).boundBay <;> rfl
  · rfl

theorem releaseSlot_sameSupply (slot : Option SlotNo) : c.sameSupply (c.releaseSlot slot r) := by
  cases slot with
  | none => rfl
  | some k => exact unbind_sameSupply c k _ _

theorem markTarget_sameSupply (b : Bay) (w : Nat) : c.sameSupply (c.markTarget b w) := by
  unfold Controller.markTarget
  split <;> rfl

theorem judgeRelease_sameSupply : c.sameSupply c.judgeRelease := by
  unfold Controller.judgeRelease
  split <;> rfl

/-- The end of a session leaves site hold and supply window as they stand. -/
theorem endSession_sameSupply (b : Bay) (st : OutletState) : c.sameSupply (c.endSession b r st) := by
  cases hs : (c.outlet b).session with
  | none => rw [endSession_none hs]; rfl
  | some ss =>
    have htell : ∀ d : Controller, d.sameSupply ((if r.untold then d else d.tellNode b .SESSION_ENDED).raise .outletSessionEnd) :=
      fun d => by
        split
        · rfl
        · exact sameSupply_of_outlets d (tellNode_leaves d b .SESSION_ENDED).2.1
    have hclosed : c.sameSupply (c.updOutlet b Outlet.closeTail) := rfl
    have hqueue : ∀ (d : Controller) (f : Outlet → Outlet), d.sameSupply (((d.updOutlet b f).dequeue b).depart b) := fun _ _ => rfl
    rw [endSession_eq hs]
    exact sameSupply_trans hclosed (sameSupply_trans (releaseSlot_sameSupply _ r _) (sameSupply_trans (hqueue _ _)
      (sameSupply_trans (markTarget_sameSupply _ b 0) (sameSupply_trans (htell _) (judgeRelease_sameSupply _)))))

theorem endAllForStop_sameSupply : c.sameSupply (forBays (Controller.endForStop r) c) :=
  forBays_keeps (fun d => c.sameSupply d) (fun b d hd => sameSupply_trans hd (endSession_sameSupply d r b _)) rfl

end

/-- Settles O50: the sessions of all bays end as each ends for a stop, and the notice is raised after them. -/
theorem stopAllEndsEverySession : Obligations.StopAllEndsEverySession := by
  intro s htaking hwire hqualified
  have hexec := exec_stopAsserted htaking hwire hqualified
  generalize hc : ({ s.ctl with lines := s.ctl.lines.set .stopAll s.ctl.lines.stopAll.qualify } : Controller) = c at hexec
  have hstopped := endAllForStop_stopped c .STOP_INPUT
  have hqueue := @mem_endAllForStop_queue c .STOP_INPUT
  have hsupply := endAllForStop_sameSupply c .STOP_INPUT
  obtain ⟨hlink, -, -, -, hstorage, hsettings, hlines, hrun⟩ := endAllForStop_work c .STOP_INPUT
  generalize forBays (Controller.endForStop .STOP_INPUT) c = d at *
  subst hc
  refine ⟨_, hexec, ?stopAll, fun b => (hstopped b).session, fun b ss hs => ⟨(hstopped b).summary ss hs, (hstopped b).online ss hs,
    (hstopped b).offline ss hs⟩, fun _ => hqueue, raised_raise d _, hrun, ?state, ?exchange, ?siteHold, ?window, hsettings, hstorage⟩
  case stopAll =>
    show d.lines.stopAll = _
    rw [hlines]
    show s.ctl.lines.stopAll.qualify = _
    rw [Line.qualify, hwire]
  case state => exact (congrArg Link.state hlink :)
  case exchange => exact (congrArg Link.exchange hlink :)
  case siteHold => exact (congrArg OutletTable.siteHold hsupply :)
  case window => exact (congrArg OutletTable.window hsupply :)

end Sys2Proof.Machine
end

section
/-! SUPPORT. The site hold at every bay (R160, R161): PAUSE_ALL and RESUME_ALL, and O30. -/

namespace Sys2Proof.Machine

/-! ### A removal leaves no trace of its reason (R44) -/

theorem put_has (r : PauseReason) (v : Bool) (rs : Reasons) : (rs.put r v).has r = v := by cases r <;> rfl

/-- BUDGET is the one reason that a removal can set. -/
theorem resumedAt_clears {c t : Controller} {b : Bay} {left : Reasons} {r : PauseReason} (hr : r ≠ .BUDGET) (hleft : left.has r = false)
    (h : c.resumedAt t b left) : (t.outlet b).reasons.has r = false := by
  obtain ⟨-, hstays, hwaits, hqueued⟩ := h
  by_cases hres : left = .empty ∧ (c.outlet b).acting = .PAUSED
  · by_cases hadm : ((c.outlet b).session.map (·.admitted)) = some true
    · obtain ⟨hreasons, -⟩ := hwaits hres hadm
      rw [hreasons]
      cases r with
      | BUDGET => exact absurd rfl hr
      | SITE | SUPPLY | CUSTOMER | FUNDING => rfl
    · obtain ⟨hreasons, -⟩ := hqueued hres hadm
      rw [hreasons]
      cases r <;> rfl
  · obtain ⟨hreasons, -⟩ := hstays hres
    rw [hreasons]
    exact hleft

theorem removeFromAll_clears (c : Controller) {r : PauseReason} (hr : r ≠ .BUDGET) (b : Bay) :
    ((c.removeFromAll r).outlet b).reasons.has r = false := by
  cases h : (c.outlet b).reasons.has r with
  | true => exact resumedAt_clears hr (put_has r false _) (removeFromAll_resumes h)
  | false =>
    obtain ⟨v, hv⟩ := (alike_iff _ _).mp (removeFromAll_alike h)
    rw [hv]
    exact h

theorem removeFromAll_work (c : Controller) (r : PauseReason) : c.OutletWork (c.removeFromAll r) :=
  forBays_work (fun b d => removeReason_work d b r) c

/-! ### PAUSE_ALL and RESUME_ALL -/

section
variable {s : State} (htaking : s.ctl.taking = true)
include htaking

theorem exec_pauseAll : exec .pauseAll s = .next (s.put ((((s.ctl.taken 0x32).putSiteHold true).addToAll .SITE).ok 0x32
    (.count s.ctl.siteAdds.length))) := by
  show execPauseAll s = _
  rw [execPauseAll, command_taking _ _ htaking]
  rfl

theorem exec_resumeAll : exec .resumeAll s = .next (s.put ((((s.ctl.taken 0x33).putSiteHold false).removeFromAll .SITE).ok 0x33
    (.count s.ctl.siteRemoves.length))) := by
  show execResumeAll s = _
  rw [execResumeAll, command_taking _ _ htaking]
  rfl

end

/-- Settles O30: each command changes the hold, then its one reason at every bay. -/
theorem siteHoldPausesAndResumesSessions : Obligations.SiteHoldPausesAndResumesSessions := by
  intro s htaking
  constructor
  · have hexec := exec_pauseAll htaking
    generalize hc : (s.ctl.taken 0x32).putSiteHold true = c at hexec
    have hpauses := @addToAll_pauses c .SITE
    have hsession := addToAll_session c .SITE
    have hsupply := addToAll_sameSupply c .SITE
    have hcredit := addToAll_credit c .SITE
    have hlink := addToAll_link c .SITE
    have hquiet := (addToAll_work c .SITE).quiet
    generalize c.addToAll .SITE = d at *
    subst hc
    exact ⟨_, hexec, (congrArg OutletTable.siteHold hsupply :), rfl, fun _ => hpauses, hsession, hcredit, hlink, hquiet⟩
  · have hexec := exec_resumeAll htaking
    generalize hc : (s.ctl.taken 0x33).putSiteHold false = c at hexec
    have hclears := removeFromAll_clears c (r := .SITE) (by decide)
    have hresumes := @removeFromAll_resumes c .SITE
    have halike := @removeFromAll_alike c .SITE
    have hsession := removeFromAll_session c .SITE
    have hsupply := removeFromAll_sameSupply c .SITE
    have hcredit := removeFromAll_credit c .SITE
    have hlink := removeFromAll_link c .SITE
    have hquiet := (removeFromAll_work c .SITE).quiet
    generalize c.removeFromAll .SITE = d at *
    subst hc
    exact ⟨_, hexec, (congrArg OutletTable.siteHold hsupply :), rfl, fun b => ⟨hclears b, hsession b⟩, fun _ => hresumes,
      fun _ => halike, hcredit, hlink, hquiet⟩

end Sys2Proof.Machine
end

section
/-! SUPPORT. The commands that need setup (R170 to R178): their refusals, the lock levels with LOCK_SET and FUSE (R176 to R178), and O52. -/

namespace Sys2Proof.Machine

@[simp] theorem taken_settings (c : Controller) (n : Nat) : (c.taken n).settings = c.settings := rfl
@[simp] theorem taken_lines (c : Controller) (n : Nat) : (c.taken n).lines = c.lines := rfl

/-! ### The refusals outside setup and during a commit -/

section
variable {b : SettingsBlock}

theorem setupRefusal_outside (hw : b.working = none) : b.setupRefusal = some .NOT_IN_SETUP := by
  unfold SettingsBlock.setupRefusal SettingsBlock.setupFlag
  rw [hw]
  rfl

theorem setupRefusal_committing (hw : b.working.isSome = true) (hc : b.commit.isSome = true) : b.setupRefusal = some .BUSY := by
  unfold SettingsBlock.setupRefusal SettingsBlock.setupFlag
  rw [hw, hc]
  rfl

theorem setupRefusal_open (hw : b.working.isSome = true) (hc : b.commit = none) : b.setupRefusal = none := by
  unfold SettingsBlock.setupRefusal SettingsBlock.setupFlag
  rw [hw, hc]
  rfl

end

/-- A command that is refused outside setup and during a commit, with what it does otherwise. -/
def Controller.setupCommand (code : Nat) (g : Controller → Controller) (c : Controller) : Controller :=
  match c.settings.setupRefusal with
  | some status => c.refuse code status
  | none => g c

section
variable {s : State} (htaking : s.ctl.taking = true) {i : Instr} {code : Nat} {g : Controller → Controller}
  (hexec : exec i s = command code (Controller.setupCommand code g) s)
include htaking hexec

theorem exec_outside_setup (hw : s.ctl.settings.working = none) :
    exec i s = .next (s.put (s.ctl.answer code .NOT_IN_SETUP .none)) := by
  rw [hexec, command_taken _ _ htaking, Controller.setupCommand, taken_settings, setupRefusal_outside hw]
  rfl

theorem exec_during_commit (hw : s.ctl.settings.working.isSome = true) (hc : s.ctl.settings.commit.isSome = true) :
    exec i s = .next (s.put (s.ctl.answer code .BUSY .none)) := by
  rw [hexec, command_taken _ _ htaking, Controller.setupCommand, taken_settings, setupRefusal_committing hw hc]
  rfl

theorem exec_in_setup (hw : s.ctl.settings.working.isSome = true) (hc : s.ctl.settings.commit = none) :
    exec i s = .next (s.put (g (s.ctl.taken code))) := by
  rw [hexec, command_taken _ _ htaking, Controller.setupCommand, taken_settings, setupRefusal_open hw hc]

end

/-! ### The level in force (R176) -/

/-- The tariff is fused: the fuse cell is programmed, or the working level is FUSED. -/
def SettingsBlock.Fused (b : SettingsBlock) (w : Working) : Prop := b.fuseCell.isSome = true ∨ w.settings.level = .FUSED

section
variable {b : SettingsBlock} {w : Working} (hw : b.working = some w)
include hw

theorem workingLevel_eq : b.workingLevel = some w.settings.level := by
  unfold SettingsBlock.workingLevel
  rw [hw]
  rfl

theorem level_of_fused (h : b.Fused w) : b.level = fusedLevel := by
  unfold SettingsBlock.level
  rw [workingLevel_eq hw, if_pos]
  rcases h with h | h <;> simp [h]

theorem level_of_not_fused (h : ¬ b.Fused w) : b.level = if b.latch then lockedLevel else w.settings.level.number := by
  obtain ⟨hcell, hlevel⟩ := not_or.mp h
  unfold SettingsBlock.level
  rw [workingLevel_eq hw, if_neg (by simp [hcell, hlevel])]
  rfl

end

theorem number_of_not_fused {l : StoredLevel} (h : l ≠ .FUSED) : l.number < lockedLevel := by
  cases l with
  | OPEN => decide
  | KEYED => decide
  | FUSED => exact absurd rfl h

/-! ### A change of the working level and of the latch (R177) -/

/-- The block with another working level and another latch. -/
def SettingsBlock.relock (b : SettingsBlock) (w : Working) (l : StoredLevel) (latch : Bool) : SettingsBlock :=
  { b with working := some { w with settings := { w.settings with level := l } }, latch := latch }

theorem level_relock {b : SettingsBlock} {w : Working} (h : ¬ b.Fused w) {l : StoredLevel} (hl : l ≠ .FUSED) (latch : Bool) :
    (b.relock w l latch).level = if latch then lockedLevel else l.number :=
  level_of_not_fused (b := b.relock w l latch) rfl fun hf => hf.elim (fun hcell => h (.inl hcell)) hl

section
variable {b : SettingsBlock} {w : Working} (hw : b.working = some w)
include hw

theorem putLevel_eq (l : StoredLevel) : b.putLevel l = b.relock w l b.latch := by
  unfold SettingsBlock.putLevel SettingsBlock.relock
  rw [hw]
  rfl

theorem latched_eq (latch : Bool) : { b with latch := latch } = b.relock w w.settings.level latch := by
  show _ = ({ b with working := some w, latch := latch } : SettingsBlock)
  rw [← hw]

theorem setLock_of_locked (h : ¬ b.Fused w) (hlatch : b.latch = true) (p : Nat) : b.setLock p = b.relock w w.settings.level true := by
  rw [← latched_eq hw, ← hlatch, SettingsBlock.setLock, level_of_not_fused hw h, if_pos (by rw [hlatch]; rfl)]

variable (h : ¬ b.Fused w) (hlatch : b.latch = false)
include h hlatch

theorem level_unlatched : b.level = w.settings.level.number := by
  rw [level_of_not_fused hw h, hlatch]
  rfl

theorem level_lt_locked : b.level < lockedLevel := by
  rw [level_unlatched hw h hlatch]
  exact number_of_not_fused (not_or.mp h).2

/-- LOCKED sets the latch, and raises an OPEN working level to KEYED. -/
theorem setLock_locked : b.setLock lockedLevel = b.relock w .KEYED true := by
  rw [SettingsBlock.setLock, if_neg (level_lt_locked hw h hlatch).ne, if_pos rfl, workingLevel_eq hw]
  cases hl : w.settings.level with
  | OPEN => rw [if_pos rfl, putLevel_eq hw]; rfl
  | KEYED => rw [if_neg (by decide), latched_eq hw, hl]
  | FUSED => exact absurd (.inr hl) h

theorem setLock_below {p : Nat} (hp : p ≠ lockedLevel) : b.setLock p = b.relock w (if p = 0 then .OPEN else .KEYED) false := by
  rw [SettingsBlock.setLock, if_neg (level_lt_locked hw h hlatch).ne, if_neg hp, putLevel_eq hw, hlatch]

end

/-! ### LOCK_SET (R177) -/

/-- LOCK_SET in setup, with a level of the three. -/
def Controller.lockTo (p : Nat) (c : Controller) : Controller :=
  match lockRefusal c.settings.level p c.lines.keylock.qualified with
  | some status => c.refuse 0x55 status
  | none => (c.updSettings (SettingsBlock.setLock p)).ok 0x55 (.level (c.settings.setLock p).level)

theorem exec_lockSet {p : Nat} (hp : p ≤ lockedLevel) (s : State) :
    exec (.lockSet p) s = command 0x55 (Controller.setupCommand 0x55 (Controller.lockTo p)) s := by
  have hf : ∀ c : Controller, (if lockedLevel < p then c.refuse 0x55 .BAD_PARAM else c.setupCommand 0x55 (Controller.lockTo p)) =
      c.setupCommand 0x55 (Controller.lockTo p) := fun c => if_neg hp.not_gt
  exact congrArg (command 0x55 · s) (funext hf)

theorem exec_lockSet_unknown {s : State} (htaking : s.ctl.taking = true) {p : Nat} (hp : lockedLevel < p) :
    exec (.lockSet p) s = .next (s.put (s.ctl.answer 0x55 .BAD_PARAM .none)) := by
  show execLockSet p s = _
  rw [execLockSet, command_taken _ _ htaking, if_pos hp]
  rfl

section
variable {s : State} {w : Working} (htaking : s.ctl.taking = true) (hw : s.ctl.settings.working = some w)
  (hc : s.ctl.settings.commit = none)
include htaking hw hc

theorem exec_lockSet_refused {p : Nat} (hp : p ≤ lockedLevel) {status : Status}
    (h : lockRefusal s.ctl.settings.level p s.ctl.lines.keylock.qualified = some status) :
    exec (.lockSet p) s = .next (s.put (s.ctl.answer 0x55 status .none)) := by
  rw [exec_in_setup htaking (exec_lockSet hp s) (by rw [hw]; rfl) hc, Controller.lockTo, taken_settings, taken_lines, h]
  rfl

theorem exec_lockSet_done {p : Nat} (hp : p ≤ lockedLevel)
    (h : lockRefusal s.ctl.settings.level p s.ctl.lines.keylock.qualified = none) {b' : SettingsBlock} (hb : s.ctl.settings.setLock p = b') :
    exec (.lockSet p) s = .next (s.put (({ s.ctl with settings := b' } : Controller).answer 0x55 .OK (.level b'.level))) := by
  rw [exec_in_setup htaking (exec_lockSet hp s) (by rw [hw]; rfl) hc, Controller.lockTo, taken_settings, taken_lines, h, ← hb]
  rfl

end

theorem lockRefusal_fused (p : Nat) (keyOpen : Bool) : lockRefusal fusedLevel p keyOpen = some .LOCKED_TARIFF := if_pos (.inl rfl)

theorem lockRefusal_locked_below {p : Nat} (hp : p < lockedLevel) (keyOpen : Bool) :
    lockRefusal lockedLevel p keyOpen = some .LOCKED_TARIFF := if_pos (.inr ⟨rfl, hp⟩)

theorem lockRefusal_locked_same (keyOpen : Bool) : lockRefusal lockedLevel lockedLevel keyOpen = none := rfl

/-- Below LOCKED a level is refused only where it lowers KEYED to OPEN under a closed key. -/
theorem lockRefusal_below {inForce : Nat} (h : inForce < lockedLevel) (p : Nat) (keyOpen : Bool) :
    lockRefusal inForce p keyOpen = if p = 0 ∧ inForce = 1 ∧ keyOpen = false then some .KEY_CLOSED else none := by
  refine if_neg ?_
  unfold lockedLevel at h
  unfold fusedLevel lockedLevel
  omega

/-! ### FUSE (R178) -/

/-- FUSE in setup. -/
def Controller.fuseTariff (c : Controller) : Controller :=
  if c.settings.level = fusedLevel then c.refuse 0x56 .LOCKED_TARIFF
  else if !c.lines.keylock.qualified then c.refuse 0x56 .KEY_CLOSED
  else (c.updSettings (SettingsBlock.putLevel .FUSED)).ok 0x56 .none

theorem exec_fuse (s : State) : exec .fuse s = command 0x56 (Controller.setupCommand 0x56 Controller.fuseTariff) s := rfl

theorem level_ne_fused {b : SettingsBlock} {w : Working} (hw : b.working = some w) (h : ¬ b.Fused w) : b.level ≠ fusedLevel := by
  rw [level_of_not_fused hw h]
  split
  · decide
  · exact ((number_of_not_fused (not_or.mp h).2).trans (by decide : lockedLevel < fusedLevel)).ne

section
variable {s : State} {w : Working} (htaking : s.ctl.taking = true) (hw : s.ctl.settings.working = some w)
  (hc : s.ctl.settings.commit = none)
include htaking hw hc

theorem exec_fuse_fused (h : s.ctl.settings.Fused w) : exec .fuse s = .next (s.put (s.ctl.answer 0x56 .LOCKED_TARIFF .none)) := by
  rw [exec_in_setup htaking (exec_fuse s) (by rw [hw]; rfl) hc, Controller.fuseTariff, taken_settings, if_pos (level_of_fused hw h)]
  rfl

theorem exec_fuse_closed (h : ¬ s.ctl.settings.Fused w) (hkey : s.ctl.lines.keylock.qualified = false) :
    exec .fuse s = .next (s.put (s.ctl.answer 0x56 .KEY_CLOSED .none)) := by
  rw [exec_in_setup htaking (exec_fuse s) (by rw [hw]; rfl) hc, Controller.fuseTariff, taken_settings, taken_lines,
    if_neg (level_ne_fused hw h), hkey]
  rfl

theorem exec_fuse_done (h : ¬ s.ctl.settings.Fused w) (hkey : s.ctl.lines.keylock.qualified = true) :
    exec .fuse s = .next (s.put (({ s.ctl with settings := s.ctl.settings.relock w .FUSED s.ctl.settings.latch } : Controller).answer
      0x56 .OK .none)) := by
  rw [exec_in_setup htaking (exec_fuse s) (by rw [hw]; rfl) hc, Controller.fuseTariff, taken_settings, taken_lines,
    if_neg (level_ne_fused hw h), hkey, ← putLevel_eq hw]
  rfl

end

/-- Settles O52: the refusals before the level counts, then LOCK_SET and FUSE by the level in force. -/
theorem lockLevelsAreRaisedAndLowered : Obligations.LockLevelsAreRaisedAndLowered := by
  refine ⟨fun s p htaking => ⟨exec_lockSet_unknown htaking, fun hp => exec_outside_setup htaking (exec_lockSet hp s),
    fun hp => exec_during_commit htaking (exec_lockSet hp s)⟩, fun s w htaking hw hc => ?_⟩
  intro b keyOpen fused refused becomes
  have refuses := fun (p : Nat) hp st => exec_lockSet_refused htaking hw hc (p := p) hp (status := st)
  have locks := fun (p : Nat) hp => exec_lockSet_done htaking hw hc (p := p) hp
  refine ⟨fun p hp h => ?fused, fun p hp h hlatch => ?locked, fun h hlatch => ?relocked, fun h hlatch => ?unlatched,
    exec_fuse_fused htaking hw hc, exec_fuse_closed htaking hw hc, exec_fuse_done htaking hw hc⟩
  case fused => exact refuses p hp _ (by rw [level_of_fused hw h]; exact lockRefusal_fused p _)
  case locked =>
    refine refuses p hp.le _ ?_
    rw [level_of_not_fused hw h, if_pos hlatch]
    exact lockRefusal_locked_below hp _
  case relocked =>
    have hdone := locks 2 le_rfl (by rw [level_of_not_fused hw h, if_pos hlatch]; exact lockRefusal_locked_same _)
      (setLock_of_locked hw h hlatch 2)
    rwa [level_relock h (not_or.mp h).2] at hdone
  case unlatched =>
    have hlevel := level_unlatched hw h hlatch
    have hrefusal := fun p => lockRefusal_below (level_lt_locked hw h hlatch) p keyOpen
    have hopens := fun hfree => locks 0 (by decide) hfree (setLock_below hw h hlatch (p := 0) (by decide))
    refine ⟨?_, ?_, fun hl => ?_, fun hl hkey => ?_, fun hl hkey => ?_⟩
    · have hdone := locks 2 le_rfl (by rw [hrefusal, if_neg (nomatch ·.1)]) (setLock_locked hw h hlatch)
      rwa [level_relock h (by decide)] at hdone
    · have hdone := locks 1 (by decide) (by rw [hrefusal, if_neg (nomatch ·.1)]) (setLock_below hw h hlatch (p := 1) (by decide))
      rwa [level_relock h (by decide)] at hdone
    · have hdone := hopens (by rw [hrefusal, hlevel, hl, if_neg (nomatch ·.2.1)])
      rwa [level_relock h (by decide)] at hdone
    · have hdone := hopens (by rw [hrefusal, if_neg fun hk => Bool.false_ne_true (hk.2.2.symm.trans hkey)])
      rwa [level_relock h (by decide)] at hdone
    · exact refuses 0 (by decide) _ (by rw [hrefusal, hlevel, hl, if_pos ⟨rfl, rfl, hkey⟩])

end Sys2Proof.Machine
end

section
/-! SUPPORT. The checks of SETUP_END (R172), each with the place that it reports, and O53. -/

namespace Sys2Proof.Machine

/-! ### The lowest place at which a check fails -/

section
variable {α : Type} {n : Nat} {p : Nat → α → Bool} {t : Table α n} {P : Fin n → Prop} (hp : ∀ i : Fin n, p i.val (t.get i) = true ↔ P i)
include hp

theorem lowest_of_fails {i : Fin n} (hi : P i) (hmin : ∀ j, j < i → ¬ P j) : t.lowest p = some i :=
  lowest_eq_some_iff.mpr ⟨(hp i).mpr hi, fun j hj => Bool.eq_false_iff.mpr fun h => hmin j hj ((hp j).mp h)⟩

theorem lowest_of_passes (h : ∀ i, ¬ P i) : t.lowest p = none :=
  lowest_eq_none_iff.mpr fun j => Bool.eq_false_iff.mpr fun hj => h j ((hp j).mp hj)

end

/-- A test holds of an entry below a place. -/
theorem any_take_data {α : Type} {n : Nat} (t : Table α n) (p : α → Bool) (i : Fin n) :
    (t.data.take i.val).any p = true ↔ ∃ j, j < i ∧ p (t.get j) = true := by
  rw [List.any_eq_true]
  constructor
  · rintro ⟨x, hx, hpx⟩
    obtain ⟨k, hk, rfl⟩ := List.mem_take_iff_getElem.mp hx
    have hki : k < i.val := lt_of_lt_of_le hk (min_le_left _ _)
    exact ⟨⟨k, hki.trans i.isLt⟩, hki, hpx⟩
  · rintro ⟨j, hj, hpj⟩
    exact ⟨_, List.mem_take_iff_getElem.mpr ⟨j.val, lt_min hj (by rw [t.size_eq]; exact j.isLt), rfl⟩, hpj⟩

/-! ### The five checks (R172) -/

section
variable (x : Settings)

/-- Check 1 fails at a bay: m above P_max. -/
def Settings.PowerFails (b : Bay) : Prop := (x.bays.get b).pMax < (x.bays.get b).pMin

/-- Check 2 fails at a bay: a lower-numbered one names its outlet too. -/
def Settings.MapFails (b : Bay) : Prop :=
  ∃ d, d < b ∧ (x.bays.get b).map.valid = true ∧ (x.bays.get d).map.valid = true
    ∧ (x.bays.get d).map.node = (x.bays.get b).map.node ∧ (x.bays.get d).map.outlet = (x.bays.get b).map.outlet

/-- Check 3 fails at a reserve window: a lower-numbered one starts at the same minute. -/
def Settings.WindowFails (i : Fin 6) : Prop :=
  ∃ j v u, j < i ∧ x.windows.get i = some v ∧ x.windows.get j = some u ∧ v.start = u.start

/-- Check 4 fails: the supply window leaves no room for its hysteresis. -/
def Settings.SupplyFails : Prop := x.vHigh < x.vLow + 2 * x.vHys

/-- Check 5 fails at a slot: its record is on the wrong side of the region. -/
def Controller.RegionFails (c : Controller) (r : Region) (k : SlotNo) : Prop :=
  (c.record k).state ≠ .FREE ∧ r.side (c.record k).kind k = false

theorem powerFault_test (b : Bay) : decide ((x.bays.get b).pMax < (x.bays.get b).pMin) = true ↔ x.PowerFails b := decide_eq_true_iff

theorem clashes_iff (m e : MapEntry) :
    m.clashes e = true ↔ e.valid = true ∧ m.valid = true ∧ m.node = e.node ∧ m.outlet = e.outlet := by
  simp only [MapEntry.clashes, Bool.and_eq_true, beq_iff_eq]
  tauto

theorem mapFault_test (b : Bay) : ((x.bays.data.take b).any fun y => y.map.clashes (x.bays.get b).map) = true ↔ x.MapFails b := by
  simp only [any_take_data, clashes_iff, Settings.MapFails]

theorem sameStart_iff (w v : Option ReserveWindow) : sameStart w v = true ↔ ∃ y u, v = some y ∧ w = some u ∧ y.start = u.start := by
  cases w with
  | none => simp [sameStart]
  | some u =>
    cases v with
    | none => simp [sameStart]
    | some y => simpa [sameStart] using eq_comm (a := u.start)

theorem windowFault_test (i : Fin 6) : ((x.windows.data.take i).any fun y => sameStart y (x.windows.get i)) = true ↔ x.WindowFails i := by
  simp only [any_take_data, sameStart_iff, Settings.WindowFails, exists_and_left]

theorem wrongSide_test (c : Controller) (r : Region) (k : SlotNo) :
    ((c.credit.slots.get k).state != .FREE && !r.side (c.credit.slots.get k).kind k) = true ↔ c.RegionFails r k := by
  simp only [Bool.and_eq_true, bne_iff_ne, Bool.not_eq_true', Controller.RegionFails, Controller.record]

end

/-! ### The first check that fails -/

section
variable {x : Settings} {c : Controller}

theorem invalid_power {b : Bay} (hb : x.PowerFails b) (hmin : ∀ d, d < b → ¬ x.PowerFails d) :
    x.invalid c.credit = some (1, 2, some (b.val + 1)) := by
  rw [Settings.invalid, Settings.powerFault, lowest_of_fails (powerFault_test x) hb hmin]

variable (hpower : ∀ b, ¬ x.PowerFails b)
include hpower

theorem invalid_map {b : Bay} (hb : x.MapFails b) (hmin : ∀ d, d < b → ¬ x.MapFails d) :
    x.invalid c.credit = some (1, 0, some (b.val + 1)) := by
  rw [Settings.invalid, Settings.powerFault, lowest_of_passes (powerFault_test x) hpower, Settings.mapFault,
    lowest_of_fails (mapFault_test x) hb hmin]

variable (hmap : ∀ b, ¬ x.MapFails b)
include hmap

theorem invalid_window {i : Fin 6} (hi : x.WindowFails i) (hmin : ∀ j, j < i → ¬ x.WindowFails j) :
    x.invalid c.credit = some (0, 13, some i.val) := by
  rw [Settings.invalid, Settings.powerFault, lowest_of_passes (powerFault_test x) hpower, Settings.mapFault,
    lowest_of_passes (mapFault_test x) hmap, Settings.windowFault, lowest_of_fails (windowFault_test x) hi hmin]

variable (hwindow : ∀ i, ¬ x.WindowFails i)
include hwindow

/-- The last two checks, after the lists have passed theirs. -/
theorem invalid_after_lists : x.invalid c.credit =
    if x.vHigh < x.vLow + 2 * x.vHys then some (4, 2, none) else (c.credit.wrongSide x.region).map fun k => (3, 0, some k.val) := by
  rw [Settings.invalid, Settings.powerFault, lowest_of_passes (powerFault_test x) hpower, Settings.mapFault,
    lowest_of_passes (mapFault_test x) hmap, Settings.windowFault, lowest_of_passes (windowFault_test x) hwindow]

theorem invalid_supply (h : x.SupplyFails) : x.invalid c.credit = some (4, 2, none) :=
  (invalid_after_lists hpower hmap hwindow).trans (if_pos h)

variable (hsupply : ¬ x.SupplyFails)
include hsupply

theorem invalid_at_last_check : x.invalid c.credit = (c.credit.wrongSide x.region).map fun k => (3, 0, some k.val) :=
  (invalid_after_lists hpower hmap hwindow).trans (if_neg hsupply)

theorem invalid_region {k : SlotNo} (hk : c.RegionFails x.region k) (hmin : ∀ j, j < k → ¬ c.RegionFails x.region j) :
    x.invalid c.credit = some (3, 0, some k.val) := by
  rw [invalid_at_last_check hpower hmap hwindow hsupply, CreditTable.wrongSide, lowest_of_fails (wrongSide_test c x.region) hk hmin]
  rfl

theorem invalid_none (hregion : ∀ k, ¬ c.RegionFails x.region k) : x.invalid c.credit = none := by
  rw [invalid_at_last_check hpower hmap hwindow hsupply, CreditTable.wrongSide, lowest_of_passes (wrongSide_test c x.region) hregion]
  rfl

end

/-! ### SETUP_END -/

/-- SETUP_END in setup. -/
def Controller.endSetup (c : Controller) : Controller :=
  match c.settings.working.bind fun w => w.settings.invalid c.credit with
  | some (g, i, ix) => c.answer 0x53 .INVALID (.invalid g i ix)
  | none => (c.updSettings SettingsBlock.beginCommit).ok 0x53 (.committing true)

theorem exec_setupEnd (s : State) : exec .setupEnd s = command 0x53 (Controller.setupCommand 0x53 Controller.endSetup) s := rfl

section
variable {s : State} {w : Working} (htaking : s.ctl.taking = true) (hw : s.ctl.settings.working = some w)
  (hc : s.ctl.settings.commit = none)
include htaking hw hc

theorem exec_setupEnd_invalid {g i : Nat} {ix : Option Nat} (h : w.settings.invalid s.ctl.credit = some (g, i, ix)) :
    exec .setupEnd s = .next (s.put (s.ctl.answer 0x53 .INVALID (.invalid g i ix))) := by
  rw [exec_in_setup htaking (exec_setupEnd s) (by rw [hw]; rfl) hc, Controller.endSetup, taken_settings, taken_credit, hw,
    Option.bind_some, h]
  rfl

theorem exec_setupEnd_commits (h : w.settings.invalid s.ctl.credit = none) : exec .setupEnd s = .next (s.put
    (({ s.ctl with settings := { s.ctl.settings with commit := some 250 } } : Controller).answer 0x53 .OK (.committing true))) := by
  rw [exec_in_setup htaking (exec_setupEnd s) (by rw [hw]; rfl) hc, Controller.endSetup, taken_settings, taken_credit, hw,
    Option.bind_some, h]
  rfl

end

/-- Settles O53: the first check that fails is reported, each after those before it have passed; with none the commit begins. -/
theorem setupEndValidatesAndCommits : Obligations.SetupEndValidatesAndCommits := by
  refine fun s htaking => ⟨exec_outside_setup htaking (exec_setupEnd s), exec_during_commit htaking (exec_setupEnd s), fun w hw hc => ?_⟩
  have invalid := fun {g i : Nat} {ix : Option Nat} => exec_setupEnd_invalid htaking hw hc (g := g) (i := i) (ix := ix)
  refine ⟨fun b hb hmin => invalid (invalid_power hb hmin), fun hpower => ⟨fun b hb hmin => invalid (invalid_map hpower hb hmin),
    fun hmap => ⟨fun i hi hmin => invalid (invalid_window hpower hmap hi hmin), fun hwindow =>
      ⟨fun h => invalid (invalid_supply hpower hmap hwindow h), fun hsupply => ⟨fun k hk hmin => ?_, fun hregion => ?_⟩⟩⟩⟩⟩
  · exact invalid (invalid_region hpower hmap hwindow hsupply hk hmin)
  · exact exec_setupEnd_commits htaking hw hc (invalid_none hpower hmap hwindow hsupply hregion)

end Sys2Proof.Machine
end

section
/-! SUPPORT. The completion of a commit (R173): the bays whose map entry changed with their map checks and the setpoints that they forget
(R31, R126, R131), and O54. -/

namespace Sys2Proof.Machine

/-! ### What the handing over of the bays leaves alone -/

/-- What the changes at remapped bays leave alone: every block but outlets, site port and link, of the link all but the outstanding
setpoints of outlets, and of the site port every notice but those of RECEIPT and OUTLET; a MAP_MISMATCH stays raised. -/
structure Controller.RemapKept (c d : Controller) : Prop where
  blocks : d = { c with outlets := d.outlets, port := d.port, link := { c.link with nodes := d.link.nodes } }
  nodes : ∀ a, d.node a = { c.node a with outOutlet := (d.node a).outOutlet }
  port : c.PortKept d
  mismatch : c.raised .outletMapMismatch → d.raised .outletMapMismatch

theorem remapKept_of_mapChecked {c d : Controller} (h : c.MapChecked d) : c.RemapKept d where
  blocks := by rw [h.blocks]
  nodes a := by rw [mapChecked_node h]
  port := h.port
  mismatch := h.mismatch

theorem remapKept_refl (c : Controller) : c.RemapKept c := remapKept_of_mapChecked (mapChecked_refl c)

theorem remapKept_trans {c d e : Controller} (h : c.RemapKept d) (h' : d.RemapKept e) : c.RemapKept e where
  blocks := by rw [h'.blocks, h.blocks]
  nodes a := by rw [h'.nodes, h.nodes]
  port := portKept_trans h.port h'.port
  mismatch hc := h'.mismatch (h.mismatch hc)

theorem remapKept_bay {c d : Controller} (h : c.RemapKept d) (x : Bay) : d.bay x = c.bay x := by
  rw [h.blocks]
  rfl

theorem judgeRelease_remapKept (c : Controller) : c.RemapKept c.judgeRelease where
  blocks := by
    unfold Controller.judgeRelease
    split <;> rfl
  nodes a := by rw [node_eq_of_link (judgeRelease_leaves c).2.2.2.1]
  port := portKept_of_port (judgeRelease_leaves c).2.2.2.2.2.1
  mismatch := (raised_congr (judgeRelease_leaves c).2.2.2.2.2.1 _).mpr

/-! ### The setpoints that a map entry forgets (R131) -/

/-- A valid map entry names an outlet of a node. -/
def MapEntry.Names (m : MapEntry) (a : Addr) (ix : OutIx) : Prop := m.valid = true ∧ m.node = a ∧ m.outlet = ix

section
variable (m : MapEntry) (c : Controller)

theorem forgetEntry_remapKept : c.RemapKept (c.forgetEntry m) := by
  unfold Controller.forgetEntry
  split
  · refine ⟨rfl, fun a => ?_, portKept_of_port rfl, id⟩
    rw [updNode_node]
    split
    · next h => rw [← h]
    · rfl
  · exact remapKept_refl c

theorem forgetEntry_outlet (x : Bay) : (c.forgetEntry m).outlet x = c.outlet x := by
  unfold Controller.forgetEntry
  split <;> rfl

variable {m} {a : Addr} {ix : OutIx}

theorem forgetEntry_named (h : m.Names a ix) : ((c.forgetEntry m).node a).outOutlet.get ix = none := by
  obtain ⟨hv, rfl, rfl⟩ := h
  rw [Controller.forgetEntry, if_pos hv, updNode_node_self]
  exact Table.get_set_self _ _ _

theorem forgetEntry_unnamed (h : ¬ m.Names a ix) : ((c.forgetEntry m).node a).outOutlet.get ix = (c.node a).outOutlet.get ix := by
  unfold Controller.forgetEntry
  split
  · next hv =>
    rw [updNode_node]
    split
    · next ha =>
      rw [← ha]
      exact Table.get_set_of_ne _ _ fun hix => h ⟨hv, ha, hix⟩
    · rfl
  · rfl

/-- What is forgotten stays so. -/
theorem forgetEntry_none (h : (c.node a).outOutlet.get ix = none) : ((c.forgetEntry m).node a).outOutlet.get ix = none := by
  by_cases hm : m.Names a ix
  · exact forgetEntry_named c hm
  · exact (forgetEntry_unnamed c hm).trans h

end

/-! ### One bay handed over (R31, R126) -/

/-- The bay's map entry in a copy. -/
abbrev Settings.entry (x : Settings) (b : Bay) : MapEntry := (x.bays.get b).map

/-- The entry of a bay in force names a node that is there to check it against (R126). -/
def Controller.NodeThere (b : Bay) (c : Controller) : Prop :=
  (c.bay b).map.valid = true ∧ (c.node (c.bay b).map.node).state ≠ .ABSENT

/-- The outlet of the entry in force is found at the node that the entry names (R126). -/
def Controller.OutletFound (b : Bay) (c : Controller) : Prop := (c.node (c.bay b).map.node).carries (c.bay b).map.outlet = true

/-- A bay whose map entry changed, before its map check. -/
def Controller.remapped (old : MapEntry) (b : Bay) (c : Controller) : Controller :=
  ((c.forgetEntry old).forgetEntry (c.bay b).map).updOutlet b (Outlet.remap (c.bay b).map.valid)

section
variable {before : Settings} {b : Bay} {c : Controller}

theorem remapBay_same (h : (c.bay b).map = before.entry b) : c.remapBay before b = c := if_pos h

theorem remapBay_unchecked (h : (c.bay b).map ≠ before.entry b) (hn : ¬ c.NodeThere b) :
    c.remapBay before b = c.remapped (before.entry b) b :=
  (if_neg h).trans (if_neg (by rwa [Bool.and_eq_true, bne_iff_ne]))

theorem remapBay_checked (h : (c.bay b).map ≠ before.entry b) (hn : c.NodeThere b) :
    c.remapBay before b = (c.remapped (before.entry b) b).mapCheck b :=
  (if_neg h).trans (if_pos (by rwa [Bool.and_eq_true, bne_iff_ne]))

variable (b c)

theorem remapped_remapKept (old : MapEntry) : c.RemapKept (c.remapped old b) :=
  remapKept_trans (remapKept_trans (forgetEntry_remapKept old c) (forgetEntry_remapKept (c.bay b).map _))
    (remapKept_of_mapChecked (mapChecked_updOutlet _ b _))

theorem remapped_outlet_self (old : MapEntry) : (c.remapped old b).outlet b = (c.outlet b).change (Outlet.remap (c.bay b).map.valid) := by
  rw [Controller.remapped, updOutlet_outlet_self, forgetEntry_outlet, forgetEntry_outlet]

theorem mapCheck_outlet_of_ne {x : Bay} (hx : b ≠ x) : (c.mapCheck b).outlet x = c.outlet x := by
  unfold Controller.mapCheck
  dsimp only
  split
  · rw [updOutlet_outlet, if_neg hx]
  · rw [raise_outlet, updOutlet_outlet, if_neg hx]

/-- What is handed over of a bay: nothing, the bay alone, or the bay with its map check. -/
theorem remapBay_cases {P : Controller → Prop} (same : P c) (remapped : P (c.remapped (before.entry b) b))
    (checked : P ((c.remapped (before.entry b) b).mapCheck b)) : P (c.remapBay before b) := by
  by_cases h : (c.bay b).map = before.entry b
  · rwa [remapBay_same h]
  · by_cases hn : c.NodeThere b
    · rwa [remapBay_checked h hn]
    · rwa [remapBay_unchecked h hn]

variable (before)

theorem remapBay_remapKept : c.RemapKept (c.remapBay before b) :=
  remapBay_cases b c (remapKept_refl c) (remapped_remapKept b c _)
    (remapKept_trans (remapped_remapKept b c _) (remapKept_of_mapChecked (mapCheck_mapChecked _ b)))

theorem remapBay_outlet_of_ne {x : Bay} (hx : b ≠ x) : (c.remapBay before b).outlet x = c.outlet x := by
  have hremapped : (c.remapped (before.entry b) b).outlet x = c.outlet x := by
    rw [Controller.remapped, updOutlet_outlet, if_neg hx, forgetEntry_outlet, forgetEntry_outlet]
  exact remapBay_cases (P := fun d => d.outlet x = c.outlet x) b c rfl hremapped ((mapCheck_outlet_of_ne b _ hx).trans hremapped)

end

/-! ### The setpoints of one bay (R131) -/

section
variable {before : Settings} {b : Bay} {c : Controller} {a : Addr} {ix : OutIx}

/-- Of the outstanding setpoints, a bay handed over forgets those of its two entries. -/
theorem remapBay_node (h : (c.bay b).map ≠ before.entry b) (a : Addr) :
    (c.remapBay before b).node a = ((c.forgetEntry (before.entry b)).forgetEntry (c.bay b).map).node a := by
  by_cases hn : c.NodeThere b
  · rw [remapBay_checked h hn, mapChecked_node (mapCheck_mapChecked _ b)]
    rfl
  · rw [remapBay_unchecked h hn]
    rfl

theorem remapBay_forgets (h : (c.bay b).map ≠ before.entry b) (hm : (before.entry b).Names a ix ∨ (c.bay b).map.Names a ix) :
    ((c.remapBay before b).node a).outOutlet.get ix = none := by
  rw [remapBay_node h]
  rcases hm with hm | hm
  · exact forgetEntry_none _ (forgetEntry_named c hm)
  · exact forgetEntry_named _ hm

theorem remapBay_keeps_setpoint
    (h : ¬ ((c.bay b).map ≠ before.entry b ∧ ((before.entry b).Names a ix ∨ (c.bay b).map.Names a ix))) :
    ((c.remapBay before b).node a).outOutlet.get ix = (c.node a).outOutlet.get ix := by
  by_cases hdiff : (c.bay b).map = before.entry b
  · rw [remapBay_same hdiff]
  · obtain ⟨hold, hnew⟩ := not_or.mp fun hm => h ⟨hdiff, hm⟩
    rw [remapBay_node hdiff, forgetEntry_unnamed _ hnew, forgetEntry_unnamed c hold]

theorem remapBay_none (h : (c.node a).outOutlet.get ix = none) : ((c.remapBay before b).node a).outOutlet.get ix = none := by
  by_cases hm : (c.bay b).map ≠ before.entry b ∧ ((before.entry b).Names a ix ∨ (c.bay b).map.Names a ix)
  · exact remapBay_forgets hm.1 hm.2
  · exact (remapBay_keeps_setpoint hm).trans h

end

/-! ### The outlet of one bay (R31, R126) -/

/-- A bay handed over, from `c` to `d`: its outlet starts anew, and with a valid entry its offline cause tells the map check. -/
structure Controller.HandedOver (b : Bay) (c d : Controller) : Prop where
  outlet : ∃ cause v ch, d.outlet b =
    { (c.outlet b).remap (c.bay b).map.valid with offlineCause := cause, raiseReleased := v, changed := ch }
  seen : (c.bay b).map.valid = true → (c.node (c.bay b).map.node).state = .ABSENT ∨ c.OutletFound b →
    (d.outlet b).offlineCause = some .NOT_SEEN
  mismatch : c.NodeThere b → ¬ c.OutletFound b → (d.outlet b).offlineCause = some .MAP_MISMATCH ∧ d.raised .outletMapMismatch

section
variable {b : Bay} {c d e : Controller}

/-- What the other bays and a release change of a bay handed over does not matter to it. -/
theorem handedOver_then (h : c.HandedOver b d) (ho : (d.outlet b).alike (e.outlet b))
    (hr : d.raised .outletMapMismatch → e.raised .outletMapMismatch) : c.HandedOver b e := by
  obtain ⟨w, hw⟩ := (alike_iff _ _).mp ho
  obtain ⟨⟨cause, v, ch, hd⟩, hseen, hmismatch⟩ := h
  have hcause : (e.outlet b).offlineCause = (d.outlet b).offlineCause := by rw [hw]
  refine ⟨⟨cause, w, ch, by rw [hw, hd]⟩, fun hv hs => hcause.trans (hseen hv hs), fun ht hf => ?_⟩
  obtain ⟨hm, hraised⟩ := hmismatch ht hf
  exact ⟨hcause.trans hm, hr hraised⟩

theorem remapKept_outletFound (h : c.RemapKept d) : d.OutletFound b ↔ c.OutletFound b := by
  unfold Controller.OutletFound
  rw [remapKept_bay h, h.nodes]
  exact Iff.rfl

theorem remapKept_state (h : c.RemapKept d) (a : Addr) : (d.node a).state = (c.node a).state := by
  rw [h.nodes]

/-- What the bays handed over earlier have changed does not matter either. -/
theorem handedOver_after (hk : c.RemapKept d) (ho : d.outlet b = c.outlet b) (h : d.HandedOver b e) : c.HandedOver b e := by
  obtain ⟨houtlet, hseen, hmismatch⟩ := h
  rw [Controller.NodeThere, remapKept_outletFound hk, remapKept_bay hk, remapKept_state hk] at hmismatch
  rw [remapKept_outletFound hk, remapKept_bay hk, remapKept_state hk] at hseen
  rw [remapKept_bay hk, ho] at houtlet
  exact ⟨houtlet, hseen, hmismatch⟩

theorem mapCheck_outlet_found (h : c.OutletFound b) : (c.mapCheck b).outlet b = (c.outlet b).change fun o =>
    if o.state = .OFFLINE ∧ o.offlineCause = some .MAP_MISMATCH then { o with offlineCause := some .NOT_SEEN } else o :=
  (congrArg (Controller.outlet · b) (if_pos h)).trans (updOutlet_outlet_self _ _ _)

theorem mapCheck_outlet_missing (h : ¬ c.OutletFound b) : (c.mapCheck b).outlet b =
    (c.outlet b).change fun o => { o with state := .OFFLINE, offlineCause := some .MAP_MISMATCH } :=
  (congrArg (Controller.outlet · b) (if_neg h)).trans (updOutlet_outlet_self _ _ _)

theorem mapCheck_missing_raised (h : ¬ c.OutletFound b) : (c.mapCheck b).raised .outletMapMismatch :=
  ((mapCheck_checkedAs c b).1 h).2.2

/-- The map check of a bay that has started anew. -/
theorem mapCheck_handedOver (old : MapEntry) (hn : c.NodeThere b) : c.HandedOver b ((c.remapped old b).mapCheck b) := by
  obtain ⟨hv, hstate⟩ := hn
  have hfound := remapKept_outletFound (b := b) (remapped_remapKept b c old)
  have ho := remapped_outlet_self b c old
  rw [hv] at ho
  by_cases hf : c.OutletFound b
  · have hcheck := mapCheck_outlet_found (hfound.mpr hf)
    rw [ho] at hcheck
    exact ⟨by rw [hv]; exact ⟨_, _, _, hcheck⟩, fun _ _ => congrArg Outlet.offlineCause hcheck, fun _ h => absurd hf h⟩
  · have hcheck := mapCheck_outlet_missing (mt hfound.mp hf)
    rw [ho] at hcheck
    exact ⟨by rw [hv]; exact ⟨_, _, _, hcheck⟩, fun _ h => absurd (h.resolve_left hstate) hf,
      fun _ _ => ⟨congrArg Outlet.offlineCause hcheck, mapCheck_missing_raised (mt hfound.mp hf)⟩⟩

theorem remapBay_handedOver {before : Settings} (h : (c.bay b).map ≠ before.entry b) : c.HandedOver b (c.remapBay before b) := by
  by_cases hn : c.NodeThere b
  · rw [remapBay_checked h hn]
    exact mapCheck_handedOver _ hn
  · rw [remapBay_unchecked h hn]
    have ho := remapped_outlet_self b c (before.entry b)
    refine ⟨⟨_, _, _, ho⟩, fun hv _ => ?_, fun ht => absurd ht hn⟩
    rw [ho, hv]
    rfl

end

/-! ### Every bay handed over (R173) -/

/-- Every bay handed over, and the release judged. -/
def Controller.handOver (before : Settings) (c : Controller) : Controller := (forBays (Controller.remapBay before) c).judgeRelease

section
variable (before : Settings) (c : Controller)

theorem remapAll_remapKept : c.RemapKept (forBays (Controller.remapBay before) c) :=
  forBays_keeps (fun d => c.RemapKept d) (fun b d hd => remapKept_trans hd (remapBay_remapKept before b d)) (remapKept_refl c)

theorem handOver_remapKept : c.RemapKept (c.handOver before) :=
  remapKept_trans (remapAll_remapKept before c) (judgeRelease_remapKept _)

theorem handOver_node (a : Addr) : (c.handOver before).node a = (forBays (Controller.remapBay before) c).node a :=
  node_eq_of_link (judgeRelease_leaves _).2.2.2.1 a

variable {before c}

/-- A bay whose entry has not changed stays. -/
theorem handOver_outlet_same {x : Bay} (h : (c.bay x).map = before.entry x) : (c.outlet x).alike ((c.handOver before).outlet x) := by
  have hall : (forBays (Controller.remapBay before) c).outlet x = c.outlet x :=
    (forBays_keeps (f := Controller.remapBay before) (fun d => c.RemapKept d ∧ d.outlet x = c.outlet x) (fun y d ⟨hk, ho⟩ => by
      refine ⟨remapKept_trans hk (remapBay_remapKept before y d), ?_⟩
      by_cases hy : y = x
      · rwa [hy, remapBay_same (by rwa [remapKept_bay hk])]
      · exact (remapBay_outlet_of_ne before y d hy).trans ho) ⟨remapKept_refl c, rfl⟩).2
  rw [← hall]
  exact (alike_iff _ _).mpr (judgeRelease_outlet_eq _ x)

/-- A bay whose entry has changed is handed over. -/
theorem handOver_handedOver {x : Bay} (h : (c.bay x).map ≠ before.entry x) : c.HandedOver x (c.handOver before) := by
  have hall : c.HandedOver x (forBays (Controller.remapBay before) c) :=
    forBays_at (f := Controller.remapBay before) (x := x) (A := fun d => c.RemapKept d ∧ d.outlet x = c.outlet x)
      (B := fun d => c.HandedOver x d)
      (fun y d hy ⟨hk, ho⟩ => ⟨remapKept_trans hk (remapBay_remapKept before y d), (remapBay_outlet_of_ne before y d hy).trans ho⟩)
      (fun d ⟨hk, ho⟩ => handedOver_after hk ho (remapBay_handedOver (by rwa [remapKept_bay hk])))
      (fun y d hy hd => handedOver_then hd (by rw [remapBay_outlet_of_ne before y d hy]; rfl) (remapBay_remapKept before y d).mismatch)
      ⟨remapKept_refl c, rfl⟩
  exact handedOver_then hall ((alike_iff _ _).mpr (judgeRelease_outlet_eq _ x)) (judgeRelease_remapKept _).mismatch

/-- A changed entry, old or new, names an outlet of a node (R131, log 35). -/
def Controller.Forgets (before : Settings) (a : Addr) (ix : OutIx) (c : Controller) : Prop :=
  ∃ y, (c.bay y).map ≠ before.entry y ∧ ((before.entry y).Names a ix ∨ (c.bay y).map.Names a ix)

theorem handOver_forgets {a : Addr} {ix : OutIx} (h : c.Forgets before a ix) : ((c.handOver before).node a).outOutlet.get ix = none := by
  obtain ⟨x, hdiff, hm⟩ := h
  rw [handOver_node]
  exact forBays_at (f := Controller.remapBay before) (x := x) (A := fun d => c.RemapKept d)
    (B := fun d => (d.node a).outOutlet.get ix = none) (fun y d _ hk => remapKept_trans hk (remapBay_remapKept before y d))
    (fun d hk => remapBay_forgets (by rwa [remapKept_bay hk]) (by rwa [remapKept_bay hk])) (fun _ _ _ => remapBay_none) (remapKept_refl c)

theorem handOver_keeps_setpoint {a : Addr} {ix : OutIx} (h : ¬ c.Forgets before a ix) :
    ((c.handOver before).node a).outOutlet.get ix = (c.node a).outOutlet.get ix := by
  rw [handOver_node]
  exact (forBays_keeps (f := Controller.remapBay before) (fun d => c.RemapKept d ∧ (d.node a).outOutlet.get ix = (c.node a).outOutlet.get ix)
    (fun y d ⟨hk, hd⟩ => ⟨remapKept_trans hk (remapBay_remapKept before y d),
      (remapBay_keeps_setpoint fun hm => h ⟨y, by rwa [remapKept_bay hk] at hm⟩).trans hd⟩) ⟨remapKept_refl c, rfl⟩).2

end

/-! ### COMMIT_COMPLETE (R173) -/

/-- A commit stored, before its bays are handed over: steps 1 to 5 of R173. -/
def Controller.committed (w : Working) (c : Controller) : Controller :=
  (c.updSettings (SettingsBlock.complete w)).raise .settingsCommitted

theorem exec_commitComplete {s : State} {w : Working} (htaking : s.ctl.taking = true) (hc : s.ctl.settings.commit.isSome = true)
    (hw : s.ctl.settings.working = some w) :
    exec .commitComplete s = .next (s.put ((s.ctl.committed w).handOver s.ctl.settings.stored)) := by
  obtain ⟨ms, hms⟩ := Option.isSome_iff_exists.mp hc
  show execCommitComplete s = _
  rw [execCommitComplete, event_taking _ htaking, hms, hw]
  rfl

theorem orElse_eq_ite {α : Type} (x y : Option α) : (x <|> y) = if x.isSome then x else y := by
  cases x <;> rfl

/-- The settings block at a completion, with the cells programmed at most once (R173, R178, R179). -/
theorem complete_eq (w : Working) (b : SettingsBlock) : b.complete w = { b with
    stored := w.settings, working := none, commit := none
    fuseCell := if b.fuseCell.isSome then b.fuseCell else if w.settings.level = .FUSED then some w.settings.tariff else none
    siteCell := if b.siteCell.isSome then b.siteCell else w.siteNumber
    serialCell := if b.serialCell.isSome then b.serialCell else w.serial } := by
  rw [SettingsBlock.complete, SettingsBlock.fuseAfter, orElse_eq_ite, orElse_eq_ite, orElse_eq_ite]

theorem carries_iff (n : Node) (ix : OutIx) :
    n.carries ix = true ↔ n.state ≠ .IGNORED ∧ n.kind = some .PEDESTAL ∧ ix.val < n.outlets := by
  simp only [Node.carries, Bool.and_eq_true, bne_iff_ne, beq_iff_eq, decide_eq_true_eq, and_assoc]

/-- Settles O54: the blocks and cells of the completion, the setpoints forgotten, and each bay by whether its entry has changed. -/
theorem commitStoresTheWorkingCopy : Obligations.CommitStoresTheWorkingCopy := by
  intro s w htaking hc hw b
  have hexec := exec_commitComplete htaking hc hw
  have hkept := handOver_remapKept b.stored (s.ctl.committed w)
  have hforgets := fun a ix => handOver_forgets (before := b.stored) (c := s.ctl.committed w) (a := a) (ix := ix)
  have hkeeps := fun a ix => handOver_keeps_setpoint (before := b.stored) (c := s.ctl.committed w) (a := a) (ix := ix)
  have hsame := fun y => handOver_outlet_same (before := b.stored) (c := s.ctl.committed w) (x := y)
  have hanew := fun y => handOver_handedOver (before := b.stored) (c := s.ctl.committed w) (x := y)
  generalize (s.ctl.committed w).handOver b.stored = d at hexec hkept hforgets hkeeps hsame hanew
  obtain ⟨hblocks, hnodes, hport, -⟩ := hkept
  refine ⟨_, hexec, ?settings, hport.raised _ (by decide) (by decide) (raised_raise _ _), ?credit, ?pool, ?run, ?lines, ?storage, ?link,
    hnodes, fun a ix => ⟨hforgets a ix, hkeeps a ix⟩, fun y => ⟨hsame y, fun h => ?changed⟩⟩
  case changed =>
    obtain ⟨⟨cause, v, ch, ho⟩, hseen, hmismatch⟩ := hanew y h
    rw [Controller.OutletFound, carries_iff] at hseen hmismatch
    exact ⟨(congrArg Outlet.state ho :), (congrArg Outlet.inForce ho :), (congrArg Outlet.pending ho :), (congrArg Outlet.baseline ho :),
      (congrArg Outlet.beforeSilence ho :), (congrArg Outlet.faultList ho :), (congrArg Outlet.lifetime ho :),
      (congrArg Outlet.overdraw ho :), (congrArg Outlet.startTimer ho :), (congrArg Outlet.fundingWait ho :),
      (congrArg Outlet.holdOff ho :), (congrArg Outlet.pauseMinimum ho :), (congrArg Outlet.silenceHold ho :), hseen,
      fun hv ha => hmismatch ⟨hv, ha⟩⟩
  all_goals rw [hblocks]
  case settings => exact complete_eq w b
  all_goals rfl

end Sys2Proof.Machine
end

section
/-! SUPPORT. The items of the settings: their numbers (R205), the values that each takes (R167), and a write of one item that is read back
with every other item as it was (R170, R171). -/

namespace Sys2Proof.Machine

/-! ### The numbers of the items (R205) -/

section
variable {it : Item} {ix : Option Nat} {g i : Nat}

theorem named_of_plain {x : Item} (hx : x.named = (g, i, none)) (h : plain x ix = some it) : it.named = (g, i, ix) := by
  cases ix with
  | none => rwa [← Option.some.inj h]
  | some k => nomatch h

theorem named_of_indexed {n : Nat} {mk : Fin n → Item} (hmk : ∀ k, (mk k).named = (g, i, some k.val)) (h : indexed mk ix = some it) :
    it.named = (g, i, ix) := by
  cases ix with
  | none => nomatch h
  | some k =>
    unfold indexed at h
    dsimp only at h
    split at h
    · rw [← Option.some.inj h, hmk]
    · nomatch h

theorem bayOf?_eq_some_iff {n : Nat} {b : Bay} : bayOf? n = some b ↔ b.val + 1 = n := by
  constructor
  · intro h
    by_cases hn : 1 ≤ n ∧ n ≤ 24
    · obtain rfl := Option.some.inj ((dif_pos hn).symm.trans h)
      exact Nat.sub_add_cancel hn.1
    · nomatch (bayOf_eq_none hn).symm.trans h
  · rintro rfl
    exact bayOf_succ b

theorem named_of_perBay {mk : Bay → Item} (hmk : ∀ b, (mk b).named = (g, i, some (b.val + 1))) (h : perBay mk ix = some it) :
    it.named = (g, i, ix) := by
  cases ix with
  | none => nomatch h
  | some k =>
    obtain ⟨b, hb, rfl⟩ := Option.map_eq_some_iff.mp h
    rw [hmk, bayOf?_eq_some_iff.mp hb]

end

theorem indexed_val {n : Nat} (mk : Fin n → Item) (k : Fin n) : indexed mk (some k.val) = some (mk k) := dif_pos k.isLt

theorem perBay_succ (mk : Bay → Item) (b : Bay) : perBay mk (some (b.val + 1)) = some (mk b) := by
  rw [perBay, bayOf_succ]
  rfl

theorem itemOf_named (it : Item) : itemOf it.named.1 it.named.2.1 it.named.2.2 = some it := by
  cases it with
  | bank i => exact indexed_val .bank i
  | window i => exact indexed_val .window i
  | boost i => exact indexed_val .boost i
  | map b => exact perBay_succ .map b
  | pMax b => exact perBay_succ .pMax b
  | pMin b => exact perBay_succ .pMin b
  | priority b => exact perBay_succ .priority b
  | minTier b => exact perBay_succ .minTier b
  | paidContinuation b => exact perBay_succ .paidContinuation b
  | _ => rfl

/-- The items are named by their numbers: an item without an index, with one, or with a bay. -/
theorem itemOf_eq_some_iff (g i : Nat) (ix : Option Nat) (it : Item) : itemOf g i ix = some it ↔ it.named = (g, i, ix) := by
  constructor
  · intro h
    unfold itemOf at h
    split at h
    all_goals first
      | exact named_of_plain rfl h
      | exact named_of_indexed (fun _ => rfl) h
      | exact named_of_perBay (fun _ => rfl) h
      | nomatch h
  · intro h
    have hitem := itemOf_named it
    rwa [h] at hitem

/-! ### Fields in their ranges -/

theorem flagOf?_eq_some_iff {n : Nat} {v : Bool} : flagOf? n = some v ↔ v.toNat = n := by
  unfold flagOf?
  split
  · cases v <;> decide
  · cases v <;> decide
  · next h0 h1 => exact ⟨(nomatch ·), fun h => by cases v <;> simp_all⟩

theorem addrOf?_eq_some_iff {n : Nat} {a : Addr} : addrOf? n = some a ↔ a.val + 1 = n := by
  constructor
  · intro h
    by_cases hn : 1 ≤ n ∧ n ≤ 30
    · obtain rfl := Option.some.inj ((dif_pos hn).symm.trans h)
      exact Nat.sub_add_cancel hn.1
    · nomatch (addrOf?_eq_none hn).symm.trans h
  · rintro rfl
    exact addrOf?_val_succ a

theorem outIxOf?_eq_some_iff {n : Nat} {ix : OutIx} : outIxOf? n = some ix ↔ ix.val + 1 = n := by
  constructor
  · intro h
    by_cases hn : 1 ≤ n ∧ n ≤ 4
    · obtain rfl := Option.some.inj ((dif_pos hn).symm.trans h)
      exact Nat.sub_add_cancel hn.1
    · nomatch (dif_neg hn : outIxOf? n = none).symm.trans h
  · rintro rfl
    exact outIxOf_succ ix

theorem exists_toNat_iff {n : Nat} : (∃ v : Bool, v.toNat = n) ↔ n ≤ 1 :=
  ⟨fun ⟨v, hv⟩ => hv ▸ v.toNat_le, fun h => by
    obtain rfl | rfl := Nat.le_one_iff_eq_zero_or_eq_one.mp h
    · exact ⟨false, rfl⟩
    · exact ⟨true, rfl⟩⟩

theorem exists_succ_iff {m n : Nat} : (∃ k : Fin m, k.val + 1 = n) ↔ 1 ≤ n ∧ n ≤ m :=
  ⟨fun ⟨k, hk⟩ => by omega, fun ⟨h1, hm⟩ => ⟨⟨n - 1, by omega⟩, Nat.sub_add_cancel h1⟩⟩

/-- A map entry is the one that its four bytes spell. -/
theorem mapOf?_eq_some_iff {valid node outlet managed : Nat} {m : MapEntry} : mapOf? valid node outlet managed = some m ↔
    m.valid.toNat = valid ∧ m.node.val + 1 = node ∧ m.outlet.val + 1 = outlet ∧ m.managed.toNat = managed := by
  simp only [mapOf?, Option.bind_eq_bind, Option.bind_eq_some_iff, Option.pure_def, Option.some.injEq, flagOf?_eq_some_iff,
    addrOf?_eq_some_iff, outIxOf?_eq_some_iff]
  constructor
  · rintro ⟨v, hv, a, ha, o, ho, g, hg, rfl⟩
    exact ⟨hv, ha, ho, hg⟩
  · rintro ⟨hv, ha, ho, hg⟩
    exact ⟨_, hv, _, ha, _, ho, _, hg, rfl⟩

theorem mapOf?_isSome_iff {valid node outlet managed : Nat} : (mapOf? valid node outlet managed).isSome = true ↔
    valid ≤ 1 ∧ 1 ≤ node ∧ node ≤ 30 ∧ 1 ≤ outlet ∧ outlet ≤ 4 ∧ managed ≤ 1 := by
  simp only [Option.isSome_iff_exists, mapOf?_eq_some_iff]
  constructor
  · rintro ⟨m, rfl, rfl, rfl, rfl⟩
    exact ⟨m.valid.toNat_le, by omega, by omega, by omega, by omega, m.managed.toNat_le⟩
  · rintro ⟨hv, ha, ha', ho, ho', hg⟩
    obtain ⟨v, hv⟩ := exists_toNat_iff.mpr hv
    obtain ⟨a, ha⟩ := exists_succ_iff.mpr ⟨ha, ha'⟩
    obtain ⟨o, ho⟩ := exists_succ_iff.mpr ⟨ho, ho'⟩
    obtain ⟨g, hg⟩ := exists_toNat_iff.mpr hg
    exact ⟨{ valid := v, node := a, outlet := o, managed := g }, hv, ha, ho, hg⟩

/-- A reserve window is the one that its three fields spell, in their ranges. -/
theorem windowOf?_eq_some_iff {start floor grid : Nat} {w : ReserveWindow} : windowOf? start floor grid = some w ↔
    (w.start = start ∧ w.floor = floor ∧ w.gridCharge.toNat = grid) ∧ start ≤ 1439 ∧ floor ≤ 2000000 := by
  simp only [windowOf?, Option.bind_eq_bind, Option.bind_eq_some_iff, Option.pure_def, Option.ite_none_right_eq_some, Option.some.injEq,
    flagOf?_eq_some_iff]
  constructor
  · rintro ⟨g, hg, hrange, rfl⟩
    exact ⟨⟨rfl, rfl, hg⟩, hrange⟩
  · rintro ⟨⟨rfl, rfl, hg⟩, hrange⟩
    exact ⟨_, hg, hrange, rfl⟩

theorem windowOf?_isSome_iff {start floor grid : Nat} :
    (windowOf? start floor grid).isSome = true ↔ start ≤ 1439 ∧ floor ≤ 2000000 ∧ grid ≤ 1 := by
  simp only [Option.isSome_iff_exists, windowOf?_eq_some_iff]
  constructor
  · rintro ⟨w, ⟨-, -, rfl⟩, hs, hf⟩
    exact ⟨hs, hf, w.gridCharge.toNat_le⟩
  · rintro ⟨hs, hf, hg⟩
    obtain ⟨g, hg⟩ := exists_toNat_iff.mpr hg
    exact ⟨{ start := start, floor := floor, gridCharge := g }, ⟨rfl, rfl, hg⟩, hs, hf⟩

/-! ### Numbers in their ranges (R167) -/

theorem inRange_eq_some_iff {lo hi v : Nat} {n : Int} : inRange lo hi n = some v ↔ lo ≤ v ∧ v ≤ hi ∧ (v : Int) = n := by
  rw [inRange, Option.ite_none_right_eq_some, Option.some.injEq]
  omega

theorem inRange_isSome_iff {lo hi : Nat} {n : Int} : (inRange lo hi n).isSome = true ↔ (lo : Int) ≤ n ∧ n ≤ (hi : Int) := by
  unfold inRange
  split <;> simp_all

/-- A range as `Item.takes` spells it. -/
theorem inRange_takes {lo hi : Nat} {n : Int} :
    (∃ r : Nat × Nat, some (lo, hi) = some r ∧ (r.1 : Int) ≤ n ∧ n ≤ (r.2 : Int)) ↔ (inRange lo hi n).isSome = true := by
  rw [inRange_isSome_iff]
  exact ⟨fun ⟨r, hr, hn⟩ => by obtain rfl := Option.some.inj hr; exact hn, fun hn => ⟨_, rfl, hn⟩⟩

/-- A number in a range that passes a further test. -/
theorem inRange_bind_isSome_iff {lo hi : Nat} {n : Int} {p : Nat → Prop} [DecidablePred p] :
    ((inRange lo hi n).bind fun v => if p v then some v else none).isSome = true ↔ ∃ v : Nat, lo ≤ v ∧ v ≤ hi ∧ (v : Int) = n ∧ p v := by
  simp only [Option.isSome_iff_exists, Option.bind_eq_some_iff, inRange_eq_some_iff, Option.ite_none_right_eq_some, Option.some.injEq]
  exact ⟨fun ⟨_, v, ⟨hl, hh, hn⟩, hp, _⟩ => ⟨v, hl, hh, hn, hp⟩, fun ⟨v, hl, hh, hn, hp⟩ => ⟨v, v, ⟨hl, hh, hn⟩, hp, rfl⟩⟩

theorem bank_takes (i : Fin 8) (n : Int) : (Item.bank i).takes (.num n) ↔ ((Item.bank i).number n).isSome = true := by
  refine Iff.trans ?_ inRange_bind_isSome_iff.symm
  show 0 ≤ n ∧ n ≤ 1000000 ∧ n % 100 = 0 ↔ _
  constructor
  · rintro ⟨h0, hn, hm⟩
    exact ⟨n.toNat, by omega, by omega, by omega, by omega⟩
  · rintro ⟨v, -, hv, rfl, hm⟩
    omega

theorem regionSize_takes (n : Int) : Item.regionSize.takes (.num n) ↔ (Item.regionSize.number n).isSome = true := by
  refine Iff.trans ?_ inRange_bind_isSome_iff.symm
  show n ∈ [0, 32, 64, 128, 256, 512, 1024] ↔ _
  simp only [List.mem_cons, List.not_mem_nil, or_false]
  constructor
  · intro h
    exact ⟨n.toNat, by omega, by omega, by omega, by omega⟩
  · rintro ⟨v, -, -, rfl, hv⟩
    omega

/-- The number of an item is in its range exactly when the item takes it. -/
theorem takes_num_iff (it : Item) (n : Int) : it.takes (.num n) ↔ (it.number n).isSome = true := by
  cases it with
  | bank i => exact bank_takes i n
  | regionSize => exact regionSize_takes n
  | map b => exact ⟨fun ⟨_, h, _⟩ => (nomatch h), (nomatch ·)⟩
  | window i => exact ⟨fun ⟨_, h, _⟩ => (nomatch h), (nomatch ·)⟩
  | lockLevel => exact ⟨fun ⟨_, h, _⟩ => (nomatch h), (nomatch ·)⟩
  | _ => exact inRange_takes

/-- The value of an item's number is the number. -/
theorem number_val {it : Item} {n : Int} {v : Nat} (h : it.number n = some v) : (v : Int) = n := by
  cases it with
  | bank i | regionSize =>
    obtain ⟨u, hu, hv⟩ := Option.bind_eq_some_iff.mp h
    obtain ⟨-, hv⟩ := Option.ite_none_right_eq_some.mp hv
    rw [← Option.some.inj hv]
    exact (inRange_eq_some_iff.mp hu).2.2
  | map b | window i | lockLevel => nomatch h
  | _ => exact (inRange_eq_some_iff.mp h).2.2

end Sys2Proof.Machine
end

section
/-! SUPPORT. A write of one item into the working copy (R170), read back with every other item as it was (R171). -/

namespace Sys2Proof.Machine

/-! ### A write by the kind of its item (R170) -/

/-- An item whose number stands in the settings of a copy. -/
def Item.inCopy : Item → Bool
  | .map _ | .window _ | .lockLevel | .siteNumber | .cabinetSerial => false
  | _ => true

/-- The five kinds of items: a number of the copy, a map entry, a reserve window, an identity value, the lock level. -/
theorem item_kinds {P : Item → Prop} (number : ∀ it, it.inCopy = true → P it) (map : ∀ b, P (.map b)) (window : ∀ i, P (.window i))
    (site : P .siteNumber) (serial : P .cabinetSerial) (lock : P .lockLevel) (it : Item) : P it := by
  cases it with
  | map b => exact map b
  | window i => exact window i
  | siteNumber => exact site
  | cabinetSerial => exact serial
  | lockLevel => exact lock
  | _ => exact number _ rfl

section
variable (w : Working) {it : Item}

theorem write_number (hin : it.inCopy = true) (n : Int) :
    w.write it (.num n) = (it.number n).map fun v => { w with settings := it.putNumber v w.settings } := by
  cases it with
  | map b | window i | siteNumber | cabinetSerial | lockLevel => nomatch hin
  | _ => rfl

theorem write_number_map (hin : it.inCopy = true) (v a o m : Nat) : w.write it (.map v a o m) = none := by
  cases it with
  | map b => nomatch hin
  | _ => rfl

theorem write_number_window (hin : it.inCopy = true) (x : Option (Nat × Nat × Nat)) : w.write it (.window x) = none := by
  cases it with
  | window i => nomatch hin
  | _ => rfl

end

/-- A number is put into the working copy exactly when it is in its item's range. -/
theorem write_num_isSome (w : Working) (it : Item) (n : Int) : (w.write it (.num n)).isSome = (it.number n).isSome := by
  refine item_kinds (P := fun it => (w.write it (.num n)).isSome = (it.number n).isSome) (fun it hin => ?_) (fun _ => rfl) (fun _ => rfl)
    ?_ ?_ rfl it
  · rw [write_number w hin, Option.isSome_map]
  · exact Option.isSome_map
  · exact Option.isSome_map

/-- An item takes the values of its range in R167 and no others. -/
theorem write_isSome_iff (w : Working) (it : Item) (v : SettingValue) : (w.write it v).isSome = true ↔ it.takes v := by
  cases v with
  | num n => rw [write_num_isSome, takes_num_iff]
  | map valid node outlet managed =>
    cases it with
    | map b => exact (Bool.eq_iff_iff.mp Option.isSome_map).trans mapOf?_isSome_iff
    | _ => exact ⟨(nomatch ·), False.elim⟩
  | window x =>
    cases it with
    | window i =>
      cases x with
      | none => exact ⟨fun _ => trivial, fun _ => rfl⟩
      | some x => exact (Bool.eq_iff_iff.mp Option.isSome_map).trans windowOf?_isSome_iff
    | _ => exact ⟨(nomatch ·), False.elim⟩

/-- Whether a value is put into a copy does not depend on the copy. -/
theorem write_isSome_congr (w w0 : Working) (it : Item) (v : SettingValue) : (w.write it v).isSome = (w0.write it v).isSome :=
  Bool.eq_iff_iff.mpr ((write_isSome_iff w it v).trans (write_isSome_iff w0 it v).symm)

/-! ### A number put into the settings of a copy -/

section
variable (s : Settings) {b y : Bay} (f : BaySettings → BaySettings)

theorem updBay_self : (s.updBay b f).bays.get b = f (s.bays.get b) := Table.get_set_self _ _ _

theorem updBay_of_ne (h : b ≠ y) : (s.updBay b f).bays.get y = s.bays.get y := Table.get_set_of_ne _ _ h

theorem updBay_elsewhere {α : Type} (field : BaySettings → α) (h : b ≠ y) :
    field ((s.updBay b f).bays.get y) = field (s.bays.get y) := congrArg field (updBay_of_ne s f h)

/-- What a change of one bay keeps of its settings, it keeps at every bay. -/
theorem updBay_keeps {α : Type} (field : BaySettings → α) (h : ∀ x, field (f x) = field x) :
    field ((s.updBay b f).bays.get y) = field (s.bays.get y) := by
  by_cases hb : b = y
  · rw [hb, updBay_self, h]
  · rw [updBay_of_ne s f hb]

end

/-- Two copies hold the same value of an item. -/
def Working.agrees (w w' : Working) : Item → Prop
  | .map b => (w'.settings.bays.get b).map = (w.settings.bays.get b).map
  | .pMax b => (w'.settings.bays.get b).pMax = (w.settings.bays.get b).pMax
  | .pMin b => (w'.settings.bays.get b).pMin = (w.settings.bays.get b).pMin
  | .priority b => (w'.settings.bays.get b).priority = (w.settings.bays.get b).priority
  | .minTier b => (w'.settings.bays.get b).minTier = (w.settings.bays.get b).minTier
  | .paidContinuation b => (w'.settings.bays.get b).paidContinuation = (w.settings.bays.get b).paidContinuation
  | .window i => w'.settings.windows.get i = w.settings.windows.get i
  | .siteNumber => w'.siteNumber = w.siteNumber
  | .cabinetSerial => w'.serial = w.serial
  | .lockLevel => w'.settings.level = w.settings.level
  | it => it.getNumber w'.settings = it.getNumber w.settings

theorem number_le_one {n : Int} {v : Nat} (h : inRange 0 1 n = some v) : v ≤ 1 := (inRange_eq_some_iff.mp h).2.1

theorem toNat_beq_one {v : Nat} (h : v ≤ 1) : (v == 1).toNat = v := by
  obtain rfl | rfl := Nat.le_one_iff_eq_zero_or_eq_one.mp h <;> rfl

/-- A number that has been put is the one that is held. -/
theorem getNumber_putNumber {it : Item} (hin : it.inCopy = true) {n : Int} {v : Nat} (h : it.number n = some v) (s : Settings) :
    it.getNumber (it.putNumber v s) = v := by
  cases it with
  | bank i => exact Table.get_set_self s.banks i v
  | boost i => exact Table.get_set_self s.tariff.boosts i v
  | pMax b => exact congrArg BaySettings.pMax (updBay_self s fun x => { x with pMax := v })
  | pMin b => exact congrArg BaySettings.pMin (updBay_self s fun x => { x with pMin := v })
  | priority b => exact congrArg BaySettings.priority (updBay_self s fun x => { x with priority := v })
  | minTier b => exact congrArg BaySettings.minTier (updBay_self s fun x => { x with minTier := v })
  | paidContinuation b =>
    exact (congrArg (·.paidContinuation.toNat) (updBay_self s fun x => { x with paidContinuation := v == 1 })).trans
      (toNat_beq_one (number_le_one h))
  | regionTop | regionComplement => exact toNat_beq_one (number_le_one h)
  | map b | window i | siteNumber | cabinetSerial | lockLevel => nomatch hin
  | _ => rfl

/-- Of another item a number put leaves the value: it stands in another field, or at another index of the same one. -/
theorem putNumber_agrees (w : Working) (it : Item) (v : Nat) {x : Item} (hx : x ≠ it) :
    w.agrees { w with settings := it.putNumber v w.settings } x := by
  cases it with
  | bank i =>
    cases x with
    | bank j => exact Table.get_set_of_ne _ _ fun h => hx (h ▸ rfl)
    | _ => rfl
  | boost i =>
    cases x with
    | boost j => exact Table.get_set_of_ne _ _ fun h => hx (h ▸ rfl)
    | _ => rfl
  | pMax b =>
    cases x with
    | pMax y => exact updBay_elsewhere w.settings _ BaySettings.pMax fun h => hx (h ▸ rfl)
    | map y | pMin y | priority y | minTier y | paidContinuation y => exact updBay_keeps w.settings _ _ fun _ => rfl
    | _ => rfl
  | pMin b =>
    cases x with
    | pMin y => exact updBay_elsewhere w.settings _ BaySettings.pMin fun h => hx (h ▸ rfl)
    | map y | pMax y | priority y | minTier y | paidContinuation y => exact updBay_keeps w.settings _ _ fun _ => rfl
    | _ => rfl
  | priority b =>
    cases x with
    | priority y => exact updBay_elsewhere w.settings _ BaySettings.priority fun h => hx (h ▸ rfl)
    | map y | pMax y | pMin y | minTier y | paidContinuation y => exact updBay_keeps w.settings _ _ fun _ => rfl
    | _ => rfl
  | minTier b =>
    cases x with
    | minTier y => exact updBay_elsewhere w.settings _ BaySettings.minTier fun h => hx (h ▸ rfl)
    | map y | pMax y | pMin y | priority y | paidContinuation y => exact updBay_keeps w.settings _ _ fun _ => rfl
    | _ => rfl
  | paidContinuation b =>
    cases x with
    | paidContinuation y => exact updBay_elsewhere w.settings _ BaySettings.paidContinuation fun h => hx (h ▸ rfl)
    | map y | pMax y | pMin y | priority y | minTier y => exact updBay_keeps w.settings _ _ fun _ => rfl
    | _ => rfl
  | _ =>
    cases x
    all_goals first
      | rfl
      | exact absurd rfl hx

/-- A map entry put leaves every other item. -/
theorem putMap_agrees (w : Working) (b : Bay) (m : MapEntry) {x : Item} (hx : x ≠ .map b) :
    w.agrees { w with settings := w.settings.updBay b fun y => { y with map := m } } x := by
  cases x with
  | map y => exact updBay_elsewhere w.settings _ BaySettings.map fun h => hx (h ▸ rfl)
  | pMax y | pMin y | priority y | minTier y | paidContinuation y => exact updBay_keeps w.settings _ _ fun _ => rfl
  | _ => rfl

/-- A reserve window put leaves every other item. -/
theorem putWindow_agrees (w : Working) (i : Fin 6) (held : Option ReserveWindow) {x : Item} (hx : x ≠ .window i) :
    w.agrees { w with settings := { w.settings with windows := w.settings.windows.set i held } } x := by
  cases x with
  | window j => exact Table.get_set_of_ne _ _ fun h => hx (h ▸ rfl)
  | _ => rfl

/-! ### What a write that is taken has done (R170) -/

section
variable {w w' : Working} {v : SettingValue}

theorem write_number_cases {it : Item} (hin : it.inCopy = true) (h : w.write it v = some w') :
    ∃ (n : Int) (k : Nat), v = .num n ∧ it.number n = some k ∧ w' = { w with settings := it.putNumber k w.settings } := by
  cases v with
  | num n =>
    rw [write_number w hin] at h
    obtain ⟨k, hk, rfl⟩ := Option.map_eq_some_iff.mp h
    exact ⟨n, k, rfl, hk, rfl⟩
  | map valid node outlet managed => nomatch (write_number_map w hin valid node outlet managed).symm.trans h
  | window x => nomatch (write_number_window w hin x).symm.trans h

theorem write_map_cases {b : Bay} (h : w.write (.map b) v = some w') : ∃ (valid node outlet managed : Nat) (m : MapEntry),
    v = .map valid node outlet managed ∧ mapOf? valid node outlet managed = some m
      ∧ w' = { w with settings := w.settings.updBay b fun y => { y with map := m } } := by
  cases v with
  | map valid node outlet managed =>
    obtain ⟨m, hm, rfl⟩ := Option.map_eq_some_iff.mp h
    exact ⟨valid, node, outlet, managed, m, rfl, hm, rfl⟩
  | num n => nomatch h
  | window x => nomatch h

/-- A window value as it is held: absent, or its three fields. -/
def windowHeld : Option (Nat × Nat × Nat) → Option ReserveWindow → Prop
  | none, held => held = none
  | some (start, floor, grid), held => ∃ r, windowOf? start floor grid = some r ∧ held = some r

theorem write_window_cases {i : Fin 6} (h : w.write (.window i) v = some w') : ∃ x held, v = .window x ∧ windowHeld x held
    ∧ w' = { w with settings := { w.settings with windows := w.settings.windows.set i held } } := by
  cases v with
  | window x =>
    cases x with
    | none => exact ⟨none, none, rfl, rfl, (Option.some.inj h).symm⟩
    | some x =>
      obtain ⟨r, hr, rfl⟩ := Option.map_eq_some_iff.mp h
      exact ⟨some x, some r, rfl, ⟨r, hr, rfl⟩, rfl⟩
  | num n => nomatch h
  | map valid node outlet managed => nomatch h

theorem write_siteNumber_cases (h : w.write .siteNumber v = some w') :
    ∃ (n : Int) (k : Nat), v = .num n ∧ Item.siteNumber.number n = some k ∧ w' = { w with siteNumber := some k } := by
  cases v with
  | num n =>
    obtain ⟨k, hk, rfl⟩ := Option.map_eq_some_iff.mp h
    exact ⟨n, k, rfl, hk, rfl⟩
  | map valid node outlet managed => nomatch h
  | window x => nomatch h

theorem write_cabinetSerial_cases (h : w.write .cabinetSerial v = some w') :
    ∃ (n : Int) (k : Nat), v = .num n ∧ Item.cabinetSerial.number n = some k ∧ w' = { w with serial := some k } := by
  cases v with
  | num n =>
    obtain ⟨k, hk, rfl⟩ := Option.map_eq_some_iff.mp h
    exact ⟨n, k, rfl, hk, rfl⟩
  | map valid node outlet managed => nomatch h
  | window x => nomatch h

theorem write_lockLevel (w : Working) (v : SettingValue) : w.write .lockLevel v = none := by
  cases v <;> rfl

/-- A write leaves every other item. -/
theorem write_agrees {it x : Item} (h : w.write it v = some w') (hx : x ≠ it) : w.agrees w' x := by
  revert h hx
  refine item_kinds (P := fun it => w.write it v = some w' → x ≠ it → w.agrees w' x) (fun it hin h hx => ?number) (fun b h hx => ?map)
    (fun i h hx => ?window) (fun h hx => ?site) (fun h hx => ?serial) (fun h _ => ?lock) it
  case number =>
    obtain ⟨n, k, -, -, rfl⟩ := write_number_cases hin h
    exact putNumber_agrees w it k hx
  case map =>
    obtain ⟨valid, node, outlet, managed, m, -, -, rfl⟩ := write_map_cases h
    exact putMap_agrees w b m hx
  case window =>
    obtain ⟨y, held, -, -, rfl⟩ := write_window_cases h
    exact putWindow_agrees w i held hx
  case site =>
    obtain ⟨n, k, -, -, rfl⟩ := write_siteNumber_cases h
    cases x with
    | siteNumber => exact absurd rfl hx
    | _ => rfl
  case serial =>
    obtain ⟨n, k, -, -, rfl⟩ := write_cabinetSerial_cases h
    cases x with
    | cabinetSerial => exact absurd rfl hx
    | _ => rfl
  case lock => nomatch (write_lockLevel w v).symm.trans h

end

/-! ### SETTING_READ in setup (R171) -/

/-- The block with a working copy. -/
abbrev SettingsBlock.holding (b : SettingsBlock) (w : Working) : SettingsBlock := { b with working := some w }

section
variable (b : SettingsBlock) {w w' : Working}

theorem read_number {it : Item} (hin : it.inCopy = true) : (b.holding w).read it = .num (it.getNumber w.settings) := by
  cases it with
  | map b | window i | siteNumber | cabinetSerial | lockLevel => nomatch hin
  | _ => rfl

/-- Copies that hold the same value of an item give the same reading of it. -/
theorem read_of_agrees {x : Item} (h : w.agrees w' x) : (b.holding w').read x = (b.holding w).read x := by
  cases x with
  | map y => exact congrArg ItemValue.map h
  | window i => exact congrArg ItemValue.window h
  | siteNumber => exact congrArg (fun n => ItemValue.identity (b.siteCell <|> n)) h
  | cabinetSerial => exact congrArg (fun n => ItemValue.identity (b.serialCell <|> n)) h
  | lockLevel =>
    have hlevel : (b.holding w').workingLevel = (b.holding w).workingLevel := congrArg some h
    show ItemValue.lock _ _ _ _ _ = .lock _ _ _ _ _
    rw [SettingsBlock.level, SettingsBlock.level, hlevel]
  | paidContinuation y => exact congrArg (fun v : Bool => ItemValue.num v.toNat) h
  | _ => exact congrArg ItemValue.num h

/-- SETTING_READ returns the value written; an identity item's where its cell is not programmed yet (R171, R179). -/
theorem read_isWritten {it : Item} {v : SettingValue} (h : w.write it v = some w') (hsite : it = .siteNumber → b.siteCell = none)
    (hserial : it = .cabinetSerial → b.serialCell = none) : ((b.holding w').read it).isWritten v := by
  revert h hsite hserial
  refine item_kinds (P := fun it => w.write it v = some w' → (it = .siteNumber → b.siteCell = none) →
    (it = .cabinetSerial → b.serialCell = none) → ((b.holding w').read it).isWritten v) (fun it hin h _ _ => ?number)
    (fun y h _ _ => ?map) (fun i h _ _ => ?window) (fun h hsite _ => ?site) (fun h _ hserial => ?serial) (fun h _ _ => ?lock) it
  case number =>
    obtain ⟨n, k, rfl, hk, rfl⟩ := write_number_cases hin h
    rw [read_number b hin, getNumber_putNumber hin hk]
    exact number_val hk
  case map =>
    obtain ⟨valid, node, outlet, managed, m, rfl, hm, rfl⟩ := write_map_cases h
    show (ItemValue.map ((w.settings.updBay y fun z => { z with map := m }).bays.get y).map).isWritten _
    rw [updBay_self]
    exact mapOf?_eq_some_iff.mp hm
  case window =>
    obtain ⟨x, held, rfl, hheld, rfl⟩ := write_window_cases h
    show (ItemValue.window ((w.settings.windows.set i held).get i)).isWritten _
    rw [Table.get_set_self]
    cases x with
    | none =>
      obtain rfl : held = none := hheld
      trivial
    | some x =>
      obtain ⟨r, hr, rfl⟩ := hheld
      exact (windowOf?_eq_some_iff.mp hr).1
  case site =>
    obtain ⟨n, k, rfl, hk, rfl⟩ := write_siteNumber_cases h
    show (ItemValue.identity (b.siteCell <|> some k)).isWritten _
    rw [hsite rfl]
    exact number_val hk
  case serial =>
    obtain ⟨n, k, rfl, hk, rfl⟩ := write_cabinetSerial_cases h
    show (ItemValue.identity (b.serialCell <|> some k)).isWritten _
    rw [hserial rfl]
    exact number_val hk
  case lock => nomatch (write_lockLevel w v).symm.trans h

/-- A write is read back, and every other item as it was. -/
theorem write_read_back {it : Item} {v : SettingValue} (hw : b.working = some w) (h : w.write it v = some w')
    (hsite : it = .siteNumber → b.siteCell = none) (hserial : it = .cabinetSerial → b.serialCell = none) :
    ((b.holding w').read it).isWritten v ∧ ∀ x, x ≠ it → (b.holding w').read x = b.read x := by
  have hb : b = b.holding w := by rw [SettingsBlock.holding, ← hw]
  exact ⟨read_isWritten b h hsite hserial, fun x hx => (read_of_agrees b (write_agrees h hx)).trans (by rw [← hb])⟩

end

end Sys2Proof.Machine
end

section
/-! SUPPORT. SETUP_BEGIN, SETUP_ABANDON and SETTING_WRITE (R169, R170, R174), and O51. -/

namespace Sys2Proof.Machine

/-! ### SETUP_BEGIN (R169) -/

/-- The working copy that SETUP_BEGIN loads: its OPEN level raised to KEYED under the latch. -/
theorem loaded_eq (b : SettingsBlock) : b.loaded =
    { settings := { b.stored with level := if b.stored.level = .OPEN ∧ b.latch = true then .KEYED else b.stored.level }
      siteNumber := none, serial := none } := by
  have hlevel : b.stored.level.raisedBy b.latch = if b.stored.level = .OPEN ∧ b.latch = true then .KEYED else b.stored.level := by
    cases b.stored.level <;> cases b.latch <;> rfl
  rw [SettingsBlock.loaded, hlevel]

section
variable {s : State} (htaking : s.ctl.taking = true)
include htaking

theorem exec_setupBegin_committing (hc : s.ctl.settings.commit.isSome = true) :
    exec .setupBegin s = .next (s.put (s.ctl.answer 0x50 .BUSY .none)) := by
  show execSetupBegin s = _
  rw [execSetupBegin, command_taken _ _ htaking, taken_settings, if_pos hc]
  rfl

variable (hc : s.ctl.settings.commit = none)
include hc

theorem exec_setupBegin_in_setup (hw : s.ctl.settings.working.isSome = true) :
    exec .setupBegin s = .next (s.put (s.ctl.answer 0x50 .WRONG_STATE .none)) := by
  show execSetupBegin s = _
  rw [execSetupBegin, command_taken _ _ htaking, taken_settings, hc, SettingsBlock.setupFlag, hw]
  rfl

variable (hw : s.ctl.settings.working = none)
include hw

/-- Outside setup SETUP_BEGIN looks for a session. -/
theorem exec_setupBegin_outside : exec .setupBegin s = .next (s.put (match s.ctl.lowestSession with
    | some y => s.ctl.answer 0x50 .NOT_QUIET (.lowestBay y)
    | none => ({ s.ctl with settings := { s.ctl.settings with working := some s.ctl.settings.loaded } } : Controller).answer 0x50 .OK
        .none)) := by
  show execSetupBegin s = _
  rw [execSetupBegin, command_taken _ _ htaking, taken_settings, hc, SettingsBlock.setupFlag, hw]
  rfl

theorem exec_setupBegin_not_quiet {y : Bay} (hy : (s.ctl.outlet y).session.isSome = true)
    (hmin : ∀ x, x < y → (s.ctl.outlet x).session = none) :
    exec .setupBegin s = .next (s.put (s.ctl.answer 0x50 .NOT_QUIET (.lowestBay y))) := by
  have hlowest : s.ctl.lowestSession = some y :=
    lowest_eq_some_iff.mpr ⟨hy, fun x hx => Option.isSome_eq_false_iff.mpr (Option.isNone_iff_eq_none.mpr (hmin x hx))⟩
  rw [exec_setupBegin_outside htaking hc hw, hlowest]

theorem exec_setupBegin_quiet (hquiet : ∀ y, (s.ctl.outlet y).session = none) : exec .setupBegin s = .next (s.put
    (({ s.ctl with settings := { s.ctl.settings with working := some s.ctl.settings.loaded } } : Controller).answer 0x50 .OK .none)) := by
  have hlowest : s.ctl.lowestSession = none :=
    lowest_eq_none_iff.mpr fun x => Option.isSome_eq_false_iff.mpr (Option.isNone_iff_eq_none.mpr (hquiet x))
  rw [exec_setupBegin_outside htaking hc hw, hlowest]

end

/-! ### SETUP_ABANDON (R174) -/

/-- SETUP_ABANDON in setup. -/
def Controller.abandonSetup (c : Controller) : Controller :=
  if c.settings.latch = true ∧ c.settings.stored.level = .OPEN then
    (c.updSettings fun b => { b with working := some b.keyedCopy }.beginCommit).ok 0x54 (.committing true)
  else (c.updSettings fun b => { b with working := none }).ok 0x54 .none

theorem exec_setupAbandon (s : State) :
    exec .setupAbandon s = command 0x54 (Controller.setupCommand 0x54 Controller.abandonSetup) s := rfl

section
variable {s : State} (htaking : s.ctl.taking = true) (hw : s.ctl.settings.working.isSome = true) (hc : s.ctl.settings.commit = none)
include htaking hw hc

theorem exec_setupAbandon_commits (hlatch : s.ctl.settings.latch = true) (hopen : s.ctl.settings.stored.level = .OPEN) :
    exec .setupAbandon s = .next (s.put (({ s.ctl with settings := { s.ctl.settings with
      working := some s.ctl.settings.keyedCopy, commit := some 250 } } : Controller).answer 0x54 .OK (.committing true))) := by
  rw [exec_in_setup htaking (exec_setupAbandon s) hw hc, Controller.abandonSetup, taken_settings, if_pos ⟨hlatch, hopen⟩]
  rfl

theorem exec_setupAbandon_discards (h : s.ctl.settings.latch = false ∨ s.ctl.settings.stored.level ≠ .OPEN) :
    exec .setupAbandon s = .next (s.put
      (({ s.ctl with settings := { s.ctl.settings with working := none } } : Controller).answer 0x54 .OK .none)) := by
  have hkeep : ¬ (s.ctl.settings.latch = true ∧ s.ctl.settings.stored.level = .OPEN) := fun ⟨hlatch, hopen⟩ =>
    h.elim (fun hf => Bool.false_ne_true (hf.symm.trans hlatch)) (· hopen)
  rw [exec_in_setup htaking (exec_setupAbandon s) hw hc, Controller.abandonSetup, taken_settings, if_neg hkeep]
  rfl

end

/-! ### The refusals of SETTING_WRITE (R170, R176, R179) -/

section
variable {level : Nat} {keyOpen : Bool}

theorem tariffRefusal_locked (h : lockedLevel ≤ level) : tariffRefusal level keyOpen = some .LOCKED_TARIFF := by
  unfold lockedLevel at h
  rw [tariffRefusal, if_neg (by omega), if_neg (by omega)]

theorem tariffRefusal_closed (h : level = 1) (hkey : keyOpen = false) : tariffRefusal level keyOpen = some .KEY_CLOSED := by
  rw [h, hkey]
  rfl

theorem tariffRefusal_free (h : level = 0 ∨ (level = 1 ∧ keyOpen = true)) : tariffRefusal level keyOpen = none := by
  rcases h with rfl | ⟨rfl, rfl⟩ <;> rfl

end

section
variable {b : SettingsBlock} {w : Working} (hw : b.working = some w)
include hw

theorem identityRefusal_site : b.identityRefusal .siteNumber = if b.siteCell.isSome || w.siteNumber.isSome then some .WRITTEN else none := by
  rw [SettingsBlock.identityRefusal, hw]
  rfl

theorem identityRefusal_serial :
    b.identityRefusal .cabinetSerial = if b.serialCell.isSome || w.serial.isSome then some .WRITTEN else none := by
  rw [SettingsBlock.identityRefusal, hw]
  rfl

/-- No item is WRITTEN but an identity item whose cell is programmed or which this setup has written. -/
theorem identityRefusal_free {it : Item} (hsite : it = .siteNumber → b.siteCell = none ∧ w.siteNumber = none)
    (hserial : it = .cabinetSerial → b.serialCell = none ∧ w.serial = none) : b.identityRefusal it = none := by
  cases it with
  | siteNumber =>
    obtain ⟨hcell, hcopy⟩ := hsite rfl
    rw [identityRefusal_site hw, hcell, hcopy]
    rfl
  | cabinetSerial =>
    obtain ⟨hcell, hcopy⟩ := hserial rfl
    rw [identityRefusal_serial hw, hcell, hcopy]
    rfl
  | _ => rfl

end

section
variable {c : Controller} {it : Item}

theorem writeRefusal_of_setup {status : Status} (h : c.settings.setupRefusal = some status) : c.writeRefusal it = some status := by
  rw [Controller.writeRefusal, h]

variable (h : c.settings.setupRefusal = none)
include h

theorem writeRefusal_of_tariff (ht : it.tariff = true) {status : Status}
    (hr : tariffRefusal c.settings.level c.lines.keylock.qualified = some status) : c.writeRefusal it = some status := by
  rw [Controller.writeRefusal, h, if_pos ht, hr]

theorem writeRefusal_of_free (ht : it.tariff = true → tariffRefusal c.settings.level c.lines.keylock.qualified = none) :
    c.writeRefusal it = c.settings.identityRefusal it := by
  have hfree : (if it.tariff then tariffRefusal c.settings.level c.lines.keylock.qualified else none) = none := by
    split
    · next htariff => exact ht htariff
    · rfl
  rw [Controller.writeRefusal, h, hfree]

end

/-! ### SETTING_WRITE (R170) -/

section
variable {s : State} (htaking : s.ctl.taking = true) {g i : Nat} {ix : Option Nat} {v : SettingValue}
include htaking

theorem exec_settingWrite_unknown (hitem : itemOf g i ix = none) :
    exec (.settingWrite g i ix v) s = .next (s.put (s.ctl.answer 0x51 .BAD_PARAM .none)) := by
  show execSettingWrite g i ix v s = _
  rw [execSettingWrite, command_taken _ _ htaking, hitem]
  rfl

variable {it : Item} (hitem : itemOf g i ix = some it)
include hitem

theorem exec_settingWrite_out_of_range (w : Working) (hv : w.write it v = none) :
    exec (.settingWrite g i ix v) s = .next (s.put (s.ctl.answer 0x51 .BAD_PARAM .none)) := by
  have hprobe : (s.ctl.settings.probeCopy.write it v).isNone = true := by
    rw [← Option.not_isSome, write_isSome_congr _ w, hv]
    rfl
  show execSettingWrite g i ix v s = _
  rw [execSettingWrite, command_taken _ _ htaking, hitem]
  dsimp only
  rw [taken_settings, if_pos hprobe]
  rfl

variable {w : Working} (hv : (w.write it v).isSome = true)
include hv

/-- The write of a value in its item's range: refused, or put into the working copy. -/
theorem exec_settingWrite_in_range : exec (.settingWrite g i ix v) s = .next (s.put (match s.ctl.writeRefusal it with
    | some status => s.ctl.answer 0x51 status .none
    | none => ({ s.ctl with settings := { s.ctl.settings with
        working := s.ctl.settings.working.bind fun w => w.write it v } } : Controller).answer 0x51 .OK (.written g i v))) := by
  have hprobe : ¬ (s.ctl.settings.probeCopy.write it v).isNone = true := by
    rw [← Option.not_isSome, write_isSome_congr _ w, hv]
    decide
  have hrefusal : (s.ctl.taken 0x51).writeRefusal it = s.ctl.writeRefusal it := rfl
  show execSettingWrite g i ix v s = _
  rw [execSettingWrite, command_taken _ _ htaking, hitem]
  dsimp only
  rw [taken_settings, if_neg hprobe, hrefusal]
  cases s.ctl.writeRefusal it <;> rfl

theorem exec_settingWrite_refused {status : Status} (h : s.ctl.writeRefusal it = some status) :
    exec (.settingWrite g i ix v) s = .next (s.put (s.ctl.answer 0x51 status .none)) := by
  rw [exec_settingWrite_in_range htaking hitem hv, h]

theorem exec_settingWrite_done (h : s.ctl.writeRefusal it = none) (hw : s.ctl.settings.working = some w) :
    exec (.settingWrite g i ix v) s = .next (s.put (({ s.ctl with settings := { s.ctl.settings with
      working := w.write it v } } : Controller).answer 0x51 .OK (.written g i v))) := by
  rw [exec_settingWrite_in_range htaking hitem hv, h, hw, Option.bind_some]

end

/-- Lines 3 to 6 of R170: a value in its item's range, while the setup flag is set. -/
theorem settingWrite_in_setup {s : State} (htaking : s.ctl.taking = true) {g i : Nat} {ix : Option Nat} {v : SettingValue} {it : Item}
    {w w' : Working} (hitem : itemOf g i ix = some it) (hw : s.ctl.settings.working = some w) (hwrite : w.write it v = some w') :
    let b := s.ctl.settings
    let refused := fun st => exec (.settingWrite g i ix v) s = .next (s.put (s.ctl.answer 0x51 st .none))
    (b.commit.isSome = true → refused .BUSY)
    ∧ (b.commit = none → it.tariff = true → lockedLevel ≤ b.level → refused .LOCKED_TARIFF)
    ∧ (b.commit = none → it.tariff = true → b.level = 1 → s.ctl.lines.keylock.qualified = false → refused .KEY_CLOSED)
    ∧ (b.commit = none → it = .siteNumber → b.siteCell.isSome = true ∨ w.siteNumber.isSome = true → refused .WRITTEN)
    ∧ (b.commit = none → it = .cabinetSerial → b.serialCell.isSome = true ∨ w.serial.isSome = true → refused .WRITTEN)
    ∧ (b.commit = none → (it.tariff = true → b.level = 0 ∨ (b.level = 1 ∧ s.ctl.lines.keylock.qualified = true)) →
      (it = .siteNumber → b.siteCell = none ∧ w.siteNumber = none) → (it = .cabinetSerial → b.serialCell = none ∧ w.serial = none) →
      exec (.settingWrite g i ix v) s = .next (s.put
        (({ s.ctl with settings := { b with working := some w' } } : Controller).answer 0x51 .OK (.written g i v)))) := by
  intro b refused
  have hflag : b.working.isSome = true := by rw [hw]; rfl
  have refuses := fun st => exec_settingWrite_refused htaking hitem (w := w) (by rw [hwrite]; rfl) (status := st)
  refine ⟨fun hc => ?_, fun hc ht hl => ?_, fun hc ht hl hkey => ?_, fun hc hit hcell => ?_, fun hc hit hcell => ?_,
    fun hc ht hsite hserial => ?_⟩
  · exact refuses _ (writeRefusal_of_setup (setupRefusal_committing hflag hc))
  · exact refuses _ (writeRefusal_of_tariff (setupRefusal_open hflag hc) ht (tariffRefusal_locked hl))
  · exact refuses _ (writeRefusal_of_tariff (setupRefusal_open hflag hc) ht (tariffRefusal_closed hl hkey))
  · refine refuses _ ((writeRefusal_of_free (setupRefusal_open hflag hc) (by rw [hit]; exact (nomatch ·))).trans ?_)
    rw [hit, identityRefusal_site hw, if_pos (by rwa [Bool.or_eq_true])]
  · refine refuses _ ((writeRefusal_of_free (setupRefusal_open hflag hc) (by rw [hit]; exact (nomatch ·))).trans ?_)
    rw [hit, identityRefusal_serial hw, if_pos (by rwa [Bool.or_eq_true])]
  · have hfree : s.ctl.writeRefusal it = none :=
      (writeRefusal_of_free (setupRefusal_open hflag hc) fun h => tariffRefusal_free (ht h)).trans
        (identityRefusal_free hw hsite hserial)
    rw [exec_settingWrite_done htaking hitem (by rw [hwrite]; rfl) hfree hw, hwrite]

/-- Settles O51: the items and their values, a write read back, and the commands by the answer of each. -/
theorem setupEditsTheWorkingCopy : Obligations.SetupEditsTheWorkingCopy := by
  refine ⟨itemOf_eq_some_iff, write_isSome_iff, fun b w w' it v => write_read_back b, fun s htaking => ?_⟩
  intro b
  refine ⟨exec_setupBegin_committing htaking, exec_setupBegin_in_setup htaking, fun y hc hw hy hmin => ?notQuiet, fun hc hw hquiet => ?begins,
    fun i c hmem => ?refusals, fun hw hc => ⟨exec_setupAbandon_commits htaking hw hc, exec_setupAbandon_discards htaking hw hc⟩,
    fun g i ix v => ⟨exec_settingWrite_unknown htaking, fun it hitem => ⟨fun hv => ?range, fun hv hw => ?outside⟩,
      fun it w hitem hw => ⟨exec_settingWrite_out_of_range htaking hitem w, fun w' => settingWrite_in_setup htaking hitem hw⟩⟩⟩
  case notQuiet => exact exec_setupBegin_not_quiet htaking hc hw hy hmin
  case begins =>
    rw [exec_setupBegin_quiet htaking hc hw hquiet, loaded_eq]
  case refusals =>
    have hcommand : ∃ g, exec i s = command c (Controller.setupCommand c g) s := by
      simp only [List.mem_cons, Prod.mk.injEq, List.not_mem_nil, or_false] at hmem
      rcases hmem with ⟨rfl, rfl⟩ | ⟨rfl, rfl⟩ | ⟨rfl, rfl⟩
      · exact ⟨_, exec_setupEnd s⟩
      · exact ⟨_, exec_setupAbandon s⟩
      · exact ⟨_, exec_fuse s⟩
    obtain ⟨g, hexec⟩ := hcommand
    exact ⟨exec_outside_setup htaking hexec, exec_during_commit htaking hexec⟩
  case range => exact exec_settingWrite_out_of_range htaking hitem b.keyedCopy (hv _)
  case outside =>
    exact exec_settingWrite_refused htaking hitem (hv b.keyedCopy) (writeRefusal_of_setup (setupRefusal_outside hw))

end Sys2Proof.Machine
end
